-- ==== Sys2Proof/Word.lean ====
section
/-! DEFINITION. The few word types of the Rasjen MS310: the byte of a link frame and the eleven-bit notice set. -/

namespace Sys2Proof

/-- One byte of a link frame (R159, R160). -/
abbrev Byte := BitVec 8

/-- A set of notice kinds. R162 names eleven kinds and the layouts chapter numbers them bit 0 to bit 10
of a two-byte number whose bits 11 to 15 are 0, so the set is exactly the eleven bits. -/
abbrev NoticeSet := BitVec 11

/-- A number sent as one byte. -/
abbrev u8 (n : Nat) : List Byte := [BitVec.ofNat 8 n]

/-- A number of two bytes, most significant byte first (R159). -/
abbrev u16 (n : Nat) : List Byte := [BitVec.ofNat 8 (n / 256), BitVec.ofNat 8 n]

/-- The number that two bytes spell, most significant byte first (R159). -/
abbrev be16 (hi lo : Byte) : Nat := hi.toNat * 256 + lo.toNat

end Sys2Proof
end

