-- ==== Sys2Proof/Config.lean ====
section
/-! DEFINITION. What the part fixes for good: its fixed times, levels and limits, each with the rule that states it.
The part keeps time to 10 ms (00_scope, "Time"), so every fixed time but the waveform's is a count of 10 ms. One value is
left free: the byte that shows a link's state, for which the spec lists no codes (log 16). -/

namespace Sys2Proof.Config

/-- Microseconds in one 10 ms step of the part's time (00_scope, "Time"). -/
def microsPerTick : Nat := 10000

/-- The silence timing of R3, 100 ms, in microseconds. -/
def silenceMicros : Nat := 100000

/-- The period whose half is used before any valid cycle (R23), in microseconds. -/
def nominalPeriodMicros : Nat := 20000

/-- Nominal frequency in hundredths of a hertz (R27). -/
def nominalFrequency : Nat := 5000

/-- Lowest and highest frequency of a valid cycle (R2). -/
def validLow : Nat := 4000
def validHigh : Nat := 6000

/-- The discard run that declares waveform loss (R2). -/
def discardLimit : Nat := 5

/-- The valid run that leaves BLACK (R8), and the most entries of the history (R4). -/
def validLimit : Nat := 8
def historyLimit : Nat := 8

/-- The warm band (R5, R6). -/
def warmLow : Nat := 4950
def warmHigh : Nat := 5050

/-- The QUIET band (R18). -/
def quietLow : Nat := 4980
def quietHigh : Nat := 5020

/-- Full conduction, in sixty-fourths (R21, R22). -/
def fullLevel : Nat := 64

/-- The most claims in the Admission Queue (R61) and marks on the Lead Line (R70). -/
def queueLimit : Nat := 4
def lineLimit : Nat := 4

/-- The step guard of R70 and R71, 250 ms, in 10 ms. -/
def stepGuard : Nat := 25

/-- The wait limit of a claim that gives none (R48), 30.0 s, in tenths of a second. -/
def defaultWaitTenths : Nat := 300

/-- A proposal's life (R93), 5.0 s, in 10 ms. -/
def proposalTicks : Nat := 500

/-- The follow, stuck and disagreement timings (R110, R145), 0.5 s, in 10 ms. -/
def contactorTicks : Nat := 50

/-- The blade-pulse window (R135), 0.25 s, and the quiet timing, 2.0 s, in 10 ms. -/
def bladeWindowTicks : Nat := 25
def bladeQuietTicks : Nat := 200

/-- The greatest blade speed shown (R135), in per cent. -/
def bladeSpeedCap : Nat := 150

/-- Window ends below the stall level in a row that make a stall (R145). -/
def stallWindows : Nat := 3

/-- The divergence and agreement timings (R154), 5.0 s, in 10 ms. -/
def discrepancyTicks : Nat := 500

/-- Postings of a full snapshot capture (R155, R157). -/
def snapshotPostings : Nat := 10

/-- The supervision period the SUPERVISE strap gives (R168), 2.0 s, in tenths of a second. -/
def strapPeriodTenths : Nat := 20

/-- The greatest amount of power the part holds (00_scope, "Power"), in LU. -/
def maxPower : Nat := 9999

/-- The highest discarded-frame count (R160). -/
def discardedFrameCap : Nat := 255

/-- The most operand bytes of an order frame (R160). -/
def maxOperandBytes : Nat := 24

/-- The byte by which READ LINK shows LOST (true) or ACTIVE (false): the layouts chapter gives the field one byte and lists
no codes for it, so nothing is known of it (DESIGN CHOICE, log 16: a free value). -/
opaque linkStateCode : Bool → Byte

/-- A count of tenths of a second as a count of 10 ms. -/
abbrev tenths (n : Nat) : Nat := n * 10

/-- A count of whole seconds as a count of 10 ms. -/
abbrev seconds (n : Nat) : Nat := n * 100

/-- A count of whole minutes as a count of 10 ms. -/
abbrev minutes (n : Nat) : Nat := n * 6000

end Sys2Proof.Config
end

