-- ==== Sys2Proof/Syntax.lean ====
section
/-! DEFINITION. The commands of the MS310: one constructor of Instr for each row of spec/opcode_table.json, and the
names their operands are drawn from. -/

namespace Sys2Proof

/-- The three station links (R159): L1 Supply Station, L2 Saw Station, L3 Hamlet Station. -/
inductive Link where
  | l1 | l2 | l3
  deriving DecidableEq, Repr

/-- The station state (01, "The station state"). -/
inductive StationState where
  | black | warming | regulating | deficit | runaway
  deriving DecidableEq, Repr

/-- The deficit reason set: a set of at most two kinds (01, "The station state"). -/
structure Reasons where
  frequency : Bool
  budget : Bool
  deriving DecidableEq, Repr

/-- The empty deficit reason set. -/
abbrev Reasons.empty : Reasons := { frequency := false, budget := false }

/-- A report of a change of station state (R15): the state left, the state entered and the reason set after it. -/
structure StateReport where
  left : StationState
  entered : StationState
  reasons : Reasons
  deriving DecidableEq, Repr

/-- The last outcome of a claim (R42). -/
inductive Ending where
  | noEnding | withdrawn | released | expired | cancelled | shed | forced | linkLost | fault
  deriving DecidableEq, Repr

/-- What a claim binds (R44): nothing, an auxiliary output X1 to X6 (index 0 to 5), a feeder contactor F1 to F12
(index 0 to 11), or the saw. -/
inductive Binding where
  | nothing
  | aux (x : Fin 6)
  | feeder (k : Fin 12)
  | saw
  deriving DecidableEq, Repr

/-- The six settings tables (R91). -/
inductive TableId where
  | channels | saw | feeders | bands | shedOrder | thresholds
  deriving DecidableEq, Repr

/-- The three shared tables, which may have a pending proposal (R91, R93). -/
inductive SharedId where
  | bands | shedOrder | thresholds
  deriving DecidableEq, Repr

/-- The copy READ TABLE names (R91). -/
inductive CopyId where
  | committed | proposed
  deriving DecidableEq, Repr

/-- The panel KEY input (R97). -/
inductive Key where
  | keyRemote | keyLocal
  deriving DecidableEq, Repr

/-- The two saw targets of the Shed Order list (R100, R123). -/
inductive SawTarget where
  | feedHold | stop
  deriving DecidableEq, Repr

/-- The two block claims of the Saw Sequencer (R39): claim 4, the motor, and claim 5, the carriage. -/
inductive SawClaim where
  | motor | carriage
  deriving DecidableEq, Repr

/-- The three motor contactors with feedback (R134). -/
inductive MotorContactor where
  | line | star | delta
  deriving DecidableEq, Repr

/-- The two carriage limit switches (R134). -/
inductive LimitSwitch where
  | fwdEnd | retEnd
  deriving DecidableEq, Repr

/-- The two Lead Line reports to the regulator (R75). -/
inductive LineReport where
  | firstMark | empty
  deriving DecidableEq, Repr

/-- One sample of the eight analogue channels (R152): phase voltages in millivolts and currents in milliamperes at the
generator terminals (DESIGN CHOICE, log 3: the spec gives no resolution). -/
structure Sample where
  va : Int
  vb : Int
  vc : Int
  ia : Int
  ib : Int
  ic : Int
  isaw : Int
  ibal : Int
  deriving DecidableEq, Repr

/-- The operands of CLAIM (R46), times in tenths of a second; an operand marked absent on the wire (R173) is none. -/
structure ClaimOperands where
  number : Nat
  amount : Nat
  runAmount : Option Nat
  surgeTime : Option Nat
  leadTime : Nat
  waitLimit : Option Nat
  binding : Binding
  tag : Nat
  deriving DecidableEq, Repr

/-- The commands of the block, one for each row of spec/opcode_table.json, in the table's order. Events on a pin and
expiries come from the wiring and the part's own timers; requests and reports are the arrivals of what one block sent
another; the rest are orders of a station, each with the link that sent it. A feeder index k stands for feeder F(k+1). -/
inductive Instr where
  | powerOnReset
  | panelReset
  /-- Reset is released; the operand is the level of the SUPERVISE strap sampled during it (R168). -/
  | resetRelease (superviseStrap : Bool)
  /-- A rising crossing on ZC_A; the operands are the microseconds since the previous rising crossing (without meaning for
  a reference crossing) and the samples of the interval it closes, the first one and the rest (R1, R152). -/
  | cycleCompletion (interval : Nat) (first : Sample) (rest : List Sample)
  | halfCycleMidpoint
  | silenceExpiry
  | warmBandExpiry
  | shedTimingExpiry
  | fastTimingExpiry
  | recoveryTimingExpiry
  | runawayTimingExpiry
  | tripTimingExpiry
  | budgetRaiseRequest
  | budgetClearRequest
  | downStep (amount : Nat)
  | upStep (amount : Nat)
  | leadLineReport (r : LineReport)
  | allowanceStateReport (r : StateReport)
  | feederStateReport (r : StateReport)
  | sawStateReport (r : StateReport)
  | measurementStateReport (r : StateReport)
  | linkStateReport (l : Link) (r : StateReport)
  | waitExpiry (n : Fin 24)
  | dueEvent (n : Fin 24)
  | surgeExpiry (n : Fin 24)
  | surgeEndRequest
  | endRequest (n : Fin 24) (o : Ending)
  | feederAdmissionReport (k : Fin 12)
  | feederCarriedReport (k : Fin 12)
  | feederEndingReport (k : Fin 12) (o : Ending)
  | sawAdmissionReport (c : SawClaim)
  | sawCarriedReport (c : SawClaim)
  | sawEndingReport (c : SawClaim) (o : Ending)
  | shedRequest (t : SawTarget)
  | stepTimingHalfMark
  | stepTimingFullMark
  | restoreHoldExpiry
  | staggerExpiry
  /-- The new level of FBk: true is closed. -/
  | feederFeedbackChange (k : Fin 12) (closed : Bool)
  | followTimingExpiry (k : Fin 12)
  | stuckTimingExpiry (k : Fin 12)
  | bladePulse
  | bladeWindowEnd
  | bladeQuietExpiry
  | starTimeExpiry
  | deadTimeExpiry
  | sawFeedbackChange (c : MotorContactor) (closed : Bool)
  | disagreementTimingExpiry (c : MotorContactor)
  | limitChange (w : LimitSwitch) (active : Bool)
  | estopChange (active : Bool)
  | overloadTimingExpiry
  | resumeTimingExpiry
  | divergenceTimingExpiry
  | agreementTimingExpiry
  | proposalExpiry (t : SharedId)
  | keyChange (k : Key)
  | selectFall (l : Link)
  /-- SELECT rises: the whole bytes taken in during the window, and the CLOCK pulses beyond the last whole byte. -/
  | orderFrame (l : Link) (bytes : List Byte) (oddPulses : Nat)
  | supervisionExpiry (l : Link)
  | linkLossReportAllowance (l : Link)
  | linkLossReportSaw (l : Link)
  | null (l : Link)
  | readNotices (l : Link)
  | setNoticeMask (l : Link) (mask : NoticeSet)
  | openWindow (l : Link) (t : TableId) (first last : Nat)
  | loadData (l : Link) (bytes : List Byte)
  /-- The period is in tenths of a second. -/
  | supervise (l : Link) (period : Nat)
  | readLink (l : Link)
  | readResetCause (l : Link)
  | readStation (l : Link)
  | ackTrip (l : Link)
  | declare (l : Link) (d : Nat)
  | claim (l : Link) (ops : ClaimOperands)
  | withdraw (l : Link) (n : Nat)
  | release (l : Link) (n : Nat)
  | readClaim (l : Link) (n : Nat)
  | readTable (l : Link) (t : TableId) (record : Nat) (copy : CopyId)
  | confirm (l : Link) (t : TableId)
  | reject (l : Link) (t : TableId)
  /-- The feeder number k is the order's own operand byte, 1 to 12 when it is in range. -/
  | feederOn (l : Link) (k : Nat)
  | feederOff (l : Link) (k : Nat)
  | feederClear (l : Link) (k : Nat)
  | readFeeder (l : Link) (k : Nat)
  | sawStart (l : Link)
  | sawStop (l : Link)
  | sawFeed (l : Link)
  | sawReturn (l : Link)
  | sawHold (l : Link)
  | sawResume (l : Link)
  | sawClearFault (l : Link)
  | readSaw (l : Link)
  | takeSnapshot (l : Link)
  | readSnapshot (l : Link)
  deriving DecidableEq, Repr

end Sys2Proof
end

