-- ==== Sys2Proof/Machine/Tables.lean ====
section
/-! DEFINITION. The six settings tables of the Settings Unit (R91) with the default values the spec gives each setting. -/

namespace Sys2Proof.Machine

/-- The CHANNELS table (R34): the four ratings, the reserve floor and the loop gain, in LU. -/
structure ChannelsTable where
  rating : Vector Nat 4
  reserveFloor : Nat
  loopGain : Nat
  deriving DecidableEq, Repr

/-- SAW record 1 (R149). Times in tenths of a second, but the dead time in hundredths; speeds in per cent. -/
structure SawStartRecord where
  startSurge : Nat
  runAmount : Nat
  startLead : Nat
  starTimeMax : Nat
  changeoverSpeed : Nat
  startStallLevel : Nat
  deadTime : Nat
  ratedPulseRate : Nat
  stallLevel : Nat
  deriving DecidableEq, Repr

/-- SAW record 2 (R149). Times in tenths of a second. -/
structure SawFeedRecord where
  feedAmount : Nat
  returnAmount : Nat
  feedLead : Nat
  overloadMargin : Nat
  overloadTime : Nat
  resumeLevel : Nat
  resumeTime : Nat
  deriving DecidableEq, Repr

/-- The SAW table (R149). -/
structure SawTable where
  start : SawStartRecord
  feed : SawFeedRecord
  deriving DecidableEq, Repr

/-- The class of a feeder (R102). -/
inductive FeederClass where
  | ordinary | essential
  deriving DecidableEq, Repr

/-- One FEEDERS record, the configuration half of a feeder record (R102, R103). Lead time in tenths of a second. -/
structure FeederConfig where
  rating : Nat
  rank : Nat
  cls : FeederClass
  autoRestore : Bool
  leadTime : Nat
  deriving DecidableEq, Repr

/-- The BANDS table (R99). -/
structure BandsTable where
  hres : Nat
  wres : Nat
  deriving DecidableEq, Repr

/-- A target of the Shed Order list (R100). -/
inductive ShedTarget where
  | feeder (k : Fin 12)
  | saw (t : SawTarget)
  deriving DecidableEq, Repr

/-- The SHED ORDER table (R100): sixteen records, each a target or EMPTY (none). -/
abbrev ShedOrderTable := Vector (Option ShedTarget) 16

/-- The THRESHOLDS table (R132). Levels in hundredths of a hertz; delays, shed interval and stagger in tenths of a second;
restore hold and warm-up in seconds; lock window in minutes. -/
structure ThresholdsTable where
  shedThreshold : Nat
  shedDelay : Nat
  fastThreshold : Nat
  fastDelay : Nat
  recoveryLevel : Nat
  recoveryTime : Nat
  runawayLevel : Nat
  runawayDelay : Nat
  runawayExit : Nat
  tripLevel : Nat
  tripDelay : Nat
  shedInterval : Nat
  restoreHold : Nat
  stagger : Nat
  warmUp : Nat
  lockCount : Nat
  lockWindow : Nat
  deriving DecidableEq, Repr

/-- The committed copies of the six tables (R91). -/
structure Tables where
  channels : ChannelsTable
  saw : SawTable
  feeders : Vector FeederConfig 12
  bands : BandsTable
  shedOrder : ShedOrderTable
  thresholds : ThresholdsTable
  deriving DecidableEq, Repr

/-- One whole table, as staged, proposed or committed. -/
inductive TableCopy where
  | channels (t : ChannelsTable)
  | saw (t : SawTable)
  | feeders (t : Vector FeederConfig 12)
  | bands (t : BandsTable)
  | shedOrder (t : ShedOrderTable)
  | thresholds (t : ThresholdsTable)
  deriving DecidableEq, Repr

/-- R34, default values. -/
def ChannelsTable.default : ChannelsTable :=
  { rating := #v[0, 0, 0, 0], reserveFloor := 100, loopGain := 20 }

/-- R149, default values. -/
def SawTable.default : SawTable :=
  { start := { startSurge := 2400, runAmount := 800, startLead := 10, starTimeMax := 80, changeoverSpeed := 90,
               startStallLevel := 60, deadTime := 10, ratedPulseRate := 40, stallLevel := 70 }
    feed := { feedAmount := 600, returnAmount := 200, feedLead := 3, overloadMargin := 20, overloadTime := 5,
              resumeLevel := 50, resumeTime := 10 } }

/-- R103, default values of the record of the feeder numbered k. -/
def FeederConfig.default (k : Nat) : FeederConfig :=
  { rating := 0, rank := k, cls := .ordinary, autoRestore := false, leadTime := 5 }

/-- R103, default values. -/
def feedersDefault : Vector FeederConfig 12 :=
  #v[.default 1, .default 2, .default 3, .default 4, .default 5, .default 6, .default 7, .default 8, .default 9,
     .default 10, .default 11, .default 12]

/-- R99, default values. -/
def BandsTable.default : BandsTable := { hres := 400, wres := 0 }

/-- R100, default value: SAW_FEED_HOLD, F12 to F7, SAW_STOP, F6 to F1, then two EMPTY records. -/
def shedOrderDefault : ShedOrderTable :=
  #v[some (.saw .feedHold), some (.feeder 11), some (.feeder 10), some (.feeder 9), some (.feeder 8), some (.feeder 7),
     some (.feeder 6), some (.saw .stop), some (.feeder 5), some (.feeder 4), some (.feeder 3), some (.feeder 2),
     some (.feeder 1), some (.feeder 0), none, none]

/-- R132, default values. -/
def ThresholdsTable.default : ThresholdsTable :=
  { shedThreshold := 4850, shedDelay := 20, fastThreshold := 4750, fastDelay := 3, recoveryLevel := 4950,
    recoveryTime := 20, runawayLevel := 5150, runawayDelay := 10, runawayExit := 5050, tripLevel := 5500, tripDelay := 5,
    shedInterval := 10, restoreHold := 20, stagger := 30, warmUp := 10, lockCount := 3, lockWindow := 10 }

/-- The six tables as power-on reset sets them (R101). -/
def Tables.default : Tables :=
  { channels := .default, saw := .default, feeders := feedersDefault, bands := .default, shedOrder := shedOrderDefault,
    thresholds := .default }

/-- The copy of the named table. -/
def Tables.copy (ts : Tables) : TableId → TableCopy
  | .channels => .channels ts.channels
  | .saw => .saw ts.saw
  | .feeders => .feeders ts.feeders
  | .bands => .bands ts.bands
  | .shedOrder => .shedOrder ts.shedOrder
  | .thresholds => .thresholds ts.thresholds

/-- The tables with one of them replaced. -/
def Tables.store (ts : Tables) : TableCopy → Tables
  | .channels t => { ts with channels := t }
  | .saw t => { ts with saw := t }
  | .feeders t => { ts with feeders := t }
  | .bands t => { ts with bands := t }
  | .shedOrder t => { ts with shedOrder := t }
  | .thresholds t => { ts with thresholds := t }

/-- Which table a copy is of. -/
def TableCopy.id : TableCopy → TableId
  | .channels _ => .channels
  | .saw _ => .saw
  | .feeders _ => .feeders
  | .bands _ => .bands
  | .shedOrder _ => .shedOrder
  | .thresholds _ => .thresholds

/-- How many records a table holds (R91). -/
def recordCount : TableId → Nat
  | .channels => 5
  | .saw => 2
  | .feeders => 12
  | .bands => 1
  | .shedOrder => 16
  | .thresholds => 1

/-- The station that owns a table, or none for a shared table (R91). -/
def tableOwner : TableId → Option Link
  | .channels => some .l1
  | .saw => some .l2
  | .feeders => some .l3
  | .bands => none
  | .shedOrder => none
  | .thresholds => none

/-- The shared table of that name, or none for an owned table (R91). -/
def sharedOf : TableId → Option SharedId
  | .channels => none
  | .saw => none
  | .feeders => none
  | .bands => some .bands
  | .shedOrder => some .shedOrder
  | .thresholds => some .thresholds

/-- The table a shared name stands for. -/
def tableOf : SharedId → TableId
  | .bands => .bands
  | .shedOrder => .shedOrder
  | .thresholds => .thresholds

/-- The size in bytes of record r (from 1) of a table (11, "Settings records"). -/
def recordSize : TableId → Nat → Nat
  | .channels, r => if r = 5 then 3 else 2
  | .saw, r => if r = 1 then 12 else 9
  | .feeders, _ => 6
  | .bands, _ => 4
  | .shedOrder, _ => 1
  | .thresholds, _ => 24

/-- The Shed Order list (R100): the targets in record order up to the first EMPTY. -/
def shedList (t : ShedOrderTable) : List ShedTarget :=
  (t.toList.takeWhile Option.isSome).filterMap id

end Sys2Proof.Machine
end

