-- ==== Sys2Proof/Machine/State.lean ====
section
/-! DEFINITION. The state of the MS310 as plain data, block by block (00_scope, "The blocks in brief"), the queue of
commands waiting, the messages the blocks have sent one another and that have not arrived, and the state after reset.
Times are counts of 10 ms unless a field says microseconds. What follows from other fields (the carry enables, the driven
levels of the contactors, the auxiliary outputs, the ATTN lines, the ballast capacity, Bc, the water headroom, the pending
sum, the committed sums, the common need) is computed in Machine/Flags.lean, so that each thing has one home. -/

namespace Sys2Proof.Machine

/-- A timing of R5: stopped; running since a moment; or expired and complete, its condition still holding since then. -/
inductive Timing where
  | stopped
  | running (since : Nat)
  | complete (since : Nat)
  deriving DecidableEq, Repr

/-! ### Frequency Regulator (01, 02) -/

/-- What the Frequency Regulator holds. -/
structure Regulator where
  /-- station state (01, "The station state") -/
  station : StationState
  /-- deficit reason set -/
  reasons : Reasons
  /-- the moment, in microseconds, of the previous rising crossing while the silence timing runs (R1, R3); none: the next
  crossing is a reference crossing and the silence timing is stopped -/
  lastCrossing : Option Nat
  /-- discard run and valid run (R2) -/
  discardRun : Nat
  validRun : Nat
  /-- the history of valid cycle frequencies, oldest first, in hundredths of a hertz (R4) -/
  history : List Nat
  /-- the latest cycle completion was discarded with a cycle frequency above 60.00 Hz (R5, R16) -/
  overspeed : Bool
  /-- the six timings of R5 -/
  warmBand : Timing
  shed : Timing
  fast : Timing
  recovery : Timing
  runaway : Timing
  trip : Timing
  /-- the levels and delays the timings are judged by: the THRESHOLDS table as of the last test (R6) -/
  inForce : ThresholdsTable
  /-- the TRIP latch (R16); the TRIP output follows it -/
  tripLatch : Bool
  /-- the QUIET output (R18) -/
  quiet : Bool
  /-- whether the Lead Line is empty, by the last report of R75 -/
  lineEmpty : Bool
  /-- ratings in force and levels of channels 1 to 4 (R21) -/
  ratings : Vector Nat 4
  levels : Vector Nat 4
  /-- firing counts (R22) -/
  counts : Vector Nat 4
  /-- whether each channel conducts in the present half-cycle (R22); outputs BAL1 to BAL4 are low where it does (R32) -/
  conducting : Vector Bool 4
  /-- ballast demand Bd (R24) -/
  bd : Nat
  /-- the period, in microseconds, of the most recent valid cycle since the last entry to BLACK (R23) -/
  lastPeriod : Option Nat
  /-- the moment, in microseconds, at which the next negative half-cycle begins (R23) -/
  midpoint : Option Nat
  deriving DecidableEq, Repr

/-! ### Allowance Unit (03, 04, 05) -/

/-- The state of a claim (R41). -/
inductive ClaimState where
  | free | waiting | pending | carried
  deriving DecidableEq, Repr

/-- A claim record (R40). Number, holder and group are fixed by the place in the table (R39). Surge time and wait limit
in tenths of a second, as is the lead time; the three moments in 10 ms. -/
structure Claim where
  state : ClaimState
  amount : Nat
  runAmount : Option Nat
  surgeEnded : Option Bool
  surgeTime : Option Nat
  leadTime : Nat
  waitLimit : Option Nat
  binding : Binding
  tag : Nat
  waitDeadline : Option Nat
  dueTime : Option Nat
  surgeEnd : Option Nat
  last : Ending
  deriving DecidableEq, Repr

/-- A mark of the Lead Line (R70). -/
structure Mark where
  claim : Fin 24
  due : Nat
  amount : Nat
  deriving DecidableEq, Repr

/-- The band sizes H, W and C (R86). -/
structure Bands where
  h : Nat
  w : Nat
  c : Nat
  deriving DecidableEq, Repr

/-- The station state and reason set as last reported to a block (R15). -/
structure LastReport where
  state : StationState
  reasons : Reasons
  deriving DecidableEq, Repr

/-- What the Allowance Unit holds. -/
structure Allowance where
  /-- the 24 claim records (R39) -/
  claims : Vector Claim 24
  /-- the Admission Queue, head first (R61) -/
  queue : List (Fin 24)
  /-- the Lead Line, earliest due first (R70) -/
  line : List Mark
  /-- the declaration D and the STALE flag (R84, R85) -/
  d : Nat
  stale : Bool
  /-- the bands (R86) -/
  bands : Bands
  /-- the budget-raised mark (R88) -/
  budgetRaised : Bool
  /-- the station as last reported to the Allowance Unit (R64) -/
  lastReport : LastReport
  deriving DecidableEq, Repr

/-! ### Feeder Controller (06, 07) -/

/-- The fault kind of a feeder (R102). -/
inductive FeederFault where
  | mismatch | dropped | welded
  deriving DecidableEq, Repr

/-- The state of a feeder (R105); the fault kind is present exactly in FAULT (R102). -/
inductive FeederState where
  | off | waiting | pending | on | shed | locked
  | fault (k : FeederFault)
  deriving DecidableEq, Repr

/-- The live half of a feeder record (R102) with its two contactor timings (R110). The configuration half is the FEEDERS
table. -/
structure Feeder where
  state : FeederState
  /-- close command -/
  close : Bool
  /-- restoring marker (R109) -/
  restoring : Bool
  /-- shed history, oldest first (R113) -/
  history : List Nat
  /-- follow timing (R110); complete: it has expired while the driven level stays closed -/
  follow : Timing
  /-- stuck timing (R110) -/
  stuck : Timing
  deriving DecidableEq, Repr

/-- The restoration cursor (R126); HOLD and STAGGER keep the moment their timing expires. -/
inductive Cursor where
  | idle
  | hold (expiry : Nat)
  | restoring (k : Fin 12)
  | stagger (expiry : Nat)
  | ready
  deriving DecidableEq, Repr

/-- The step timing (R120): stopped, or running since the last step with the shed interval read then (in 10 ms), and
whether its half mark has passed. -/
inductive StepTiming where
  | stopped
  | running (since interval : Nat) (halfPassed : Bool)
  deriving DecidableEq, Repr

/-- What the Feeder Controller holds. -/
structure FeederUnit where
  feeders : Vector Feeder 12
  cursor : Cursor
  step : StepTiming
  deriving DecidableEq, Repr

/-! ### Saw Sequencer (08) -/

/-- The hold reason (R136). -/
inductive HoldReason where
  | overload | manual | shed
  deriving DecidableEq, Repr

/-- The feed direction (R136). -/
inductive Direction where
  | forward | back
  deriving DecidableEq, Repr

/-- The fault kind of the saw (R136). -/
inductive SawFault where
  | stall | startStall | contactor | estop | limit
  deriving DecidableEq, Repr

/-- The saw record (R136): the state, with the hold reason exactly in FEED_HOLD, the direction exactly in FEED_WAIT,
FEEDING (FORWARD), RETURNING (RETURN) and FEED_HOLD, and the fault kind exactly in FAULT. -/
inductive SawState where
  | stopped | startWait | star | changeover | run
  | feedWait (d : Direction)
  | feeding | returning
  | feedHold (r : HoldReason) (d : Direction)
  | stopping
  | fault (k : SawFault)
  deriving DecidableEq, Repr

/-- The five saw contactor commands (R134). -/
structure SawCommands where
  line : Bool
  star : Bool
  delta : Bool
  feedFwd : Bool
  feedRet : Bool
  deriving DecidableEq, Repr

/-- What the Saw Sequencer holds. A running timing keeps the moment it expires, a disagreement timing its start. -/
structure SawUnit where
  state : SawState
  commands : SawCommands
  /-- star-time, dead-time, overload and resume timings (R138, R139, R143) -/
  starTime : Option Nat
  deadTime : Option Nat
  overload : Option Nat
  resume : Option Nat
  /-- window ends in a row below the stall level (R145) -/
  stallRun : Nat
  /-- disagreement timings of LINE, STAR and DELTA (R145) -/
  lineDisagree : Option Nat
  starDisagree : Option Nat
  deltaDisagree : Option Nat
  /-- pulses in the present window, the moment it ends, and the blade speed of the last window end (R135) -/
  pulses : Nat
  windowEnd : Nat
  speed : Nat
  /-- blade quiet, and the moment the quiet timing expires while it is no (R135) -/
  bladeQuiet : Bool
  quietDeadline : Nat
  deriving DecidableEq, Repr

/-! ### Measurement Unit (09) -/

/-- A snapshot record (R155). -/
structure Snapshot where
  filtered : Nat
  pg : Nat
  pb : Nat
  ps : Nat
  d : Nat
  bands : Bands
  h : Nat
  w : Nat
  s : Nat
  station : StationState
  void : Bool
  ready : Bool
  deriving DecidableEq, Repr

/-- A running capture (R155): the count and the running sums. -/
structure Capture where
  count : Nat
  filtered : Nat
  pg : Nat
  pb : Nat
  ps : Nat
  deriving DecidableEq, Repr

/-- One thing for each of the three links. -/
structure PerLink (α : Type) where
  l1 : α
  l2 : α
  l3 : α
  deriving DecidableEq, Repr

/-- What the Measurement Unit holds. -/
structure Measurement where
  /-- the figures as last posted or zeroed (R153) -/
  pg : Nat
  ps : Nat
  pb : Nat
  /-- the ballast discrepancy flag and its two timings (R154) -/
  discrepancy : Bool
  divergence : Timing
  agreement : Timing
  /-- the snapshot records, and the running captures, none when idle (R155) -/
  snapshots : PerLink Snapshot
  captures : PerLink (Option Capture)
  /-- the station as last reported to the Measurement Unit (R155, R156) -/
  lastReport : LastReport
  deriving DecidableEq, Repr

/-! ### Settings Unit (05) -/

/-- A pending proposal (R93). -/
structure Proposal where
  copy : TableCopy
  proposer : Link
  expiry : Nat
  deriving DecidableEq, Repr

/-- What the Settings Unit holds: the committed copies, the pending proposals of the shared tables and the KEY sample. -/
structure Settings where
  tables : Tables
  bandsProposal : Option Proposal
  shedOrderProposal : Option Proposal
  thresholdsProposal : Option Proposal
  key : Key
  deriving DecidableEq, Repr

/-! ### Station Links (10) -/

/-- The status of a reply (10, "Status codes"). -/
inductive Status where
  | ok | busy | wrongState | notYourField | notYourTable | badOperand | queueFull | outputBusy | stationBlack
  | noWindow | noProposal | sameLink | keyRequired | badRecord | committedExceeds | frameError | unknownOrder
  deriving DecidableEq, Repr

/-- A reply frame without its length and check bytes, which follow from it (11, "Frames"). -/
structure Reply where
  code : Byte
  status : Status
  data : List Byte
  deriving DecidableEq, Repr

/-- The range and pointer of a window (R164). -/
structure WindowRange where
  table : TableId
  first : Nat
  last : Nat
  pointer : Nat
  deriving DecidableEq, Repr

/-- An open window with its staging copy, the records as the bytes LOAD DATA writes (R164, R165). -/
structure Window where
  range : WindowRange
  staging : List (List Byte)
  deriving DecidableEq, Repr

/-- Supervision while enabled (R168): the period in tenths of a second, and while ACTIVE the moment the remaining time
runs out. -/
structure Supervision where
  period : Nat
  deadline : Option Nat
  deriving DecidableEq, Repr

/-- What the link saw as the last valid frame arrived, before the frame changed it (R167). -/
structure FrameView where
  lost : Bool
  window : Option WindowRange
  deriving DecidableEq, Repr

/-- A link context. -/
structure LinkContext where
  /-- LOST or ACTIVE (R169) -/
  lost : Bool
  /-- none while supervision is disabled (R168) -/
  supervision : Option Supervision
  /-- the reply buffer, and the reply moved to the output in the present selection window (R159) -/
  buffer : Option Reply
  output : Option Reply
  /-- the SELECT line is low; a selection window is open (R159) -/
  selectLow : Bool
  selecting : Bool
  /-- discarded-frame count (R160) -/
  discarded : Nat
  /-- notice set and notice mask (R162) -/
  notices : NoticeSet
  mask : NoticeSet
  /-- BROKEN flag (R167) -/
  broken : Bool
  /-- open window and staging (R164) -/
  window : Option Window
  /-- for READ LINK (R167) -/
  atFrame : FrameView
  deriving DecidableEq, Repr

/-- The reset cause (R171). -/
inductive ResetCause where
  | powerOn | panel
  deriving DecidableEq, Repr

/-- The levels of the inputs the part samples (R97, R110, R134): true is closed or active. -/
structure Pins where
  key : Key
  fb : Vector Bool 12
  lineFb : Bool
  starFb : Bool
  deltaFb : Bool
  fwdEnd : Bool
  retEnd : Bool
  estop : Bool
  deriving DecidableEq, Repr

/-- The state of the part. -/
structure State where
  /-- commands waiting, first in, first out -/
  pending : List Instr
  /-- requests and reports that one block has sent another and that have not arrived, oldest first, each written as the
  command its arrival is (log 1) -/
  transit : List Instr
  /-- the moment of the latest event, in microseconds (log 2) -/
  now : Nat
  /-- a reset is held (R19, R172) -/
  held : Bool
  /-- the logic supply has risen since the previous release (R171) -/
  supplyRose : Bool
  /-- the recorded reset cause (R171) -/
  cause : ResetCause
  reg : Regulator
  alw : Allowance
  fdr : FeederUnit
  saw : SawUnit
  meas : Measurement
  set : Settings
  links : PerLink LinkContext
  pins : Pins
  deriving DecidableEq, Repr

/-- Why the machine would stop with a fault. The spec names no event that stops the part: what it calls faults (a feeder's,
the saw's, a frame's) are states or replies of it. So there is no constructor, and no command faults. -/
inductive Fault where
  deriving DecidableEq, Repr

/-- Why a command would have no meaning. -/
inductive Refusal where
  /-- Raised only by an arm of exec whose command has no meaning yet; safe. No arm raises it now. -/
  | notModelled (mnemonic : String)
  deriving DecidableEq, Repr

/-! ### The state after reset -/

/-- R60: a claim record after reset, with its fixed binding. -/
def Claim.initial (b : Binding) : Claim :=
  { state := .free, amount := 0, runAmount := none, surgeEnded := none, surgeTime := none, leadTime := 0,
    waitLimit := none, binding := b, tag := 0, waitDeadline := none, dueTime := none, surgeEnd := none,
    last := .noEnding }

/-- R60, R44: the claim table after reset. -/
def claimsInitial : Vector Claim 24 :=
  #v[.initial .nothing, .initial .nothing, .initial .nothing, .initial .nothing, .initial .saw, .initial .saw,
     .initial .nothing, .initial .nothing, .initial .nothing, .initial .nothing, .initial .nothing, .initial .nothing,
     .initial (.feeder 0), .initial (.feeder 1), .initial (.feeder 2), .initial (.feeder 3), .initial (.feeder 4),
     .initial (.feeder 5), .initial (.feeder 6), .initial (.feeder 7), .initial (.feeder 8), .initial (.feeder 9),
     .initial (.feeder 10), .initial (.feeder 11)]

/-- R15: the last report a block holds after reset. -/
abbrev LastReport.initial : LastReport := { state := .black, reasons := .empty }

/-- R60, R83, R89: the Allowance Unit after either reset. -/
def Allowance.initial : Allowance :=
  { claims := claimsInitial, queue := [], line := [], d := 0, stale := true, bands := { h := 0, w := 0, c := 0 },
    budgetRaised := false, lastReport := .initial }

/-- R19, R32: the Frequency Regulator after a reset that leaves these tables and this TRIP latch. -/
def Regulator.initial (ts : Tables) (trip : Bool) : Regulator :=
  { station := .black, reasons := .empty, lastCrossing := none, discardRun := 0, validRun := 0, history := [],
    overspeed := false, warmBand := .stopped, shed := .stopped, fast := .stopped, recovery := .stopped,
    runaway := .stopped, trip := .stopped, inForce := ts.thresholds, tripLatch := trip, quiet := false,
    lineEmpty := true, ratings := ts.channels.rating, levels := #v[64, 64, 64, 64], counts := #v[0, 0, 0, 0],
    conducting := #v[true, true, true, true], bd := ts.channels.rating.toList.sum, lastPeriod := none, midpoint := none }

/-- R116: a feeder's live half after either reset, by its configuration. -/
def Feeder.initial (c : FeederConfig) : Feeder :=
  { state := if c.rating ≠ 0 ∧ c.autoRestore = true then .shed else .off, close := false, restoring := false,
    history := [], follow := .stopped, stuck := .stopped }

/-- R116, R126: the Feeder Controller after either reset. -/
def FeederUnit.initial (ts : Tables) : FeederUnit :=
  { feeders := #v[.initial ts.feeders[0], .initial ts.feeders[1], .initial ts.feeders[2], .initial ts.feeders[3],
                  .initial ts.feeders[4], .initial ts.feeders[5], .initial ts.feeders[6], .initial ts.feeders[7],
                  .initial ts.feeders[8], .initial ts.feeders[9], .initial ts.feeders[10], .initial ts.feeders[11]],
    cursor := .idle, step := .stopped }

/-- All five saw commands off (R134). -/
abbrev SawCommands.allOff : SawCommands :=
  { line := false, star := false, delta := false, feedFwd := false, feedRet := false }

/-- R150: the Saw Sequencer after a reset released at the moment clock. -/
def SawUnit.initial (clock : Nat) : SawUnit :=
  { state := .stopped, commands := .allOff, starTime := none, deadTime := none, overload := none, resume := none,
    stallRun := 0, lineDisagree := none, starDisagree := none, deltaDisagree := none, pulses := 0,
    windowEnd := clock + Config.bladeWindowTicks, speed := 0, bladeQuiet := false,
    quietDeadline := clock + Config.bladeQuietTicks }

/-- R155: an empty snapshot record. -/
def Snapshot.initial : Snapshot :=
  { filtered := 0, pg := 0, pb := 0, ps := 0, d := 0, bands := { h := 0, w := 0, c := 0 }, h := 0, w := 0, s := 0,
    station := .black, void := false, ready := false }

/-- R153 to R155: the Measurement Unit after either reset. -/
def Measurement.initial : Measurement :=
  { pg := 0, ps := 0, pb := 0, discrepancy := false, divergence := .stopped, agreement := .stopped,
    snapshots := { l1 := .initial, l2 := .initial, l3 := .initial }, captures := { l1 := none, l2 := none, l3 := none },
    lastReport := .initial }

/-- R101: the Settings Unit after a reset that leaves these tables, with the KEY sample. -/
def Settings.initial (ts : Tables) (k : Key) : Settings :=
  { tables := ts, bandsProposal := none, shedOrderProposal := none, thresholdsProposal := none, key := k }

/-- R168: supervision after a reset released at the moment clock, by the strap. -/
def Supervision.byStrap (strap : Bool) (clock : Nat) : Option Supervision :=
  if strap then
    some { period := Config.strapPeriodTenths, deadline := some (clock + Config.tenths Config.strapPeriodTenths) }
  else none

/-- R172: a link context after reset, by its supervision and the level of its SELECT line. -/
def LinkContext.initial (sup : Option Supervision) (selectLow : Bool) : LinkContext :=
  { lost := false, supervision := sup, buffer := none, output := none, selectLow := selectLow, selecting := false,
    discarded := 0, notices := 0, mask := BitVec.allOnes 11, broken := false, window := none,
    atFrame := { lost := false, window := none } }

/-- The inputs at rest: KEY at REMOTE, every contact open, no limit and no ESTOP active (DESIGN CHOICE, log 5). -/
def Pins.atRest : Pins :=
  { key := .keyRemote, fb := #v[false, false, false, false, false, false, false, false, false, false, false, false],
    lineFb := false, starFb := false, deltaFb := false, fwdEnd := false, retEnd := false, estop := false }

/-- The machine right after a power-on reset is released, with the inputs at rest and the SUPERVISE strap low (log 5). -/
def State.reset : State :=
  { pending := [], transit := [], now := 0, held := false, supplyRose := false, cause := .powerOn,
    reg := .initial .default false, alw := .initial, fdr := .initial .default, saw := .initial 0, meas := .initial,
    set := .initial .default .keyRemote,
    links := { l1 := .initial none false, l2 := .initial none false, l3 := .initial none false },
    pins := .atRest }

end Sys2Proof.Machine
end

