-- ==== Sys2Proof/Machine/Flags.lean ====
section
/-! DEFINITION. What follows from the state and is not held: the fixed layout of the Claim Table, the committed sums and the
common need, the ballast figures, the water headroom, the carry enables, the driven levels of the outputs, the ATTN lines,
and the conditions that the timings and QUIET are judged by. -/

namespace Sys2Proof.Machine

/-! ### Small accessors -/

def PerLink.get {α : Type} (p : PerLink α) : Link → α
  | .l1 => p.l1
  | .l2 => p.l2
  | .l3 => p.l3

def PerLink.put {α : Type} (p : PerLink α) (l : Link) (a : α) : PerLink α :=
  match l with
  | .l1 => { p with l1 := a }
  | .l2 => { p with l2 := a }
  | .l3 => { p with l3 := a }

/-- The other two links. -/
def otherLinks : Link → List Link
  | .l1 => [.l2, .l3]
  | .l2 => [.l1, .l3]
  | .l3 => [.l1, .l2]

/-- A vector of four from its entries. -/
def vec4 {α : Type} (f : Fin 4 → α) : Vector α 4 := #v[f 0, f 1, f 2, f 3]

/-- A vector of twelve from its entries. -/
def vec12 {α : Type} (f : Fin 12 → α) : Vector α 12 :=
  #v[f 0, f 1, f 2, f 3, f 4, f 5, f 6, f 7, f 8, f 9, f 10, f 11]

/-- F1 to F12 in order. -/
def allFeeders : List (Fin 12) := [0, 1, 2, 3, 4, 5, 6, 7, 8, 9, 10, 11]

/-- The time of the part, in 10 ms: the moment of the latest event rounded down (log 2). -/
def State.clock (s : State) : Nat := s.now / Config.microsPerTick

def State.claim (s : State) (n : Fin 24) : Claim := s.alw.claims[n]
def State.feeder (s : State) (k : Fin 12) : Feeder := s.fdr.feeders[k]
def State.feederConfig (s : State) (k : Fin 12) : FeederConfig := s.set.tables.feeders[k]
def State.link (s : State) (l : Link) : LinkContext := s.links.get l

/-- Whether a timing has not expired and runs. -/
def Timing.start? : Timing → Option Nat
  | .stopped => none
  | .running since => some since
  | .complete _ => none

def Timing.isComplete : Timing → Bool
  | .complete _ => true
  | .stopped => false
  | .running _ => false

/-! ### The fixed layout of the Claim Table (R39, R44) -/

/-- The group of a claim number (R39). -/
inductive Group where
  | supply | saw | hamlet
  deriving DecidableEq, Repr

def groupOf (n : Fin 24) : Group :=
  if n.val < 4 then .supply else if n.val < 10 then .saw else .hamlet

/-- The holder of a claim number (R39). -/
def holderOf (n : Fin 24) : Link :=
  match groupOf n with
  | .supply => .l1
  | .saw => .l2
  | .hamlet => .l3

/-- The claim numbers of a group, ascending. -/
def Group.claims : Group → List (Fin 24)
  | .supply => [0, 1, 2, 3]
  | .saw => [4, 5, 6, 7, 8, 9]
  | .hamlet => [10, 11, 12, 13, 14, 15, 16, 17, 18, 19, 20, 21, 22, 23]

/-- All claim numbers, ascending. -/
def allClaims : List (Fin 24) :=
  [0, 1, 2, 3, 4, 5, 6, 7, 8, 9, 10, 11, 12, 13, 14, 15, 16, 17, 18, 19, 20, 21, 22, 23]

/-- The free claims of a link, which its station may name in CLAIM, WITHDRAW and RELEASE (R43). -/
def freeClaims : Link → List (Fin 24)
  | .l1 => [0, 1, 2, 3]
  | .l2 => [6, 7, 8, 9]
  | .l3 => [10, 11]

/-- The free claim a link's order names, or none where the number is outside its field (R43). -/
def claimInField (l : Link) (n : Nat) : Option (Fin 24) :=
  (freeClaims l).find? (fun m => m.val == n)

/-- The claim of feeder Fk, number 11 + k (R39). -/
def feederClaim (k : Fin 12) : Fin 24 := ⟨12 + k.val, by omega⟩

/-- The claims of the saw: 4 and 5 (R39). -/
def sawClaim : SawClaim → Fin 24
  | .motor => 4
  | .carriage => 5

/-- The block that owns a block claim (R39). -/
inductive BlockOwner where
  | saw (c : SawClaim)
  | feeder (k : Fin 12)
  deriving DecidableEq, Repr

def blockOwner (n : Fin 24) : Option BlockOwner :=
  if n = 4 then some (.saw .motor)
  else if n = 5 then some (.saw .carriage)
  else if n.val < 12 then none
  else some (.feeder ⟨n.val - 12, by omega⟩)

/-- The bindings a CLAIM on this number may name (R44); block claims take none from a CLAIM. -/
def bindingAllowed (n : Fin 24) (b : Binding) : Bool :=
  match b with
  | .nothing => true
  | .aux x =>
    match groupOf n with
    | .supply => x = 0 || x = 1
    | .saw => x = 2 || x = 3
    | .hamlet => x = 4 || x = 5
  | .feeder _ => false
  | .saw => false

/-! ### Committed amounts, bands and the common need (R41, R86, R87) -/

/-- The committed amount of a claim (R41). -/
def Claim.committed (c : Claim) : Nat :=
  match c.state with
  | .free => 0
  | .waiting => 0
  | .pending => c.amount
  | .carried => if c.surgeEnded = some true then c.runAmount.getD c.amount else c.amount

/-- An end request for claim n has been sent and has still to be taken (R106, R137, R140). -/
def State.endAwaits (s : State) (n : Fin 24) : Bool :=
  s.transit.any fun i =>
    match i with
    | .endRequest m _ => m = n
    | _ => false

/-- The Allowance Unit has cancelled the claim of feeder Fk, and the ending report that tells it has still to be taken (R73,
R78). -/
def State.cancellationAwaits (s : State) (k : Fin 12) : Bool := .feederEndingReport k .cancelled ∈ s.transit

/-- PENDING or CARRIED (R41). -/
def Claim.isCommitted (c : Claim) : Bool := c.state = .pending || c.state = .carried

/-- The sum of the committed amounts of the numbers listed. -/
def State.committedOf (s : State) (ns : List (Fin 24)) : Nat :=
  (ns.map fun n => (s.claim n).committed).sum

/-- The committed sums h, w and s (R41, R87). -/
def State.hSum (s : State) : Nat := s.committedOf Group.hamlet.claims
def State.wSum (s : State) : Nat := s.committedOf Group.saw.claims
def State.sSum (s : State) : Nat := s.committedOf Group.supply.claims

/-- The division of a declaration by two reserves (R86). -/
def bandsFor (d : Nat) (t : BandsTable) : Bands :=
  let h := min t.hres d
  let w := min t.wres (d - h)
  { h := h, w := w, c := d - h - w }

/-- The common need of three committed sums against bands (R87). -/
def commonNeed (b : Bands) (h w s : Nat) : Nat := (h - b.h) + (w - b.w) + s

/-- The common need now (R87). -/
def State.need (s : State) : Nat := commonNeed s.alw.bands s.hSum s.wSum s.sSum

/-- The bands fit (R87). -/
def State.bandsFit (s : State) : Bool := s.need ≤ s.alw.bands.c

/-- The band fit test of R65 for the claim n. -/
def State.bandFitWith (s : State) (n : Fin 24) : Bool :=
  let a := (s.claim n).amount
  let b := s.alw.bands
  match groupOf n with
  | .hamlet => commonNeed b (s.hSum + a) s.wSum s.sSum ≤ b.c
  | .saw => commonNeed b s.hSum (s.wSum + a) s.sSum ≤ b.c
  | .supply => commonNeed b s.hSum s.wSum (s.sSum + a) ≤ b.c

/-- The band a group draws on first (R58); the supply group has none. -/
def State.ownBand (s : State) : Group → Nat
  | .hamlet => s.alw.bands.h
  | .saw => s.alw.bands.w
  | .supply => 0

/-- The own-band portion READ CLAIM shows (R58): the group's band is given out in ascending claim number. -/
def State.ownPortion (s : State) (n : Fin 24) : Nat :=
  let g := groupOf n
  let before := s.committedOf (g.claims.filter fun m => m.val < n.val)
  min (s.claim n).committed (s.ownBand g - before)

/-- The common portion READ CLAIM shows (R58). -/
def State.commonPortion (s : State) (n : Fin 24) : Nat := (s.claim n).committed - s.ownPortion n

/-! ### Frequency (R1, R4) -/

/-- The cycle frequency, in hundredths of a hertz, of a period in microseconds: 100,000,000 divided by it, a remainder of
one half rounding upward (R1). The counter's least period is 1 µs. -/
def cycleFrequency (period : Nat) : Nat :=
  let p := max period 1
  (200000000 + p) / (2 * p)

/-- The filtered frequency (R4), absent while the history is empty. -/
def State.filtered (s : State) : Option Nat :=
  match s.reg.history with
  | [] => none
  | f :: fs => some ((f :: fs).sum / (f :: fs).length)

/-- A comparison of the filtered frequency, false while it is absent (R4). -/
def State.filteredIs (s : State) (p : Nat → Bool) : Bool :=
  match s.filtered with
  | none => false
  | some f => p f

/-! ### Ballast (R21, R24, R25, R26, R37) -/

/-- The ballast capacity (R21). -/
def State.capacity (s : State) : Nat := s.reg.ratings.toList.sum

/-- The ballast is saturated (R24). -/
def State.saturated (s : State) : Bool := s.reg.bd = s.capacity

/-- The level of a channel allotted a part of its rating: to the nearest sixty-fourth, one half upward (R25). -/
def levelFor (allotted rating : Nat) : Nat :=
  if rating = 0 then 0 else (2 * 64 * allotted + rating) / (2 * rating)

/-- The amounts allotted to the channels: each is filled to its rating before the next is given anything (R25). -/
def allot (bd : Nat) (ratings : Vector Nat 4) : Vector Nat 4 :=
  let a0 := min bd ratings[0]
  let a1 := min (bd - a0) ratings[1]
  let a2 := min (bd - a0 - a1) ratings[2]
  let a3 := min (bd - a0 - a1 - a2) ratings[3]
  #v[a0, a1, a2, a3]

/-- The levels that share out a ballast demand (R25). -/
def levelsFor (bd : Nat) (ratings : Vector Nat 4) : Vector Nat 4 :=
  let a := allot bd ratings
  #v[levelFor a[0] ratings[0], levelFor a[1] ratings[1], levelFor a[2] ratings[2], levelFor a[3] ratings[3]]

/-- The computed ballast of levels and ratings (R26). -/
def computedBallast (levels ratings : Vector Nat 4) : Nat :=
  ratings[0] * levels[0] / 64 + ratings[1] * levels[1] / 64 + ratings[2] * levels[2] / 64 + ratings[3] * levels[3] / 64

/-- Bc (R26). -/
def State.bc (s : State) : Nat := computedBallast s.reg.levels s.reg.ratings

/-- A feed-forward step (R28, R29). -/
def isFeedForward : Instr → Bool
  | .downStep _ => true
  | .upStep _ => true
  | _ => false

/-- What a ballast demand becomes once a message on its way has been taken: a down step is taken off and an up step added,
each clamped by itself (R24, R28, R29). -/
def stepDemand (capacity bd : Nat) : Instr → Nat
  | .downStep a => min (bd - a) capacity
  | .upStep a => min (bd + a) capacity
  | _ => bd

/-- Bd once every feed-forward step on its way has been taken, in the order in which they were sent. -/
def State.demandDue (s : State) : Nat := s.transit.foldl (stepDemand s.capacity) s.reg.bd

/-- Bc as the water test takes it (R37): a feed-forward step that has been sent has already changed it, whether or not its
arrival has been taken (DEDUCED, log 29). In BLACK the regulator discards the step. -/
def State.waterBc (s : State) : Nat :=
  if s.transit.any isFeedForward = false ∨ s.reg.station = .black then s.bc
  else computedBallast (levelsFor s.demandDue s.reg.ratings) s.reg.ratings

/-- The pending sum (R37, R70). -/
def State.pendingSum (s : State) : Nat := (s.alw.line.map Mark.amount).sum

/-- The water headroom (R37), a negative result counting as 0. -/
def State.headroom (s : State) : Nat :=
  min s.waterBc s.meas.pb - s.set.tables.channels.reserveFloor - s.pendingSum

/-- The station as last reported to the Allowance Unit (R64). -/
abbrev State.reported (s : State) : StationState := s.alw.lastReport.state

/-- The admission conditions of R64 for the head n. -/
def State.headPasses (s : State) (n : Fin 24) : Bool :=
  (s.reported = .regulating || s.reported = .runaway) && !s.alw.stale && s.alw.line.length < Config.lineLimit
    && s.bandFitWith n && (s.claim n).amount ≤ s.headroom

/-! ### Outputs -/

/-- The carry enable of a claim (R73). -/
def State.carryEnable (s : State) (n : Fin 24) : Bool := !s.held && (s.claim n).state = .carried

/-- The auxiliary output X(x+1) is commanded closed (R45, R73). -/
def State.auxClosed (s : State) (x : Fin 6) : Bool :=
  allClaims.any fun n => s.carryEnable n && (s.claim n).binding = .aux x

/-- The driven level of FDk is closed (R110). -/
def State.feederDriven (s : State) (k : Fin 12) : Bool := (s.feeder k).close && s.carryEnable (feederClaim k)

/-- The driven levels of the saw contactors are closed (R134). -/
def State.lineDriven (s : State) : Bool := s.saw.commands.line && s.carryEnable 4
def State.starDriven (s : State) : Bool := s.saw.commands.star && s.carryEnable 4
def State.deltaDriven (s : State) : Bool := s.saw.commands.delta && s.carryEnable 4
def State.fwdDriven (s : State) : Bool := s.saw.commands.feedFwd && s.carryEnable 5
def State.retDriven (s : State) : Bool := s.saw.commands.feedRet && s.carryEnable 5

/-- The ATTN line of a link (R162, R172). -/
def State.attn (s : State) (l : Link) : Bool := !s.held && (s.link l).notices &&& (s.link l).mask ≠ 0

/-- The TRIP output follows the latch (R16, R19). -/
def State.tripOutput (s : State) : Bool := s.reg.tripLatch

/-- The level of output BAL(i+1), which is active low: true is high, not firing (R32). -/
def State.balHigh (s : State) (i : Fin 4) : Bool := !s.held && !s.reg.conducting[i]

/-! ### Conditions of the regulator (R5, R18) -/

/-- REGULATING, RUNAWAY or DEFICIT: the states the under-frequency timings watch (R10). -/
def watchedForShed : StationState → Bool
  | .regulating => true
  | .runaway => true
  | .deficit => true
  | .black => false
  | .warming => false

def State.warmCondition (s : State) : Bool :=
  s.reg.station = .warming && s.filteredIs (fun f => Config.warmLow ≤ f && f ≤ Config.warmHigh)

def State.shedCondition (s : State) : Bool :=
  watchedForShed s.reg.station && s.filteredIs (fun f => f < s.reg.inForce.shedThreshold)

def State.fastCondition (s : State) : Bool :=
  watchedForShed s.reg.station && s.filteredIs (fun f => f < s.reg.inForce.fastThreshold)

def State.recoveryCondition (s : State) : Bool := s.filteredIs (fun f => s.reg.inForce.recoveryLevel ≤ f)

def State.runawayCondition (s : State) : Bool :=
  s.reg.station = .regulating && s.saturated && s.filteredIs (fun f => s.reg.inForce.runawayLevel < f)

def State.tripCondition (s : State) : Bool :=
  s.filteredIs (fun f => s.reg.inForce.tripLevel < f) || s.reg.overspeed

/-- The condition of the QUIET output (R18), the Lead Line as last reported (R75). -/
def State.quietCondition (s : State) : Bool :=
  s.reg.station = .regulating && s.reg.lineEmpty && s.filteredIs (fun f => Config.quietLow ≤ f && f ≤ Config.quietHigh)

/-- The filtered frequency is below the fast threshold, as the pace of shedding reads it (R120). -/
def State.belowFast (s : State) : Bool := s.filteredIs (fun f => f < s.set.tables.thresholds.fastThreshold)

/-! ### Conditions of the saw (R118, R134, R136) -/

/-- STAR to FEED_HOLD: the states in which claim 4 is CARRIED (R136). -/
def SawState.motorOn : SawState → Bool
  | .star => true
  | .changeover => true
  | .run => true
  | .feedWait _ => true
  | .feeding => true
  | .returning => true
  | .feedHold _ _ => true
  | .stopped => false
  | .startWait => false
  | .stopping => false
  | .fault _ => false

/-- RUN to FEED_HOLD: the states of the stall watch (R145). -/
def SawState.stallWatched : SawState → Bool
  | .run => true
  | .feedWait _ => true
  | .feeding => true
  | .returning => true
  | .feedHold _ _ => true
  | .star => false
  | .changeover => false
  | .stopped => false
  | .startWait => false
  | .stopping => false
  | .fault _ => false

def SawState.isFault : SawState → Bool
  | .fault _ => true
  | .stopped => false
  | .startWait => false
  | .star => false
  | .changeover => false
  | .run => false
  | .feedWait _ => false
  | .feeding => false
  | .returning => false
  | .feedHold _ _ => false
  | .stopping => false

/-- The feed direction of the saw record, present exactly in the states R136 names. -/
def SawState.direction : SawState → Option Direction
  | .feedWait d => some d
  | .feeding => some .forward
  | .returning => some .back
  | .feedHold _ d => some d
  | .stopped => none
  | .startWait => none
  | .star => none
  | .changeover => none
  | .run => none
  | .stopping => none
  | .fault _ => none

/-- A saw target of the Shed Order list is active (R118). -/
def sawTargetActive (t : SawTarget) (st : SawState) : Bool :=
  match t with
  | .feedHold =>
    match st with
    | .feedWait _ => true
    | .feeding => true
    | .returning => true
    | .feedHold .overload _ => true
    | .feedHold .manual _ => true
    | .feedHold .shed _ => false
    | .stopped => false
    | .startWait => false
    | .star => false
    | .changeover => false
    | .run => false
    | .stopping => false
    | .fault _ => false
  | .stop => st.motorOn || st = .startWait

/-- The overload limit and the resume limit of R143. -/
def overloadLimit (t : SawTable) : Nat :=
  (t.start.runAmount + t.feed.feedAmount) * (100 + t.feed.overloadMargin) / 100

def resumeLimit (t : SawTable) : Nat := t.start.runAmount + t.feed.resumeLevel * t.feed.feedAmount / 100

end Sys2Proof.Machine
end

