-- ==== Sys2Proof/Machine/Operands.lean ====
section
/-! DEFINITION. The operand and record forms of the layouts chapter (11): the code lists, the records as bytes, the
settings records read back from bytes, and the validation a settings table passes before it is committed (R34, R99, R100,
R103, R132, R149). -/

namespace Sys2Proof.Machine

/-! ### Order codes (11, "Orders") -/

abbrev Code.null : Byte := 0x00
abbrev Code.readNotices : Byte := 0x01
abbrev Code.setNoticeMask : Byte := 0x02
abbrev Code.openWindow : Byte := 0x03
abbrev Code.loadData : Byte := 0x04
abbrev Code.supervise : Byte := 0x05
abbrev Code.readLink : Byte := 0x06
abbrev Code.readResetCause : Byte := 0x07
abbrev Code.readStation : Byte := 0x08
abbrev Code.ackTrip : Byte := 0x10
abbrev Code.declare : Byte := 0x11
abbrev Code.claim : Byte := 0x20
abbrev Code.withdraw : Byte := 0x21
abbrev Code.release : Byte := 0x22
abbrev Code.readClaim : Byte := 0x23
abbrev Code.readTable : Byte := 0x30
abbrev Code.confirm : Byte := 0x31
abbrev Code.reject : Byte := 0x32
abbrev Code.feederOn : Byte := 0x40
abbrev Code.feederOff : Byte := 0x41
abbrev Code.feederClear : Byte := 0x42
abbrev Code.readFeeder : Byte := 0x43
abbrev Code.sawStart : Byte := 0x50
abbrev Code.sawStop : Byte := 0x51
abbrev Code.sawFeed : Byte := 0x52
abbrev Code.sawReturn : Byte := 0x53
abbrev Code.sawHold : Byte := 0x54
abbrev Code.sawResume : Byte := 0x55
abbrev Code.sawClearFault : Byte := 0x56
abbrev Code.readSaw : Byte := 0x57
abbrev Code.takeSnapshot : Byte := 0x60
abbrev Code.readSnapshot : Byte := 0x61

/-! ### Codes (11, "Codes") -/

def stationCode : StationState → Nat
  | .black => 0
  | .warming => 1
  | .regulating => 2
  | .deficit => 3
  | .runaway => 4

def reasonsCode (r : Reasons) : Nat := r.frequency.toNat + 2 * r.budget.toNat

def linkCode : Link → Nat
  | .l1 => 1
  | .l2 => 2
  | .l3 => 3

def claimStateCode : ClaimState → Nat
  | .free => 0
  | .waiting => 1
  | .pending => 2
  | .carried => 3

def endingCode : Ending → Nat
  | .noEnding => 0
  | .withdrawn => 1
  | .released => 2
  | .expired => 3
  | .cancelled => 4
  | .shed => 5
  | .forced => 6
  | .linkLost => 7
  | .fault => 8

def bindingCode : Binding → Nat
  | .nothing => 0x00
  | .aux x => 0x01 + x.val
  | .feeder k => 0x11 + k.val
  | .saw => 0x20

def bindingOf (code : Nat) : Option Binding :=
  if code = 0 then some .nothing
  else if h : 1 ≤ code ∧ code ≤ 6 then some (.aux ⟨code - 1, by omega⟩)
  else if h : 0x11 ≤ code ∧ code ≤ 0x1C then some (.feeder ⟨code - 0x11, by omega⟩)
  else if code = 0x20 then some .saw
  else none

def feederStateCode : FeederState → Nat
  | .off => 0
  | .waiting => 1
  | .pending => 2
  | .on => 3
  | .shed => 4
  | .locked => 5
  | .fault _ => 6

def feederFaultCode : FeederState → Nat
  | .fault .mismatch => 1
  | .fault .dropped => 2
  | .fault .welded => 3
  | .off => 0xFF
  | .waiting => 0xFF
  | .pending => 0xFF
  | .on => 0xFF
  | .shed => 0xFF
  | .locked => 0xFF

def sawStateCode : SawState → Nat
  | .stopped => 0
  | .startWait => 1
  | .star => 2
  | .changeover => 3
  | .run => 4
  | .feedWait _ => 5
  | .feeding => 6
  | .returning => 7
  | .feedHold _ _ => 8
  | .stopping => 9
  | .fault _ => 10

def holdReasonCode : SawState → Nat
  | .feedHold .overload _ => 1
  | .feedHold .manual _ => 2
  | .feedHold .shed _ => 3
  | .stopped => 0xFF
  | .startWait => 0xFF
  | .star => 0xFF
  | .changeover => 0xFF
  | .run => 0xFF
  | .feedWait _ => 0xFF
  | .feeding => 0xFF
  | .returning => 0xFF
  | .stopping => 0xFF
  | .fault _ => 0xFF

def directionCode : Option Direction → Nat
  | none => 0xFF
  | some .forward => 1
  | some .back => 2

def sawFaultCode : SawState → Nat
  | .fault .stall => 1
  | .fault .startStall => 2
  | .fault .contactor => 3
  | .fault .estop => 4
  | .fault .limit => 5
  | .stopped => 0xFF
  | .startWait => 0xFF
  | .star => 0xFF
  | .changeover => 0xFF
  | .run => 0xFF
  | .feedWait _ => 0xFF
  | .feeding => 0xFF
  | .returning => 0xFF
  | .feedHold _ _ => 0xFF
  | .stopping => 0xFF

def targetCode : Option ShedTarget → Nat
  | none => 0x00
  | some (.feeder k) => 0x01 + k.val
  | some (.saw .feedHold) => 0x10
  | some (.saw .stop) => 0x11

/-- The record a target code spells: EMPTY is some none, an unlisted code is none. -/
def targetOf (code : Nat) : Option (Option ShedTarget) :=
  if code = 0 then some none
  else if h : 1 ≤ code ∧ code ≤ 12 then some (some (.feeder ⟨code - 1, by omega⟩))
  else if code = 0x10 then some (some (.saw .feedHold))
  else if code = 0x11 then some (some (.saw .stop))
  else none

def classCode : FeederClass → Nat
  | .ordinary => 0
  | .essential => 1

def classOf : Nat → Option FeederClass
  | 0 => some .ordinary
  | 1 => some .essential
  | _ + 2 => none

def flagOf : Nat → Option Bool
  | 0 => some false
  | 1 => some true
  | _ + 2 => none

def keyCode : Key → Nat
  | .keyRemote => 0
  | .keyLocal => 1

def tableCode : TableId → Nat
  | .channels => 1
  | .saw => 2
  | .feeders => 3
  | .bands => 4
  | .shedOrder => 5
  | .thresholds => 6

def tableNamed : Nat → Option TableId
  | 1 => some .channels
  | 2 => some .saw
  | 3 => some .feeders
  | 4 => some .bands
  | 5 => some .shedOrder
  | 6 => some .thresholds
  | 0 => none
  | _ + 7 => none

def copyCode : CopyId → Nat
  | .committed => 0
  | .proposed => 1

def copyNamed : Nat → Option CopyId
  | 0 => some .committed
  | 1 => some .proposed
  | _ + 2 => none

def statusCode : Status → Nat
  | .ok => 0x00
  | .busy => 0x01
  | .wrongState => 0x02
  | .notYourField => 0x03
  | .notYourTable => 0x04
  | .badOperand => 0x05
  | .queueFull => 0x06
  | .outputBusy => 0x07
  | .stationBlack => 0x08
  | .noWindow => 0x09
  | .noProposal => 0x0A
  | .sameLink => 0x0B
  | .keyRequired => 0x0C
  | .badRecord => 0x0D
  | .committedExceeds => 0x0E
  | .frameError => 0x0F
  | .unknownOrder => 0x10

/-- A flag or level as a byte (11, "flags, levels"). -/
abbrev flag (b : Bool) : List Byte := u8 b.toNat

/-- An optional two-byte field: absent is 0xFFFF (R174). -/
def optU16 : Option Nat → List Byte
  | none => u16 0xFFFF
  | some n => u16 n

/-- An optional flag: absent is 0xFF (R174). -/
def optFlag : Option Bool → List Byte
  | none => u8 0xFF
  | some b => flag b

/-- A notice set or mask as two bytes (11, "Codes"). -/
def noticeBytes (m : NoticeSet) : List Byte := u16 m.toNat

/-! ### Settings records as bytes (11, "Settings records") -/

def feederRecordBytes (c : FeederConfig) : List Byte :=
  u16 c.rating ++ u8 c.rank ++ u8 (classCode c.cls) ++ flag c.autoRestore ++ u8 c.leadTime

def sawStartBytes (r : SawStartRecord) : List Byte :=
  u16 r.startSurge ++ u16 r.runAmount ++ u8 r.startLead ++ u8 r.starTimeMax ++ u8 r.changeoverSpeed
    ++ u8 r.startStallLevel ++ u8 r.deadTime ++ u16 r.ratedPulseRate ++ u8 r.stallLevel

def sawFeedBytes (r : SawFeedRecord) : List Byte :=
  u16 r.feedAmount ++ u16 r.returnAmount ++ u8 r.feedLead ++ u8 r.overloadMargin ++ u8 r.overloadTime
    ++ u8 r.resumeLevel ++ u8 r.resumeTime

def thresholdsBytes (t : ThresholdsTable) : List Byte :=
  u16 t.shedThreshold ++ u8 t.shedDelay ++ u16 t.fastThreshold ++ u8 t.fastDelay ++ u16 t.recoveryLevel
    ++ u8 t.recoveryTime ++ u16 t.runawayLevel ++ u8 t.runawayDelay ++ u16 t.runawayExit ++ u16 t.tripLevel
    ++ u8 t.tripDelay ++ u8 t.shedInterval ++ u16 t.restoreHold ++ u16 t.stagger ++ u8 t.warmUp
    ++ u8 (t.lockCount * 64 + t.lockWindow)

/-- The records of a table, record 1 first, each as the bytes LOAD DATA writes and READ TABLE returns. -/
def tableBytes : TableCopy → List (List Byte)
  | .channels t => (t.rating.toList.map fun r => u16 r) ++ [u16 t.reserveFloor ++ u8 t.loopGain]
  | .saw t => [sawStartBytes t.start, sawFeedBytes t.feed]
  | .feeders t => t.toList.map feederRecordBytes
  | .bands t => [u16 t.hres ++ u16 t.wres]
  | .shedOrder t => t.toList.map fun r => u8 (targetCode r)
  | .thresholds t => [thresholdsBytes t]

/-- Record r (from 1) of a table as bytes. -/
def recordBytes (t : TableCopy) (r : Nat) : List Byte := ((tableBytes t)[r - 1]?).getD []

/-! ### Settings tables from bytes, with the validation of their contents -/

/-- A list of exactly n entries as a vector. -/
def toVector? {α : Type} (n : Nat) (l : List α) : Option (Vector α n) :=
  if h : l.length = n then some ⟨l.toArray, by simpa using h⟩ else none

/-- R34. -/
def channelsOf : List (List Byte) → Option ChannelsTable
  | [[a, b], [c, d], [e, f], [g, h], [i, j, k]] =>
    let t : ChannelsTable :=
      { rating := #v[be16 a b, be16 c d, be16 e f, be16 g h], reserveFloor := be16 i j, loopGain := k.toNat }
    if t.rating.toList.all (· ≤ 1500) && t.reserveFloor ≤ 2000 && 1 ≤ t.loopGain then some t else none
  | _ => none

/-- R149, the ranges of both records. -/
def sawTableOf : List (List Byte) → Option SawTable
  | [[a, b, c, d, e, f, g, h, i, j, k, l], [m, n, o, p, q, r, u, v, w]] =>
    let t : SawTable :=
      { start := { startSurge := be16 a b, runAmount := be16 c d, startLead := e.toNat, starTimeMax := f.toNat,
                   changeoverSpeed := g.toNat, startStallLevel := h.toNat, deadTime := i.toNat,
                   ratedPulseRate := be16 j k, stallLevel := l.toNat }
        feed := { feedAmount := be16 m n, returnAmount := be16 o p, feedLead := q.toNat, overloadMargin := r.toNat,
                  overloadTime := u.toNat, resumeLevel := v.toNat, resumeTime := w.toNat } }
    if 1 ≤ t.start.startSurge && t.start.startSurge ≤ 9999 && t.start.runAmount ≤ t.start.startSurge
        && t.start.startLead ≤ 50 && 5 ≤ t.start.starTimeMax && t.start.starTimeMax ≤ 200
        && 50 ≤ t.start.changeoverSpeed && t.start.changeoverSpeed ≤ 100
        && t.start.startStallLevel ≤ t.start.changeoverSpeed && 4 ≤ t.start.deadTime && t.start.deadTime ≤ 20
        && 1 ≤ t.start.ratedPulseRate && t.start.ratedPulseRate ≤ 400 && t.start.stallLevel + 1 ≤ t.start.changeoverSpeed
        && 1 ≤ t.feed.feedAmount && t.feed.feedAmount ≤ 9999 && 1 ≤ t.feed.returnAmount && t.feed.returnAmount ≤ 9999
        && t.feed.feedLead ≤ 50 && t.feed.overloadMargin ≤ 100 && 1 ≤ t.feed.overloadTime && t.feed.overloadTime ≤ 100
        && t.feed.resumeLevel ≤ 100 && 1 ≤ t.feed.resumeTime && t.feed.resumeTime ≤ 100
    then some t else none
  | _ => none

/-- R103, one record: the ranges of its fields. -/
def feederConfigOf : List Byte → Option FeederConfig
  | [a, b, c, d, e, f] =>
    match classOf d.toNat, flagOf e.toNat with
    | some cls, some auto =>
      let t : FeederConfig :=
        { rating := be16 a b, rank := c.toNat, cls := cls, autoRestore := auto, leadTime := f.toNat }
      if t.rating ≤ 2000 && 1 ≤ t.rank && t.rank ≤ 12 && t.leadTime ≤ 50 then some t else none
    | _, _ => none
  | _ => none

/-- R103: no two configured feeders have the same rank. -/
def ranksDiffer (cs : List FeederConfig) : Bool :=
  decide ((cs.filter fun c => c.rating ≠ 0).map FeederConfig.rank).Nodup

/-- R103, the whole table: field ranges and ranks. -/
def feedersOf (records : List (List Byte)) : Option (Vector FeederConfig 12) :=
  match records.mapM feederConfigOf with
  | some cs => if ranksDiffer cs then toVector? 12 cs else none
  | none => none

/-- R99, the range of the reserves. -/
def bandsTableOf : List (List Byte) → Option BandsTable
  | [[a, b, c, d]] =>
    let t : BandsTable := { hres := be16 a b, wres := be16 c d }
    if t.hres ≤ 9999 && t.wres ≤ 9999 then some t else none
  | _ => none

/-- R100, one record. -/
def targetRecordOf : List Byte → Option (Option ShedTarget)
  | [a] => targetOf a.toNat
  | _ => none

/-- R100: no target twice, and none after an EMPTY record. -/
def shedOrderSound (ts : List (Option ShedTarget)) : Bool :=
  decide (ts.filterMap id).Nodup && (ts.dropWhile Option.isSome).all Option.isNone

/-- R100, the whole table. -/
def shedOrderOf (records : List (List Byte)) : Option ShedOrderTable :=
  match records.mapM targetRecordOf with
  | some ts => if shedOrderSound ts then toVector? 16 ts else none
  | none => none

/-- R132, the ranges of the settings and the order of the levels. -/
def thresholdsSound (t : ThresholdsTable) : Bool :=
  let level (f : Nat) : Bool := 4000 ≤ f && f ≤ 6000
  level t.shedThreshold && level t.fastThreshold && level t.recoveryLevel && level t.runawayLevel
    && level t.runawayExit && level t.tripLevel
    && 1 ≤ t.shedDelay && 1 ≤ t.fastDelay && 1 ≤ t.recoveryTime && 1 ≤ t.runawayDelay && 1 ≤ t.tripDelay
    && 2 ≤ t.shedInterval && t.shedInterval ≤ 100 && 1 ≤ t.restoreHold && t.restoreHold ≤ 600
    && 5 ≤ t.stagger && t.stagger ≤ 600 && 1 ≤ t.warmUp && t.warmUp ≤ 120
    && (t.lockCount = 2 || t.lockCount = 3) && 1 ≤ t.lockWindow && t.lockWindow ≤ 60
    && t.fastThreshold < t.shedThreshold && t.shedThreshold < t.recoveryLevel && t.recoveryLevel < 5000
    && 5000 < t.runawayExit && t.runawayExit < t.runawayLevel && t.runawayLevel < t.tripLevel

/-- R132, the table from its record. -/
def thresholdsOf : List (List Byte) → Option ThresholdsTable
  | [[a, b, c, d, e, f, g, h, i, j, k, l, m, n, o, p, q, r, u, v, w, x, y, z]] =>
    let t : ThresholdsTable :=
      { shedThreshold := be16 a b, shedDelay := c.toNat, fastThreshold := be16 d e, fastDelay := f.toNat,
        recoveryLevel := be16 g h, recoveryTime := i.toNat, runawayLevel := be16 j k, runawayDelay := l.toNat,
        runawayExit := be16 m n, tripLevel := be16 o p, tripDelay := q.toNat, shedInterval := r.toNat,
        restoreHold := be16 u v, stagger := be16 w x, warmUp := y.toNat, lockCount := z.toNat / 64,
        lockWindow := z.toNat % 64 }
    if thresholdsSound t then some t else none
  | _ => none

/-- A staged table read back, or none where its contents fail validation (R92). -/
def tableFrom (t : TableId) (records : List (List Byte)) : Option TableCopy :=
  match t with
  | .channels => (channelsOf records).map .channels
  | .saw => (sawTableOf records).map .saw
  | .feeders => (feedersOf records).map .feeders
  | .bands => (bandsTableOf records).map .bands
  | .shedOrder => (shedOrderOf records).map .shedOrder
  | .thresholds => (thresholdsOf records).map .thresholds

/-- R103, R149: the part of validation that depends on live state. A feeder that is neither OFF nor LOCKED keeps its
record; the SAW table changes in STOPPED, or in RUN with record 1 as committed. -/
def State.liveStateAllows (s : State) : TableCopy → Bool
  | .channels _ => true
  | .saw t => s.saw.state = .stopped || (s.saw.state = .run && t.start = s.set.tables.saw.start)
  | .feeders t =>
    allFeeders.all fun k =>
      (s.feeder k).state = .off || (s.feeder k).state = .locked || t[k] = s.feederConfig k
  | .bands _ => true
  | .shedOrder _ => true
  | .thresholds _ => true

/-- R99: the check a BANDS commit carries, at the present declaration and committed sums; other tables pass. -/
def State.committedFits (s : State) : TableCopy → Bool
  | .bands t =>
    let b := bandsFor s.alw.d t
    commonNeed b s.hSum s.wSum s.sSum ≤ b.c
  | .channels _ => true
  | .saw _ => true
  | .feeders _ => true
  | .shedOrder _ => true
  | .thresholds _ => true

/-! ### The operands of CLAIM (R47) -/

/-- R47: a CLAIM's operands are in range and consistent, and the binding is one allowed for the number. -/
def ClaimOperandsSound (n : Fin 24) (o : ClaimOperands) : Bool :=
  1 ≤ o.amount && o.amount ≤ Config.maxPower
    && (match o.runAmount, o.surgeTime with
        | none, none => true
        | some r, some t => r ≤ o.amount && 1 ≤ t && t ≤ 600
        | some _, none => false
        | none, some _ => false)
    && o.leadTime ≤ 50
    && (match o.waitLimit with
        | none => true
        | some w => 1 ≤ w && w ≤ 300)
    && bindingAllowed n o.binding

end Sys2Proof.Machine
end

