-- ==== Sys2Proof/Machine/Ops.lean ====
section
/-! DEFINITION. The operations that more than one command is made of: time, messages between blocks, notices and replies;
the regulator's timings, ballast demand and changes of station state; the Allowance Unit's queue, Lead Line, letting go,
budget check and claim requests; and the contactor timings that follow the driven levels. -/

namespace Sys2Proof.Machine

/-! ### Outcome, time and messages -/

/-- A command's outcome: while a reset is held no block acts (R19, R172); otherwise the effect. -/
def whenReleased (s : State) (effect : State → State) : Host.Outcome State Fault Refusal :=
  .next (if s.held then s else effect s)

/-- An event takes place at the moment given (microseconds), or now if that has passed (log 2). -/
def State.reach (s : State) (t : Nat) : State := { s with now := max s.now t }

/-- An event takes place at the moment given in 10 ms. -/
def State.reachTick (s : State) (t : Nat) : State := s.reach (t * Config.microsPerTick)

/-- A block sends another a request or report; it is on its way until its arrival is taken (log 1). -/
def State.send (s : State) (m : Instr) : State := { s with transit := s.transit ++ [m] }

def State.sendAll (s : State) (ms : List Instr) : State := { s with transit := s.transit ++ ms }

/-- A request or report arrives: if one like it is on its way, the oldest such is now taken (log 1). -/
def State.arrive (s : State) (m : Instr) : State := { s with transit := s.transit.erase m }

/-- A report that is on its way is taken now by its block; with none on its way nothing happens. -/
def State.takeReport (s : State) (m : Instr) (effect : State → State) : State :=
  if m ∈ s.transit then effect (s.arrive m) else s

/-! ### Notices and replies (R159, R162) -/

/-- The notice kinds (R162). -/
inductive Notice where
  | claimDue | claimEnded | station | closeGate | trip | settings | broken | snapshot | feeder | saw | link
  deriving DecidableEq, Repr

/-- The notice set that holds one kind: its bit of the layouts chapter (11, "Codes"). -/
def Notice.bit : Notice → NoticeSet
  | .claimDue => 0x001
  | .claimEnded => 0x002
  | .station => 0x004
  | .closeGate => 0x008
  | .trip => 0x010
  | .settings => 0x020
  | .broken => 0x040
  | .snapshot => 0x080
  | .feeder => 0x100
  | .saw => 0x200
  | .link => 0x400

/-- Change one link context. -/
def State.onLink (s : State) (l : Link) (f : LinkContext → LinkContext) : State :=
  { s with links := s.links.put l (f (s.links.get l)) }

/-- R162: add a kind to a link's notice set. -/
def State.addNotice (s : State) (l : Link) (k : Notice) : State :=
  s.onLink l fun c => { c with notices := c.notices ||| k.bit }

/-- Add a kind to each of the links listed. -/
def State.addNotices (s : State) (ls : List Link) (k : Notice) : State :=
  ls.foldl (fun t l => t.addNotice l k) s

def State.addNoticeAll (s : State) (k : Notice) : State := s.addNotices [.l1, .l2, .l3] k

/-- Place the reply to an order in its link's reply buffer (R159). -/
def State.reply (s : State) (l : Link) (code : Byte) (st : Status) (data : List Byte) : State :=
  s.onLink l fun c => { c with buffer := some { code := code, status := st, data := data } }

/-- A reply without data (R174). -/
def State.answer (s : State) (l : Link) (code : Byte) (st : Status) : State := s.reply l code st []

/-! ### Timings of R5 -/

/-- R5: a condition true starts a stopped timing and keeps any other; a condition false stops it. -/
def Timing.judge (t : Timing) (condition : Bool) (clock : Nat) : Timing :=
  if condition then
    match t with
    | .stopped => .running clock
    | .running since => .running since
    | .complete since => .complete since
  else .stopped

/-- A running timing becomes complete (R5). -/
def Timing.expire : Timing → Timing
  | .running since => .complete since
  | .stopped => .stopped
  | .complete since => .complete since

/-- R5: every condition of the six timings is judged again. A timing whose condition has not changed stays as it is. -/
def State.judgeTimings (s : State) : State :=
  { s with reg :=
    { s.reg with
      warmBand := s.reg.warmBand.judge s.warmCondition s.clock
      shed := s.reg.shed.judge s.shedCondition s.clock
      fast := s.reg.fast.judge s.fastCondition s.clock
      recovery := s.reg.recovery.judge s.recoveryCondition s.clock
      runaway := s.reg.runaway.judge s.runawayCondition s.clock
      trip := s.reg.trip.judge s.tripCondition s.clock } }

/-- R18: QUIET is judged. -/
def State.judgeQuiet (s : State) : State := { s with reg := { s.reg with quiet := s.quietCondition } }

/-! ### Ballast demand (R24, R25, R31, R35) -/

/-- R24, R25: outside BLACK, set Bd to a value clamped to 0 and the capacity, share it out and judge the timings again. -/
def State.setDemand (s : State) (x : Int) : State :=
  let bd := min x.toNat s.capacity
  State.judgeTimings
    { s with reg := { s.reg with bd := bd, levels := levelsFor bd s.reg.ratings } }

/-- R35, outside BLACK: the committed ratings are taken into the ratings in force, Bd is clamped and shared out again.
A commit that left the ratings as they were changes nothing. -/
def State.takeRatings (s : State) : State :=
  if s.reg.ratings = s.set.tables.channels.rating then s
  else
    let s1 : State := { s with reg := { s.reg with ratings := s.set.tables.channels.rating } }
    s1.setDemand s1.reg.bd

/-- R31, R35: the ratings in force are brought up to the table, Bd is the capacity and every channel is at level 64. -/
def State.fullBallast (s : State) : State :=
  { s with reg :=
    { s.reg with
      ratings := s.set.tables.channels.rating
      bd := s.set.tables.channels.rating.toList.sum
      levels := #v[64, 64, 64, 64] } }

/-- R22: every channel takes one step of the firing pattern. -/
def State.fireStep (s : State) : State :=
  let sum (i : Fin 4) : Nat := s.reg.counts[i] + s.reg.levels[i]
  { s with reg :=
    { s.reg with
      conducting := vec4 fun i => 64 ≤ sum i
      counts := vec4 fun i => if 64 ≤ sum i then sum i - 64 else sum i } }

/-! ### Changes of station state (R7 to R15) -/

/-- R15: the report of a change to the Allowance Unit, the Feeder Controller, the Saw Sequencer, the Measurement Unit and
the three link contexts. The rule sets no order among them; that they are sent, and so arrive, in this one is the model's
(DESIGN CHOICE, log 38). -/
def stateReports (r : StateReport) : List Instr :=
  [.allowanceStateReport r, .feederStateReport r, .sawStateReport r, .measurementStateReport r,
   .linkStateReport .l1 r, .linkStateReport .l2 r, .linkStateReport .l3 r]

/-- The station enters a state with a reason set: timings and QUIET are judged again and the change is reported. -/
def State.enterStation (s : State) (entered : StationState) (reasons : Reasons) : State :=
  let s1 : State := { s with reg := { s.reg with station := entered, reasons := reasons } }
  s1.judgeTimings.judgeQuiet.sendAll (stateReports { left := s.reg.station, entered := entered, reasons := reasons })

/-- R7, R31: entry to BLACK, the history already emptied. -/
def State.enterBlack (s : State) : State :=
  let s1 := s.fullBallast
  let s2 : State :=
    { s1 with reg :=
      { s1.reg with
        counts := #v[0, 0, 0, 0]
        conducting := #v[true, true, true, true]
        lastPeriod := none
        midpoint := none } }
  s2.enterStation .black .empty

/-- R3, R7: waveform loss, from silence or from discards. -/
def State.waveformLoss (s : State) : State :=
  let s1 : State := { s with reg := { s.reg with history := [], discardRun := 0, validRun := 0 } }
  if s.reg.station = .black then s1.judgeTimings else s1.enterBlack

/-- R8, R33: from BLACK to WARMING, Bd at the capacity shared out by R25. -/
def State.enterWarming (s : State) : State :=
  let s1 : State := { s with reg := { s.reg with levels := levelsFor s.reg.bd s.reg.ratings } }
  s1.enterStation .warming .empty

/-- R10: FREQUENCY joins the reason set; a REGULATING station enters DEFICIT. -/
def State.raiseFrequency (s : State) : State :=
  match s.reg.station with
  | .regulating => s.enterStation .deficit { s.reg.reasons with frequency := true }
  | .deficit => { s with reg := { s.reg with reasons := { s.reg.reasons with frequency := true } } }
  | .black => s
  | .warming => s
  | .runaway => s

/-- R12: the station leaves DEFICIT once the recovery timing is complete and BUDGET is absent. -/
def State.leaveDeficit (s : State) : State :=
  if s.reg.station = .deficit ∧ s.reg.recovery.isComplete = true ∧ s.reg.reasons.budget = false then
    s.enterStation .regulating .empty
  else s

/-- R16: the trip timing's expiry sets the TRIP latch. -/
def State.setTrip (s : State) : State :=
  if s.reg.tripLatch then s
  else State.addNoticeAll { s with reg := { s.reg with tripLatch := true } } .trip

/-! ### Claims (R42, R48, R50) -/

def State.setClaim (s : State) (n : Fin 24) (c : Claim) : State :=
  { s with alw := { s.alw with claims := s.alw.claims.set n c } }

/-- R40, R42: a record that returns to FREE. -/
def Claim.freed (c : Claim) (o : Ending) : Claim :=
  { c with state := .free, waitDeadline := none, dueTime := none, surgeEnd := none, last := o }

/-- R42: the outcomes that add no CLAIM_ENDED. -/
def endsQuietly : Ending → Bool
  | .withdrawn => true
  | .released => true
  | .noEnding => false
  | .expired => false
  | .cancelled => false
  | .shed => false
  | .forced => false
  | .linkLost => false
  | .fault => false

/-- R70, R75: a claim's mark leaves the Lead Line, with the empty report when it was the last. -/
def State.removeMark (s : State) (n : Fin 24) : State :=
  let rest := s.alw.line.filter fun m => m.claim ≠ n
  let s1 : State := { s with alw := { s.alw with line := rest } }
  if s.alw.line ≠ [] ∧ rest = [] then s1.send (.leadLineReport .empty) else s1

/-- R50: a claim that is not FREE is let go with an outcome: it leaves the queue, or its mark leaves the line, or an up step
of its committed amount is sent; it becomes FREE, and CLAIM_ENDED is added where R42 requires. -/
def State.letGo (s : State) (n : Fin 24) (o : Ending) : State :=
  let c := s.claim n
  let ended (t : State) : State :=
    let t1 := t.setClaim n (c.freed o)
    if endsQuietly o then t1 else t1.addNotice (holderOf n) .claimEnded
  match c.state with
  | .free => s
  | .waiting => ended { s with alw := { s.alw with queue := s.alw.queue.erase n } }
  | .pending => ended (s.removeMark n)
  | .carried => ended (s.send (.upStep c.committed))

/-- The owning block's admission, carried or ending report for a block claim (R73); a free claim has none. -/
def admissionReport (n : Fin 24) : List Instr :=
  match blockOwner n with
  | none => []
  | some (.saw c) => [.sawAdmissionReport c]
  | some (.feeder k) => [.feederAdmissionReport k]

def carriedReport (n : Fin 24) : List Instr :=
  match blockOwner n with
  | none => []
  | some (.saw c) => [.sawCarriedReport c]
  | some (.feeder k) => [.feederCarriedReport k]

def endingReport (n : Fin 24) (o : Ending) : List Instr :=
  match blockOwner n with
  | none => []
  | some (.saw c) => [.sawEndingReport c o]
  | some (.feeder k) => [.feederEndingReport k o]

/-! ### The budget check (R88) -/

/-- R88: a raise is sent when the bands do not fit and none stands; a clear when they fit and one stands. -/
def State.budgetCheck (s : State) : State :=
  if s.bandsFit then
    if s.alw.budgetRaised then
      State.send { s with alw := { s.alw with budgetRaised := false } } .budgetClearRequest
    else s
  else if s.alw.budgetRaised then s
  else State.send { s with alw := { s.alw with budgetRaised := true } } .budgetRaiseRequest

/-- R88: the check made, while the station is DEFICIT as last reported, after a committed amount has fallen. -/
def State.budgetCheckInDeficit (s : State) : State := if s.reported = .deficit then s.budgetCheck else s

/-! ### Considering the head (R63 to R67, R71) -/

/-- R71: the due time of a new mark, from its candidate and the marks on the line, earliest first. -/
def placeMark (candidate : Nat) (line : List Mark) : Nat :=
  line.foldl
    (fun c m => if m.due < c + Config.stepGuard ∧ c < m.due + Config.stepGuard then m.due + Config.stepGuard else c)
    candidate

/-- R70, R71: a mark takes its place in the line in order of due time. -/
def insertMark (m : Mark) : List Mark → List Mark
  | [] => [m]
  | x :: xs => if m.due < x.due then m :: x :: xs else x :: insertMark m xs

/-- R67: the head n, with the rest of the queue behind it, goes from WAITING to PENDING. -/
def State.admitHead (s : State) (n : Fin 24) (rest : List (Fin 24)) : State :=
  let c := s.claim n
  let due := placeMark (s.clock + Config.tenths c.leadTime) s.alw.line
  let s1 := s.setClaim n { c with state := .pending, waitDeadline := none, dueTime := some due }
  let s2 : State :=
    { s1 with alw :=
      { s1.alw with queue := rest, line := insertMark { claim := n, due := due, amount := c.amount } s.alw.line } }
  let s3 := s2.sendAll (admissionReport n)
  if s.alw.line = [] then s3.send (.leadLineReport .firstMark) else s3

/-- R63, R67: the head is considered; an admission makes a new head, which is considered at once. The fuel is the length of
the queue, which each admission shortens. -/
def State.considerChain : Nat → State → State
  | 0, s => s
  | fuel + 1, s =>
    match s.alw.queue with
    | [] => s
    | n :: rest => if s.headPasses n then State.considerChain fuel (s.admitHead n rest) else s

/-- R63: a consideration of the head of the Admission Queue. -/
def State.consider (s : State) : State := State.considerChain s.alw.queue.length s

/-- R50, R63, R88: what follows a claim's return to FREE, by the state it left: a budget check in DEFICIT when it was
committed, and a consideration when it was the head, a mark or carried. -/
def State.afterRelease (s : State) (was : ClaimState) (wasHead : Bool) : State :=
  match was with
  | .free => s
  | .waiting => if wasHead then s.consider else s
  | .pending => s.budgetCheckInDeficit.consider
  | .carried => s.budgetCheckInDeficit.consider

/-- A claim is let go (R50) and what follows is done. -/
def State.endClaim (s : State) (n : Fin 24) (o : Ending) : State :=
  (s.letGo n o).afterRelease (s.claim n).state (s.alw.queue.head? = some n)

/-! ### Making a claim (R48, R49) -/

/-- R48: a claim is accepted: it is WAITING at the tail of the queue, and is considered when it is the head. -/
def State.acceptClaim (s : State) (n : Fin 24) (amount : Nat) (runAmount surgeTime : Option Nat) (leadTime : Nat)
    (waitLimit : Option Nat) (binding : Binding) (tag : Nat) : State :=
  let c : Claim :=
    { state := .waiting, amount := amount, runAmount := runAmount, surgeEnded := runAmount.map fun _ => false,
      surgeTime := surgeTime, leadTime := leadTime, waitLimit := waitLimit, binding := binding, tag := tag,
      waitDeadline := some (s.clock + Config.tenths (waitLimit.getD Config.defaultWaitTenths)), dueTime := none,
      surgeEnd := none, last := (s.claim n).last }
  let s1 := s.setClaim n c
  let s2 : State := { s1 with alw := { s1.alw with queue := s1.alw.queue ++ [n] } }
  if s.alw.queue = [] then s2.consider else s2

/-- R49: the checks of a claim request from a block, in order. While an end request that the block sent earlier for the claim
has still to be taken the answer is WRONG_STATE, even where the claim has been let go before it (R106, R137, R140). A report
of the earlier claim that is still on its way refuses nothing (DESIGN CHOICE, log 40). -/
def State.claimRequestStatus (s : State) (n : Fin 24) (amount : Nat) (runAmount : Option Nat) : Status :=
  if s.reported = .black then .stationBlack
  else if (s.claim n).state ≠ .free ∨ s.endAwaits n = true then .wrongState
  else if amount = 0 ∨ amount < runAmount.getD 0 then .badOperand
  else if Config.queueLimit ≤ s.alw.queue.length then .queueFull
  else .ok

/-- R54, R55: a carried claim's surge ends: its committed amount falls to the run amount and the difference is stepped up;
band fit is checked in DEFICIT and the head is considered. -/
def State.endSurge (s : State) (n : Fin 24) : State :=
  let c := s.claim n
  let s1 := s.setClaim n { c with surgeEnded := some true, surgeEnd := none }
  let s2 := s1.send (.upStep (c.amount - c.runAmount.getD c.amount))
  s2.budgetCheckInDeficit.consider

/-- R86, R88, R98: the bands are recomputed from the declaration and the reserves. -/
def State.recomputeBands (s : State) : State :=
  { s with alw := { s.alw with bands := bandsFor s.alw.d s.set.tables.bands } }

/-! ### Contactor timings that follow the driven levels (R110, R145) -/

/-- R110: the follow and stuck timings of a feeder, judged by its driven level and feedback. Neither runs in FAULT. -/
def feederTimings (f : Feeder) (driven closed : Bool) (clock : Nat) : Feeder :=
  match f.state with
  | .fault _ => { f with follow := .stopped, stuck := .stopped }
  | .off | .waiting | .pending | .on | .shed | .locked =>
    { f with follow := f.follow.judge driven clock, stuck := f.stuck.judge (!driven && closed) clock }

/-- R145: a disagreement timing runs while the driven level and the feedback differ. -/
def disagreement (t : Option Nat) (fault driven closed : Bool) (clock : Nat) : Option Nat :=
  if fault || driven == closed then none
  else
    match t with
    | none => some clock
    | some since => some since

/-- Every feeder's contactor timings are judged again. -/
def State.syncFeeders (s : State) : State :=
  { s with fdr :=
    { s.fdr with
      feeders := vec12 fun k => feederTimings (s.feeder k) (s.feederDriven k) s.pins.fb[k] s.clock } }

/-- The saw's disagreement timings are judged again. -/
def State.syncSaw (s : State) : State :=
  { s with saw :=
    { s.saw with
      lineDisagree := disagreement s.saw.lineDisagree s.saw.state.isFault s.lineDriven s.pins.lineFb s.clock
      starDisagree := disagreement s.saw.starDisagree s.saw.state.isFault s.starDriven s.pins.starFb s.clock
      deltaDisagree := disagreement s.saw.deltaDisagree s.saw.state.isFault s.deltaDriven s.pins.deltaFb s.clock } }

/-- All contactor timings are judged again, after a command, a feedback or a carry enable may have changed. -/
def State.sync (s : State) : State := s.syncFeeders.syncSaw

end Sys2Proof.Machine
end

