-- ==== Sys2Proof/Machine/Allowance.lean ====
section
/-! DEFINITION. The Allowance Unit (03, 04, 05): the claim orders, DECLARE, the expiries of waits, marks and surges, end
requests, and the reports of a station change and of a lost link. -/

namespace Sys2Proof.Machine

/-! ### Claim orders (R46 to R52, R57) -/

/-- R45: a claim that is not FREE names this auxiliary output. -/
def State.outputHeld (s : State) (b : Binding) : Bool :=
  match b with
  | .aux x => allClaims.any fun n => (s.claim n).state ≠ .free && (s.claim n).binding = .aux x
  | .nothing => false
  | .feeder _ => false
  | .saw => false

/-- R46: the checks of CLAIM in order: the claim number's record, or the refusal. -/
def State.claimCheck (s : State) (l : Link) (o : ClaimOperands) : Except Status (Fin 24) :=
  if s.reported = .black then .error .stationBlack
  else
    match claimInField l o.number with
    | none => .error .notYourField
    | some n =>
      if (s.claim n).state ≠ .free then .error .wrongState
      else if ClaimOperandsSound n o = false then .error .badOperand
      else if s.outputHeld o.binding then .error .outputBusy
      else if Config.queueLimit ≤ s.alw.queue.length then .error .queueFull
      else .ok n

/-- R46, R48. -/
def claimEffect (l : Link) (o : ClaimOperands) (s : State) : State :=
  match s.claimCheck l o with
  | .error st => s.answer l Code.claim st
  | .ok n =>
    (s.acceptClaim n o.amount o.runAmount o.surgeTime o.leadTime o.waitLimit o.binding o.tag).answer l Code.claim .ok

def execClaim (l : Link) (o : ClaimOperands) (s : State) : Host.Outcome State Fault Refusal :=
  whenReleased (s.arrive (.claim l o)) (claimEffect l o)

/-- R51. -/
def withdrawEffect (l : Link) (n : Nat) (s : State) : State :=
  match claimInField l n with
  | none => s.answer l Code.withdraw .notYourField
  | some m =>
    match (s.claim m).state with
    | .waiting | .pending => (s.endClaim m .withdrawn).answer l Code.withdraw .ok
    | .free | .carried => s.answer l Code.withdraw .wrongState

def execWithdraw (l : Link) (n : Nat) (s : State) : Host.Outcome State Fault Refusal :=
  whenReleased (s.arrive (.withdraw l n)) (withdrawEffect l n)

/-- R52. -/
def releaseEffect (l : Link) (n : Nat) (s : State) : State :=
  match claimInField l n with
  | none => s.answer l Code.release .notYourField
  | some m =>
    match (s.claim m).state with
    | .carried => (s.endClaim m .released).answer l Code.release .ok
    | .free | .waiting | .pending => s.answer l Code.release .wrongState

def execRelease (l : Link) (n : Nat) (s : State) : Host.Outcome State Fault Refusal :=
  whenReleased (s.arrive (.release l n)) (releaseEffect l n)

/-- R57: the moment a claim record shows: the wait deadline, the due time or the surge end time, whichever is present. -/
def Claim.moment (c : Claim) : Option Nat :=
  match c.waitDeadline with
  | some t => some t
  | none =>
    match c.dueTime with
    | some t => some t
    | none => c.surgeEnd

/-- R57: a claim record as read. -/
def State.claimRecord (s : State) (n : Fin 24) : List Byte :=
  let c := s.claim n
  u8 n.val ++ u8 (linkCode (holderOf n)) ++ u8 (claimStateCode c.state) ++ u16 c.amount ++ optU16 c.runAmount
    ++ optFlag c.surgeEnded ++ optU16 c.surgeTime ++ u8 c.leadTime ++ optU16 c.waitLimit ++ u8 (bindingCode c.binding)
    ++ u8 c.tag ++ optU16 (c.moment.map fun t => t - s.clock) ++ u8 (endingCode c.last) ++ u16 c.committed
    ++ u16 (s.ownPortion n) ++ u16 (s.commonPortion n)

/-- R57. -/
def readClaimEffect (l : Link) (n : Nat) (s : State) : State :=
  if h : n < 24 then s.reply l Code.readClaim .ok (s.claimRecord ⟨n, h⟩) else s.answer l Code.readClaim .badOperand

def execReadClaim (l : Link) (n : Nat) (s : State) : Host.Outcome State Fault Refusal :=
  whenReleased (s.arrive (.readClaim l n)) (readClaimEffect l n)

/-! ### DECLARE (R84) -/

/-- R84: the checks of DECLARE in order. -/
def State.declareStatus (s : State) (l : Link) (d : Nat) : Status :=
  if l ≠ .l1 then .notYourField
  else if s.reported = .black then .stationBlack
  else if Config.maxPower < d then .badOperand
  else .ok

/-- R84, R85: the declaration is replaced, STALE is cleared and the bands are recomputed. -/
def State.takeDeclaration (s : State) (d : Nat) : State :=
  State.recomputeBands { s with alw := { s.alw with d := d, stale := false } }

/-- R84: an accepted DECLARE is followed by the budget check and then by a consideration. -/
def declareEffect (l : Link) (d : Nat) (s : State) : State :=
  match s.declareStatus l d with
  | .ok => (((s.takeDeclaration d).budgetCheck).consider).answer l Code.declare .ok
  | st => s.answer l Code.declare st

def execDeclare (l : Link) (d : Nat) (s : State) : Host.Outcome State Fault Refusal :=
  whenReleased (s.arrive (.declare l d)) (declareEffect l d)

/-! ### Expiries and requests (R53 to R55, R68, R72) -/

/-- R68. -/
def waitExpiryEffect (n : Fin 24) (s : State) : State :=
  match (s.claim n).state, (s.claim n).waitDeadline with
  | .waiting, some t =>
    let s1 := s.reachTick t
    ((s1.letGo n .expired).sendAll (endingReport n .expired)).afterRelease .waiting (s1.alw.queue.head? = some n)
  | _, _ => s

def execWaitExpiry (n : Fin 24) (s : State) : Host.Outcome State Fault Refusal := whenReleased s (waitExpiryEffect n)

/-- R72: the due event of a mark, in the order of its seven steps. -/
def State.dueEvent (s : State) (m : Mark) : State :=
  let n := m.claim
  let s1 : State := { s with alw := { s.alw with line := s.alw.line.filter fun x => x.claim ≠ n } }
  let s2 := s1.send (.downStep m.amount)
  let c := s2.claim n
  let s3 :=
    s2.setClaim n
      { c with
        state := .carried
        dueTime := none
        surgeEnd := c.surgeTime.map fun t => s2.clock + Config.tenths t }
  let s4 := (s3.sendAll (carriedReport n)).addNotice (holderOf n) .claimDue
  if s4.alw.line = [] then s4.send (.leadLineReport .empty) else s4

/-- R72: the due event, and the consideration that a mark's leaving brings. -/
def dueEventEffect (n : Fin 24) (s : State) : State :=
  match s.alw.line.find? (fun m => m.claim = n) with
  | none => s
  | some m => (((s.reachTick m.due).dueEvent m).consider).sync

def execDueEvent (n : Fin 24) (s : State) : Host.Outcome State Fault Refusal := whenReleased s (dueEventEffect n)

/-- R54. -/
def surgeExpiryEffect (n : Fin 24) (s : State) : State :=
  match (s.claim n).state, (s.claim n).surgeEnd with
  | .carried, some t => (s.reachTick t).endSurge n
  | _, _ => s

def execSurgeExpiry (n : Fin 24) (s : State) : Host.Outcome State Fault Refusal := whenReleased s (surgeExpiryEffect n)

/-- R55. -/
def surgeEndRequestEffect (s : State) : State :=
  if (s.claim 4).state = .carried ∧ (s.claim 4).surgeEnded = some false then s.endSurge 4 else s

def execSurgeEndRequest (s : State) : Host.Outcome State Fault Refusal :=
  whenReleased (s.arrive .surgeEndRequest) surgeEndRequestEffect

/-- R53: an end request that finds the claim FREE has no effect. -/
def endRequestEffect (n : Fin 24) (o : Ending) (s : State) : State :=
  if (s.claim n).state = .free then s else (s.endClaim n o).sync

def execEndRequest (n : Fin 24) (o : Ending) (s : State) : Host.Outcome State Fault Refusal :=
  whenReleased (s.arrive (.endRequest n o)) (endRequestEffect n o)

/-! ### Reports to the Allowance Unit (R59, R77 to R80, R85, R88) -/

/-- R78, R79: a claim that is not FREE is cancelled by a station change; its owning block is told. -/
def State.cancelClaim (s : State) (n : Fin 24) : State :=
  if (s.claim n).state = .free then s else (s.letGo n .cancelled).sendAll (endingReport n .cancelled)

/-- R79, R85, R88: the report of entry to BLACK. The rule allows any order, and the claims are let go in ascending number
(DESIGN CHOICE, log 31). -/
def State.cancelAll (s : State) : State :=
  let s1 := allClaims.foldl State.cancelClaim s
  { s1 with alw := { s1.alw with stale := true, budgetRaised := false } }

/-- R78, R125: a mark is cancelled at entry to DEFICIT. Where a shed step was taken before it, the end request of that step
is on its way and is taken first: the claim ends with SHED, and no ending report is sent (DEDUCED, log 34). -/
def State.cancelMark (s : State) (n : Fin 24) : State :=
  if .endRequest n .shed ∈ s.transit then (s.arrive (.endRequest n .shed)).letGo n .shed else s.cancelClaim n

/-- R78, R88: the report of entry to DEFICIT: every mark is cancelled, each with its budget check (log 25), and the budget is
checked at the end. The rule allows any order, and the marks are taken in order of due time (DESIGN CHOICE, log 31). -/
def State.cancelMarks (s : State) : State :=
  ((s.alw.line.map Mark.claim).foldl (fun t n => (t.cancelMark n).budgetCheckInDeficit) s).budgetCheck

/-- R77: the report of a station change at the Allowance Unit. -/
def allowanceReportEffect (r : StateReport) (s : State) : State :=
  let s1 : State := { s with alw := { s.alw with lastReport := { state := r.entered, reasons := r.reasons } } }
  match r.entered with
  | .black => s1.cancelAll.sync
  | .warming => s1
  | .regulating => s1.consider
  | .deficit => s1.cancelMarks.sync
  | .runaway => s1.consider

def execAllowanceStateReport (r : StateReport) (s : State) : Host.Outcome State Fault Refusal :=
  whenReleased (s.arrive (.allowanceStateReport r)) (allowanceReportEffect r)

/-- R59: a free claim of a lost link that is not yet connected is let go. -/
def State.loseClaim (s : State) (n : Fin 24) : State :=
  match (s.claim n).state with
  | .waiting => s.letGo n .linkLost
  | .pending => (s.letGo n .linkLost).budgetCheckInDeficit
  | .free | .carried => s

/-- R59, R85: the loss of a link; L1's loss sets STALE. The head is considered once, after all are let go. -/
def linkLossAllowanceEffect (l : Link) (s : State) : State :=
  let s1 : State := { s with alw := { s.alw with stale := s.alw.stale || l = .l1 } }
  let s2 := (freeClaims l).foldl State.loseClaim s1
  if s2.alw.queue.head? = s.alw.queue.head? ∧ s2.alw.line = s.alw.line then s2 else s2.consider

def execLinkLossReportAllowance (l : Link) (s : State) : Host.Outcome State Fault Refusal :=
  whenReleased (s.arrive (.linkLossReportAllowance l)) (linkLossAllowanceEffect l)

end Sys2Proof.Machine
end

