-- ==== Sys2Proof/Decode.lean ====
section
/-! DEFINITION. Order frames (R160, R161, R173; 11, "Frames" and "Orders"): the check byte, how the bytes of a selection window
are judged, how an order's operands are read and written, and reply frames as bytes. The commands of this block have no
instruction words, so decodeTableWord names none. -/

namespace Sys2Proof

/-- No row of spec/opcode_table.json gives a command any bits, so no word spells a command. -/
def decodeTableWord (_nbits _w : Nat) : Option Instr := none

namespace Machine

/-! ### Frames (R160) -/

/-- One bit of the CRC-8 with polynomial x^8 + x^2 + x + 1. -/
def crcShift (c : Byte) : Byte := if c.msb then (c <<< 1) ^^^ 0x07 else c <<< 1

/-- One byte of the CRC-8, most significant bit first. -/
def crcByte (c b : Byte) : Byte :=
  crcShift (crcShift (crcShift (crcShift (crcShift (crcShift (crcShift (crcShift (c ^^^ b))))))))

/-- The CRC-8 of R160: initial value 0, no final inversion. -/
def crc8 (bytes : List Byte) : Byte := bytes.foldl crcByte 0

/-- An order frame: code, operand length, operands, check byte. -/
def encodeFrame (code : Byte) (operands : List Byte) : List Byte :=
  let body := code :: BitVec.ofNat 8 operands.length :: operands
  body ++ [crc8 body]

/-- R160: the order code and operands of a valid frame; none for a frame that is discarded. -/
def judgeFrame (bytes : List Byte) (oddPulses : Nat) : Option (Byte × List Byte) :=
  match bytes with
  | code :: n :: rest =>
    let operands := rest.dropLast
    if oddPulses = 0 ∧ n.toNat ≤ Config.maxOperandBytes ∧ rest.length = n.toNat + 1
        ∧ rest.getLast? = some (crc8 (code :: n :: operands)) then
      some (code, operands)
    else none
  | _ => none

/-! ### Operands (R173; 11, "Orders") -/

/-- An order that takes no operand. -/
def noOperand (i : Instr) (ops : List Byte) : Except Status Instr :=
  match ops with
  | [] => .ok i
  | _ => .error .badOperand

/-- An order that takes one byte as a number. -/
def oneOperand (f : Nat → Instr) (ops : List Byte) : Except Status Instr :=
  match ops with
  | [a] => .ok (f a.toNat)
  | _ => .error .badOperand

/-- SET NOTICE MASK: a kind set with none of bits 11 to 15. -/
def decodeMask (l : Link) (ops : List Byte) : Except Status Instr :=
  match ops with
  | [a, b] => if be16 a b < 2048 then .ok (.setNoticeMask l (BitVec.ofNat 11 (be16 a b))) else .error .badOperand
  | _ => .error .badOperand

/-- An order that takes one byte as a table code. -/
def tableOperand (f : TableId → Instr) (ops : List Byte) : Except Status Instr :=
  match ops with
  | [a] =>
    match tableNamed a.toNat with
    | some t => .ok (f t)
    | none => .error .badOperand
  | _ => .error .badOperand

/-- OPEN WINDOW: table, first, last. -/
def decodeOpenWindow (l : Link) (ops : List Byte) : Except Status Instr :=
  match ops with
  | [a, b, c] =>
    match tableNamed a.toNat with
    | some t => .ok (.openWindow l t b.toNat c.toNat)
    | none => .error .badOperand
  | _ => .error .badOperand

/-- READ TABLE: table, record, copy. -/
def decodeReadTable (l : Link) (ops : List Byte) : Except Status Instr :=
  match ops with
  | [a, b, c] =>
    match tableNamed a.toNat, copyNamed c.toNat with
    | some t, some k => .ok (.readTable l t b.toNat k)
    | _, _ => .error .badOperand
  | _ => .error .badOperand

/-- DECLARE: the amount. -/
def decodeDeclare (l : Link) (ops : List Byte) : Except Status Instr :=
  match ops with
  | [a, b] => .ok (.declare l (be16 a b))
  | _ => .error .badOperand

/-- An optional two-byte operand of CLAIM: 0xFFFF is absent (R173). -/
def optional16 (a b : Byte) : Option Nat := if be16 a b = 0xFFFF then none else some (be16 a b)

/-- CLAIM: the twelve operand bytes. -/
def decodeClaim (l : Link) (ops : List Byte) : Except Status Instr :=
  match ops with
  | [n, a, b, c, d, e, f, g, h, i, j, k] =>
    match bindingOf j.toNat with
    | some bind =>
      .ok (.claim l
        { number := n.toNat, amount := be16 a b, runAmount := optional16 c d, surgeTime := optional16 e f,
          leadTime := g.toNat, waitLimit := optional16 h i, binding := bind, tag := k.toNat })
    | none => .error .badOperand
  | _ => .error .badOperand

/-- The order a valid frame carries, or the status that answers it (R161, R173). LOAD DATA passes any operands on: whether
they are a record is judged with the window (R165). -/
def decodeOrder (l : Link) (code : Byte) (ops : List Byte) : Except Status Instr :=
  match code.toNat with
  | 0x00 => noOperand (.null l) ops
  | 0x01 => noOperand (.readNotices l) ops
  | 0x02 => decodeMask l ops
  | 0x03 => decodeOpenWindow l ops
  | 0x04 => .ok (.loadData l ops)
  | 0x05 => oneOperand (.supervise l) ops
  | 0x06 => noOperand (.readLink l) ops
  | 0x07 => noOperand (.readResetCause l) ops
  | 0x08 => noOperand (.readStation l) ops
  | 0x10 => noOperand (.ackTrip l) ops
  | 0x11 => decodeDeclare l ops
  | 0x20 => decodeClaim l ops
  | 0x21 => oneOperand (.withdraw l) ops
  | 0x22 => oneOperand (.release l) ops
  | 0x23 => oneOperand (.readClaim l) ops
  | 0x30 => decodeReadTable l ops
  | 0x31 => tableOperand (.confirm l) ops
  | 0x32 => tableOperand (.reject l) ops
  | 0x40 => oneOperand (.feederOn l) ops
  | 0x41 => oneOperand (.feederOff l) ops
  | 0x42 => oneOperand (.feederClear l) ops
  | 0x43 => oneOperand (.readFeeder l) ops
  | 0x50 => noOperand (.sawStart l) ops
  | 0x51 => noOperand (.sawStop l) ops
  | 0x52 => noOperand (.sawFeed l) ops
  | 0x53 => noOperand (.sawReturn l) ops
  | 0x54 => noOperand (.sawHold l) ops
  | 0x55 => noOperand (.sawResume l) ops
  | 0x56 => noOperand (.sawClearFault l) ops
  | 0x57 => noOperand (.readSaw l) ops
  | 0x60 => noOperand (.takeSnapshot l) ops
  | 0x61 => noOperand (.readSnapshot l) ops
  | _ => .error .unknownOrder

/-! ### Orders as frames -/

/-- The operand bytes of CLAIM. -/
def claimBytes (o : ClaimOperands) : List Byte :=
  u8 o.number ++ u16 o.amount ++ u16 (o.runAmount.getD 0xFFFF) ++ u16 (o.surgeTime.getD 0xFFFF) ++ u8 o.leadTime
    ++ u16 (o.waitLimit.getD 0xFFFF) ++ u8 (bindingCode o.binding) ++ u8 o.tag

/-- An order as a station sends it. -/
structure Order where
  link : Link
  code : Byte
  operands : List Byte
  deriving DecidableEq, Repr

/-- The order a command is sent as; none for a command that is no order. -/
def encodeOrder : Instr → Option Order
  | .null l => some ⟨l, Code.null, []⟩
  | .readNotices l => some ⟨l, Code.readNotices, []⟩
  | .setNoticeMask l m => some ⟨l, Code.setNoticeMask, u16 m.toNat⟩
  | .openWindow l t a b => some ⟨l, Code.openWindow, u8 (tableCode t) ++ u8 a ++ u8 b⟩
  | .loadData l bs => some ⟨l, Code.loadData, bs⟩
  | .supervise l p => some ⟨l, Code.supervise, u8 p⟩
  | .readLink l => some ⟨l, Code.readLink, []⟩
  | .readResetCause l => some ⟨l, Code.readResetCause, []⟩
  | .readStation l => some ⟨l, Code.readStation, []⟩
  | .ackTrip l => some ⟨l, Code.ackTrip, []⟩
  | .declare l d => some ⟨l, Code.declare, u16 d⟩
  | .claim l o => some ⟨l, Code.claim, claimBytes o⟩
  | .withdraw l n => some ⟨l, Code.withdraw, u8 n⟩
  | .release l n => some ⟨l, Code.release, u8 n⟩
  | .readClaim l n => some ⟨l, Code.readClaim, u8 n⟩
  | .readTable l t r c => some ⟨l, Code.readTable, u8 (tableCode t) ++ u8 r ++ u8 (copyCode c)⟩
  | .confirm l t => some ⟨l, Code.confirm, u8 (tableCode t)⟩
  | .reject l t => some ⟨l, Code.reject, u8 (tableCode t)⟩
  | .feederOn l k => some ⟨l, Code.feederOn, u8 k⟩
  | .feederOff l k => some ⟨l, Code.feederOff, u8 k⟩
  | .feederClear l k => some ⟨l, Code.feederClear, u8 k⟩
  | .readFeeder l k => some ⟨l, Code.readFeeder, u8 k⟩
  | .sawStart l => some ⟨l, Code.sawStart, []⟩
  | .sawStop l => some ⟨l, Code.sawStop, []⟩
  | .sawFeed l => some ⟨l, Code.sawFeed, []⟩
  | .sawReturn l => some ⟨l, Code.sawReturn, []⟩
  | .sawHold l => some ⟨l, Code.sawHold, []⟩
  | .sawResume l => some ⟨l, Code.sawResume, []⟩
  | .sawClearFault l => some ⟨l, Code.sawClearFault, []⟩
  | .readSaw l => some ⟨l, Code.readSaw, []⟩
  | .takeSnapshot l => some ⟨l, Code.takeSnapshot, []⟩
  | .readSnapshot l => some ⟨l, Code.readSnapshot, []⟩
  | _ => none

/-- The bytes of a reply frame (11, "Frames"): code, status, data length, data, check byte. -/
def replyBytes (r : Reply) : List Byte :=
  let body := r.code :: BitVec.ofNat 8 (statusCode r.status) :: BitVec.ofNat 8 r.data.length :: r.data
  body ++ [crc8 body]

/-- The NULL reply of R159. -/
def nullReply : Reply := { code := Code.null, status := .ok, data := [] }

end Machine

end Sys2Proof
end

