-- ==== Sys2Proof/Machine/Settings.lean ====
section
/-! DEFINITION. The Settings Unit (05): commits, proposals, completed loads, READ TABLE, CONFIRM, REJECT and the KEY sample. -/

namespace Sys2Proof.Machine

/-! ### Proposals (R93) -/

/-- The pending proposal of a shared table. -/
def Settings.proposal (u : Settings) : SharedId → Option Proposal
  | .bands => u.bandsProposal
  | .shedOrder => u.shedOrderProposal
  | .thresholds => u.thresholdsProposal

def State.setProposal (s : State) (t : SharedId) (p : Option Proposal) : State :=
  match t with
  | .bands => { s with set := { s.set with bandsProposal := p } }
  | .shedOrder => { s with set := { s.set with shedOrderProposal := p } }
  | .thresholds => { s with set := { s.set with thresholdsProposal := p } }

/-- R93: a completed load becomes the table's pending proposal. -/
def State.propose (s : State) (l : Link) (t : SharedId) (c : TableCopy) : State :=
  (s.setProposal t (some { copy := c, proposer := l, expiry := s.clock + Config.proposalTicks })).addNotices
    (otherLinks l) .settings

/-- R94, R95: a proposal ends other than by a window: it is discarded and its proposer told. -/
def State.endProposal (s : State) (t : SharedId) (p : Proposal) : State :=
  (s.setProposal t none).addNotice p.proposer .settings

/-! ### Commits (R35, R92, R98, R104) -/

/-- A commit replaces the table and takes effect: CHANNELS in BLACK at once (R35); BANDS by recomputing the bands, with the
budget check and the consideration of a band change (R86, R98); the others at each setting's next use. -/
def State.commit (s : State) (c : TableCopy) : State :=
  let s1 : State := { s with set := { s.set with tables := s.set.tables.store c } }
  match c with
  | .channels _ => if s1.reg.station = .black then s1.fullBallast else s1
  | .bands _ =>
    let s2 := s1.recomputeBands
    if s2.alw.bands = s1.alw.bands then s2 else s2.budgetCheck.consider
  | .saw _ => s1
  | .feeders _ => s1
  | .shedOrder _ => s1
  | .thresholds _ => s1

/-- R92: the Settings Unit takes a completed load from a link, and its answer. -/
def State.takeLoad (s : State) (l : Link) (t : TableId) (staging : List (List Byte)) : State × Status :=
  match tableFrom t staging with
  | none => (s, .badRecord)
  | some c =>
    if s.liveStateAllows c = false then (s, .badRecord)
    else
      match sharedOf t with
      | none => (s.commit c, .ok)
      | some sh =>
        match s.set.key with
        | .keyLocal => if s.committedFits c then (s.commit c, .ok) else (s, .committedExceeds)
        | .keyRemote => (s.propose l sh c, .ok)

/-! ### Orders (R91, R94, R95) -/

/-- R91. A record out of range is answered BAD_OPERAND before the proposal is looked at, so READ TABLE PROPOSED of such a
record on a table with no proposal answers BAD_OPERAND and not NO_PROPOSAL (DESIGN CHOICE, log 36). -/
def readTableEffect (l : Link) (t : TableId) (record : Nat) (copy : CopyId) (s : State) : State :=
  if record = 0 ∨ recordCount t < record then s.answer l Code.readTable .badOperand
  else
    match copy with
    | .committed => s.reply l Code.readTable .ok (u8 0 ++ recordBytes (s.set.tables.copy t) record)
    | .proposed =>
      match (sharedOf t).bind s.set.proposal with
      | none => s.answer l Code.readTable .noProposal
      | some p => s.reply l Code.readTable .ok (u8 (linkCode p.proposer) ++ recordBytes p.copy record)

def execReadTable (l : Link) (t : TableId) (record : Nat) (copy : CopyId) (s : State) :
    Host.Outcome State Fault Refusal :=
  whenReleased (s.arrive (.readTable l t record copy)) (readTableEffect l t record copy)

/-- R94, R95: the checks CONFIRM and REJECT share: the shared table and its proposal, or the refusal. -/
def State.proposalCheck (s : State) (l : Link) (t : TableId) : Except Status (SharedId × Proposal) :=
  match sharedOf t with
  | none => .error .badOperand
  | some sh =>
    match s.set.proposal sh with
    | none => .error .noProposal
    | some p => if p.proposer = l then .error .sameLink else .ok (sh, p)

/-- R94. -/
def confirmEffect (l : Link) (t : TableId) (s : State) : State :=
  match s.proposalCheck l t with
  | .error st => s.answer l Code.confirm st
  | .ok (sh, p) =>
    if s.committedFits p.copy then ((s.endProposal sh p).commit p.copy).answer l Code.confirm .ok
    else (s.endProposal sh p).answer l Code.confirm .committedExceeds

def execConfirm (l : Link) (t : TableId) (s : State) : Host.Outcome State Fault Refusal :=
  whenReleased (s.arrive (.confirm l t)) (confirmEffect l t)

/-- R95. -/
def rejectEffect (l : Link) (t : TableId) (s : State) : State :=
  match s.proposalCheck l t with
  | .error st => s.answer l Code.reject st
  | .ok (sh, p) => (s.endProposal sh p).answer l Code.reject .ok

def execReject (l : Link) (t : TableId) (s : State) : Host.Outcome State Fault Refusal :=
  whenReleased (s.arrive (.reject l t)) (rejectEffect l t)

/-! ### Expiry and KEY (R95, R97) -/

/-- R95: a proposal's expiry. -/
def proposalExpiryEffect (t : SharedId) (s : State) : State :=
  match s.set.proposal t with
  | none => s
  | some p => (s.reachTick p.expiry).endProposal t p

def execProposalExpiry (t : SharedId) (s : State) : Host.Outcome State Fault Refusal :=
  whenReleased s (proposalExpiryEffect t)

/-- R97: the KEY input changes. The level is the pin's own; the sample follows it unless a reset is held. -/
def keyChangeEffect (k : Key) (s : State) : State :=
  let s1 : State := { s with pins := { s.pins with key := k } }
  if s.held then s1 else { s1 with set := { s1.set with key := k } }

def execKeyChange (k : Key) (s : State) : Host.Outcome State Fault Refusal := .next (keyChangeEffect k s)

end Sys2Proof.Machine
end

