-- ==== Sys2Proof/Machine/Links.lean ====
section
/-! DEFINITION. The Station Links (10): the orders the link itself takes, windows on the settings tables, supervision, and
the report of a station change. How a frame is taken stands in Machine/Frames.lean. -/

namespace Sys2Proof.Machine

/-! ### Selection (R159) -/

/-- R159: SELECT falls: a window opens, the reply in the buffer moves to the output, or a NULL reply does. While a reset is
held only the level is kept, and a line that is low already does not fall. -/
def selectFallEffect (l : Link) (s : State) : State :=
  if (s.link l).selectLow then s
  else if s.held then s.onLink l fun c => { c with selectLow := true }
  else
    s.onLink l fun c =>
      { c with selectLow := true, selecting := true, output := some (c.buffer.getD nullReply), buffer := none }

def execSelectFall (l : Link) (s : State) : Host.Outcome State Fault Refusal := .next (selectFallEffect l s)

/-- R159: byte i that a link shifts out on DATA_OUT in the present window: the reply's, and 0x00 beyond its end. With no window,
and while a reset is held, DATA_OUT carries none (R172). -/
def State.dataOut (s : State) (l : Link) (i : Nat) : Option Byte :=
  (s.link l).output.map fun r => (replyBytes r).getD i 0

/-! ### Reports and supervision (R15, R162, R168, R169) -/

/-- R15: the report of a station change at a link context. -/
def linkReportEffect (l : Link) (r : StateReport) (s : State) : State :=
  let s1 := s.addNotice l .station
  if l = .l1 ∧ r.entered = .runaway then s1.addNotice l .closeGate else s1

def execLinkStateReport (l : Link) (r : StateReport) (s : State) : Host.Outcome State Fault Refusal :=
  whenReleased (s.arrive (.linkStateReport l r)) (linkReportEffect l r)

/-- R169: the remaining time of an ACTIVE link runs out: the link is LOST, and the loss is told and reported, to the Allowance
Unit before the Saw Sequencer (DESIGN CHOICE, log 38). -/
def supervisionExpiryEffect (l : Link) (s : State) : State :=
  match (s.link l).lost, (s.link l).supervision with
  | false, some { period := p, deadline := some t } =>
    let s1 := (s.reachTick t).onLink l fun c => { c with lost := true, supervision := some { period := p, deadline := none } }
    (s1.addNotices (otherLinks l) .link).sendAll [.linkLossReportAllowance l, .linkLossReportSaw l]
  | _, _ => s

def execSupervisionExpiry (l : Link) (s : State) : Host.Outcome State Fault Refusal :=
  whenReleased s (supervisionExpiryEffect l)

/-- R168: a period in tenths of a second that SUPERVISE accepts. -/
def periodAllowed (p : Nat) : Bool := 5 ≤ p && p ≤ 255

/-- R168: SUPERVISE. -/
def superviseEffect (l : Link) (p : Nat) (s : State) : State :=
  if periodAllowed p then
    (s.onLink l fun c =>
      { c with
        supervision :=
          some { period := p, deadline := if c.lost then none else some (s.clock + Config.tenths p) } }).answer
      l Code.supervise .ok
  else s.answer l Code.supervise .badOperand

def execSupervise (l : Link) (p : Nat) (s : State) : Host.Outcome State Fault Refusal :=
  whenReleased (s.arrive (.supervise l p)) (superviseEffect l p)

/-! ### NULL and notices (R161, R163) -/

def execNull (l : Link) (s : State) : Host.Outcome State Fault Refusal :=
  whenReleased (s.arrive (.null l)) fun t => t.answer l Code.null .ok

/-- R163: READ NOTICES. -/
def readNoticesEffect (l : Link) (s : State) : State :=
  (s.onLink l fun c => { c with notices := 0 }).reply l Code.readNotices .ok (noticeBytes (s.link l).notices)

def execReadNotices (l : Link) (s : State) : Host.Outcome State Fault Refusal :=
  whenReleased (s.arrive (.readNotices l)) (readNoticesEffect l)

/-- R163: SET NOTICE MASK. -/
def setNoticeMaskEffect (l : Link) (mask : NoticeSet) (s : State) : State :=
  (s.onLink l fun c => { c with mask := mask }).answer l Code.setNoticeMask .ok

def execSetNoticeMask (l : Link) (mask : NoticeSet) (s : State) : Host.Outcome State Fault Refusal :=
  whenReleased (s.arrive (.setNoticeMask l mask)) (setNoticeMaskEffect l mask)

/-! ### Windows (R93, R164 to R166) -/

/-- R166: the BROKEN flag and notice of a link whose work another station discarded. -/
def State.breakLink (s : State) (l : Link) : State :=
  (s.onLink l fun c => { c with broken := true }).addNotice l .broken

/-- R166: another link's window on this shared table is pre-empted. -/
def State.preempt (s : State) (t : TableId) (other : Link) : State :=
  match (s.link other).window with
  | none => s
  | some w =>
    if w.range.table = t then (s.onLink other fun c => { c with window := none }).breakLink other else s

/-- R93: a proposal on this table is discarded by a window that link l opens. -/
def State.discardProposal (s : State) (l : Link) (sh : SharedId) : State :=
  match s.set.proposal sh with
  | none => s
  | some p =>
    let s1 := s.setProposal sh none
    if p.proposer = l then s1.addNotices (otherLinks l) .settings
    else
      (s1.breakLink p.proposer).addNotices ((otherLinks l).filter fun m => m ≠ p.proposer) .settings

/-- R93, R166: opening a window on a shared table clears the way. -/
def State.clearTheWay (s : State) (l : Link) (t : TableId) : State :=
  match sharedOf t with
  | none => s
  | some sh => ((otherLinks l).foldl (fun u other => u.preempt t other) s).discardProposal l sh

/-- R164: the checks of OPEN WINDOW in order. -/
def openWindowStatus (l : Link) (t : TableId) (first last : Nat) : Status :=
  if (tableOwner t).isSome ∧ tableOwner t ≠ some l then .notYourTable
  else if first = 0 ∨ recordCount t < last ∨ last < first then .badOperand
  else .ok

/-- R164: OPEN WINDOW. -/
def openWindowEffect (l : Link) (t : TableId) (first last : Nat) (s : State) : State :=
  match openWindowStatus l t first last with
  | .ok =>
    ((s.clearTheWay l t).onLink l fun c =>
      { c with
        window :=
          some { range := { table := t, first := first, last := last, pointer := first }
                 staging := tableBytes (s.set.tables.copy t) } }).answer
      l Code.openWindow .ok
  | st => s.answer l Code.openWindow st

def execOpenWindow (l : Link) (t : TableId) (first last : Nat) (s : State) : Host.Outcome State Fault Refusal :=
  whenReleased (s.arrive (.openWindow l t first last)) (openWindowEffect l t first last)

/-- R165, R173: LOAD DATA. -/
def loadDataEffect (l : Link) (bytes : List Byte) (s : State) : State :=
  match (s.link l).window with
  | none => s.answer l Code.loadData .noWindow
  | some w =>
    if bytes.length ≠ recordSize w.range.table w.range.pointer then s.answer l Code.loadData .badOperand
    else
      let staging := w.staging.set (w.range.pointer - 1) bytes
      if w.range.pointer < w.range.last then
        (s.onLink l fun c =>
          { c with
            window := some { range := { w.range with pointer := w.range.pointer + 1 }, staging := staging } }).answer
          l Code.loadData .ok
      else
        let r := (s.onLink l fun c => { c with window := none }).takeLoad l w.range.table staging
        r.1.answer l Code.loadData r.2

def execLoadData (l : Link) (bytes : List Byte) (s : State) : Host.Outcome State Fault Refusal :=
  whenReleased (s.arrive (.loadData l bytes)) (loadDataEffect l bytes)

/-! ### READ LINK, READ RESET CAUSE and READ STATION (R167, R170, R171) -/

/-- The four window fields of the link record, all 0 when no window was open as the frame arrived. -/
def windowBytes : Option WindowRange → List Byte
  | none => flag false ++ u8 0 ++ u8 0 ++ u8 0 ++ u8 0
  | some w => flag true ++ u8 (tableCode w.table) ++ u8 w.first ++ u8 w.last ++ u8 w.pointer

/-- R167: the link record as read. -/
def State.linkRecord (s : State) (l : Link) : List Byte :=
  let c := s.link l
  let period : Nat :=
    match c.supervision with
    | none => 0
    | some p => p.period
  let remaining : Nat :=
    match c.supervision with
    | some { period := _, deadline := some t } => t - s.clock
    | _ => 0
  [Config.linkStateCode c.atFrame.lost] ++ flag c.supervision.isSome ++ u8 period ++ u16 remaining ++ u8 c.discarded
    ++ flag c.broken ++ noticeBytes c.mask ++ windowBytes c.atFrame.window

/-- R167: READ LINK clears the BROKEN flag. -/
def readLinkEffect (l : Link) (s : State) : State :=
  (s.onLink l fun c => { c with broken := false }).reply l Code.readLink .ok (s.linkRecord l)

def execReadLink (l : Link) (s : State) : Host.Outcome State Fault Refusal :=
  whenReleased (s.arrive (.readLink l)) (readLinkEffect l)

def resetCauseCode : ResetCause → Nat
  | .powerOn => 0
  | .panel => 1

/-- R171. -/
def execReadResetCause (l : Link) (s : State) : Host.Outcome State Fault Refusal :=
  whenReleased (s.arrive (.readResetCause l)) fun t => t.reply l Code.readResetCause .ok (u8 (resetCauseCode t.cause))

/-- R170: the station record as read. -/
def State.stationRecord (s : State) : List Byte :=
  u8 (stationCode s.reg.station) ++ u8 (reasonsCode s.reg.reasons) ++ u16 (s.filtered.getD 0) ++ u16 s.alw.d
    ++ flag s.alw.stale ++ u16 s.alw.bands.h ++ u16 s.alw.bands.w ++ u16 s.alw.bands.c ++ u16 s.need ++ u16 s.hSum
    ++ u16 s.wSum ++ u16 s.sSum ++ u16 s.reg.bd ++ u16 s.bc ++ u16 s.meas.pb ++ u16 s.headroom
    ++ flag s.meas.discrepancy ++ flag s.reg.tripLatch ++ u8 (keyCode s.set.key) ++ u8 s.alw.queue.length
    ++ u8 s.alw.line.length ++ flag s.reg.quiet

/-- R170. -/
def execReadStation (l : Link) (s : State) : Host.Outcome State Fault Refusal :=
  whenReleased (s.arrive (.readStation l)) fun t => t.reply l Code.readStation .ok t.stationRecord

end Sys2Proof.Machine
end

