-- ==== Sys2Proof/Machine/Feeders.lean ====
section
/-! DEFINITION. The Feeder Controller (06, 07): feeder orders, reports, contactor checks, lockout, shed steps, forced release
and restoration. -/

namespace Sys2Proof.Machine

/-! ### Shared operations -/

/-- The feeder an order names, k from 1 to 12. -/
def feederNumbered (k : Nat) : Option (Fin 12) :=
  if h : 1 ≤ k ∧ k ≤ 12 then some ⟨k - 1, by omega⟩ else none

def State.setFeeder (s : State) (k : Fin 12) (f : Feeder) : State :=
  { s with fdr := { s.fdr with feeders := s.fdr.feeders.set k f } }

def State.setCursor (s : State) (c : Cursor) : State := { s with fdr := { s.fdr with cursor := c } }

/-- R129: the cursor goes to STAGGER and the stagger starts, its time read now (R133). -/
def State.startStagger (s : State) : State :=
  s.setCursor (.stagger (s.clock + Config.tenths s.set.tables.thresholds.stagger))

/-- R129: a cursor that is RESTORING this feeder goes to STAGGER as the feeder leaves WAITING or PENDING. -/
def State.releaseCursor (s : State) (k : Fin 12) : State :=
  if s.fdr.cursor = .restoring k then s.startStagger else s

/-- R49, R106: the claim request for feeder Fk, with the status returned. -/
def State.requestFeeder (s : State) (k : Fin 12) : State × Status :=
  let cfg := s.feederConfig k
  let n := feederClaim k
  match s.claimRequestStatus n cfg.rating none with
  | .ok =>
    (s.acceptClaim n cfg.rating none none cfg.leadTime (some Config.defaultWaitTenths) (.feeder k) (k.val + 1), .ok)
  | st => (s, st)

/-- R112: entry to FAULT of a feeder. -/
def State.faultFeeder (s : State) (k : Fin 12) (kind : FeederFault) : State :=
  let f := s.feeder k
  let s1 :=
    match f.state with
    | .on | .waiting | .pending => s.send (.endRequest (feederClaim k) .fault)
    | .off | .shed | .locked | .fault _ => s
  let s2 :=
    s1.setFeeder k
      { f with state := .fault kind, close := false, restoring := false, follow := .stopped, stuck := .stopped }
  ((s2.addNotice .l3 .feeder).releaseCursor k).syncFeeders

/-! ### Shed steps (R118 to R124) -/

/-- The claims a target holds when committed (R118). -/
def targetClaims : ShedTarget → List (Fin 24)
  | .feeder k => [feederClaim k]
  | .saw .feedHold => [5]
  | .saw .stop => [4, 5]

/-- R118. A feeder whose claim the Allowance Unit has cancelled is no longer active, even if the ending report that will move
it has still to be taken (R125, second row: DEDUCED, log 30). -/
def State.targetActive (s : State) : ShedTarget → Bool
  | .feeder k =>
    ((s.feeder k).state = .on || (s.feeder k).state = .waiting || (s.feeder k).state = .pending) && !s.cancellationAwaits k
  | .saw t => sawTargetActive t s.saw.state

/-- R119: letting the target's committed claims go would lower the common need. -/
def State.lowersNeed (s : State) (t : ShedTarget) : Bool :=
  let exceeds : Bool :=
    match t with
    | .feeder _ => s.alw.bands.h < s.hSum
    | .saw _ => s.alw.bands.w < s.wSum
  exceeds && 0 < s.committedOf (targetClaims t)

/-- R119; a target that is not active is never effective (R105, R125: log 14). -/
def State.targetEffective (s : State) (t : ShedTarget) : Bool :=
  s.targetActive t && (s.reg.reasons.frequency || (s.reg.reasons.budget && s.lowersNeed t))

/-- R114: whether a shed of this feeder now locks it out: the earlier sheds within the lock window and this one reach the
lock count, and the class is ORDINARY. -/
def State.locksOut (s : State) (k : Fin 12) : Bool :=
  let th := s.set.tables.thresholds
  let recent := (s.feeder k).history.filter fun t => s.clock ≤ t + Config.minutes th.lockWindow
  (s.feederConfig k).cls = .ordinary && th.lockCount ≤ recent.length + 1

/-- R113: the present moment joins a shed history; of four the oldest is removed. -/
def joinHistory (h : List Nat) (t : Nat) : List Nat :=
  let h' := h ++ [t]
  if 3 < h'.length then h'.drop (h'.length - 3) else h'

/-- R114, R122: a feeder is shed. -/
def State.shedFeeder (s : State) (k : Fin 12) : State :=
  let f := s.feeder k
  let s1 := s.send (.endRequest (feederClaim k) .shed)
  let s2 :=
    s1.setFeeder k
      { f with
        state := if s.locksOut k then .locked else .shed
        close := false
        restoring := false
        history := joinHistory f.history s.clock }
  s2.addNotice .l3 .feeder

/-- R124: the order in which a forced release looks for a CARRIED free claim. -/
def forcedOrder : List (Fin 24) := [11, 10, 9, 8, 7, 6, 3, 2, 1, 0]

/-- R124. -/
def State.forcedRelease (s : State) : State :=
  match forcedOrder.find? (fun n => (s.claim n).state = .carried) with
  | some n => s.send (.endRequest n .forced)
  | none => s

/-- R120: the step timing starts from now, with the shed interval read now (R133). -/
def State.restartStep (s : State) : State :=
  { s with fdr :=
    { s.fdr with step := .running s.clock (Config.tenths s.set.tables.thresholds.shedInterval) false } }

/-- R121: a shed step. -/
def State.shedStep (s : State) : State :=
  let acted :=
    if s.reg.reasons = .empty then s
    else
      match (shedList s.set.tables.shedOrder).find? s.targetEffective with
      | some (.feeder k) => s.shedFeeder k
      | some (.saw t) => s.send (.shedRequest t)
      | none => s.forcedRelease
  acted.restartStep.syncFeeders

/-- R120: a step taken at a valid cycle completion between the half mark and the full mark. -/
def State.stepBetweenMarks (s : State) : State :=
  match s.fdr.step with
  | .stopped => s
  | .running since interval halfPassed =>
    if halfPassed = true ∧ s.clock < since + interval ∧ s.belowFast = true then s.shedStep else s

/-! ### Restoration (R126 to R131) -/

/-- R128: the SHED feeder with the lowest rank. -/
def State.lowestShed (s : State) : Option (Fin 12) :=
  (allFeeders.filter fun k => (s.feeder k).state = .shed).foldl
    (fun best k =>
      match best with
      | none => some k
      | some b => if (s.feederConfig k).rank < (s.feederConfig b).rank then some k else some b)
    none

/-- R128: a choice. -/
def State.restorationChoice (s : State) : State :=
  match s.lowestShed with
  | none => s.setCursor .ready
  | some k =>
    match s.requestFeeder k with
    | (s1, .ok) => (s1.setFeeder k { s.feeder k with state := .waiting, restoring := true }).setCursor (.restoring k)
    | (s1, _) => s1.startStagger

/-- R130: a restoring feeder that is WAITING or PENDING is given up at entry to DEFICIT. One whose claim the Allowance Unit
has cancelled first is left to its ending report, and no end request is sent (log 30). -/
def State.cancelRestoring (s : State) : State :=
  match s.fdr.cursor with
  | .restoring k =>
    let f := s.feeder k
    if (f.state = .waiting ∨ f.state = .pending) ∧ s.cancellationAwaits k = false then
      ((s.send (.endRequest (feederClaim k) .cancelled)).setFeeder k { f with state := .shed, restoring := false }).addNotice
        .l3 .feeder
    else s
  | .idle => s
  | .hold _ => s
  | .stagger _ => s
  | .ready => s

/-- R115: a feeder's live half at entry to BLACK. -/
def Feeder.atBlack (f : Feeder) (autoRestore : Bool) : Feeder :=
  let state : FeederState :=
    match f.state with
    | .on | .waiting | .pending | .shed => if autoRestore then .shed else .off
    | .off => .off
    | .locked => .locked
    | .fault k => .fault k
  { f with state := state, close := false, restoring := false }

/-- R115, R131, R120: the Feeder Controller at entry to BLACK. -/
def State.feedersAtBlack (s : State) : State :=
  let moved : State :=
    { s with fdr :=
      { feeders := vec12 fun k => (s.feeder k).atBlack (s.feederConfig k).autoRestore
        cursor := .idle
        step := .stopped } }
  let changed := allFeeders.any fun k => (s.feeder k).state ≠ (moved.feeder k).state
  (if changed then moved.addNotice .l3 .feeder else moved).syncFeeders

/-! ### Orders (R106, R107, R117) -/

/-- R106 to R107: the checks before anything else is looked at; the feeder, or the refusal. -/
def feederOrderCheck (l : Link) (k : Nat) : Except Status (Fin 12) :=
  if l ≠ .l3 then .error .notYourField
  else
    match feederNumbered k with
    | none => .error .badOperand
    | some i => .ok i

/-- R106. An unconfigured feeder that is LOCKED or in FAULT meets the first two rows, and is answered by the first (DESIGN
CHOICE, log 32). -/
def State.feederOn (s : State) (k : Fin 12) : State × Status :=
  if (s.feederConfig k).rating = 0 then (s, .badOperand)
  else if (s.feeder k).state ≠ .off then (s, .wrongState)
  else
    match s.requestFeeder k with
    | (s1, .ok) => (s1.setFeeder k { s.feeder k with state := .waiting, restoring := false }, .ok)
    | (s1, st) => (s1, st)

/-- R107, FEEDER OFF. -/
def State.feederOff (s : State) (k : Fin 12) : State × Status :=
  let f := s.feeder k
  let offed (t : State) : State := t.setFeeder k { f with state := .off, close := false, restoring := false }
  match f.state with
  | .waiting | .pending => ((offed (s.send (.endRequest (feederClaim k) .withdrawn))).releaseCursor k, .ok)
  | .on => ((offed (s.send (.endRequest (feederClaim k) .released))).syncFeeders, .ok)
  | .shed => (offed s, .ok)
  | .off | .locked | .fault _ => (s, .wrongState)

/-- R107, FEEDER CLEAR. -/
def State.feederClear (s : State) (k : Fin 12) : State × Status :=
  let f := s.feeder k
  match f.state with
  | .locked =>
    if s.set.key = .keyLocal then (s.setFeeder k { f with state := .off, history := [] }, .ok) else (s, .keyRequired)
  | .fault _ =>
    if s.pins.fb[k] then (s, .wrongState) else ((s.setFeeder k { f with state := .off }).syncFeeders, .ok)
  | .off | .waiting | .pending | .on | .shed => (s, .wrongState)

/-- R117, R174: the three elapsed times of a shed history, in whole seconds, saturating; an unused entry is 0xFFFF. -/
def elapsedBytes (history : List Nat) (clock : Nat) : List Byte :=
  let entry (i : Nat) : Option Nat := history[i]?.map fun t => min ((clock - t) / 100) 65534
  optU16 (entry 0) ++ optU16 (entry 1) ++ optU16 (entry 2)

/-- R117: the feeder record as read. -/
def State.feederRecord (s : State) (k : Fin 12) : List Byte :=
  let f := s.feeder k
  feederRecordBytes (s.feederConfig k) ++ u8 (feederStateCode f.state) ++ flag f.restoring
    ++ u8 (feederFaultCode f.state) ++ u8 f.history.length ++ elapsedBytes f.history s.clock ++ flag f.close
    ++ flag (s.feederDriven k) ++ flag s.pins.fb[k]

/-! ### Meanings -/

/-- R106. -/
def feederOnEffect (l : Link) (k : Nat) (s : State) : State :=
  match feederOrderCheck l k with
  | .error st => s.answer l Code.feederOn st
  | .ok i => (s.feederOn i).1.answer l Code.feederOn (s.feederOn i).2

def execFeederOn (l : Link) (k : Nat) (s : State) : Host.Outcome State Fault Refusal :=
  whenReleased (s.arrive (.feederOn l k)) (feederOnEffect l k)

/-- R107. -/
def feederOffEffect (l : Link) (k : Nat) (s : State) : State :=
  match feederOrderCheck l k with
  | .error st => s.answer l Code.feederOff st
  | .ok i => (s.feederOff i).1.answer l Code.feederOff (s.feederOff i).2

def execFeederOff (l : Link) (k : Nat) (s : State) : Host.Outcome State Fault Refusal :=
  whenReleased (s.arrive (.feederOff l k)) (feederOffEffect l k)

/-- R107. -/
def feederClearEffect (l : Link) (k : Nat) (s : State) : State :=
  match feederOrderCheck l k with
  | .error st => s.answer l Code.feederClear st
  | .ok i => (s.feederClear i).1.answer l Code.feederClear (s.feederClear i).2

def execFeederClear (l : Link) (k : Nat) (s : State) : Host.Outcome State Fault Refusal :=
  whenReleased (s.arrive (.feederClear l k)) (feederClearEffect l k)

/-- R117. -/
def readFeederEffect (l : Link) (k : Nat) (s : State) : State :=
  match feederNumbered k with
  | none => s.answer l Code.readFeeder .badOperand
  | some i => s.reply l Code.readFeeder .ok (s.feederRecord i)

def execReadFeeder (l : Link) (k : Nat) (s : State) : Host.Outcome State Fault Refusal :=
  whenReleased (s.arrive (.readFeeder l k)) (readFeederEffect l k)

/-- R108, admission. -/
def feederAdmissionEffect (k : Fin 12) (s : State) : State :=
  if (s.feeder k).state = .waiting then s.setFeeder k { s.feeder k with state := .pending } else s

def execFeederAdmissionReport (k : Fin 12) (s : State) : Host.Outcome State Fault Refusal :=
  whenReleased (s.arrive (.feederAdmissionReport k)) (feederAdmissionEffect k)

/-- R108, R129, carried. A report of an earlier claim that is still on its way is taken so too (DESIGN CHOICE, log 40). -/
def feederCarriedEffect (k : Fin 12) (s : State) : State :=
  let f := s.feeder k
  if f.state = .waiting ∨ f.state = .pending then
    let s1 := s.setFeeder k { f with state := .on, close := true, restoring := false }
    let s2 := if f.restoring then s1.addNotice .l3 .feeder else s1
    (s2.releaseCursor k).syncFeeders
  else s

def execFeederCarriedReport (k : Fin 12) (s : State) : Host.Outcome State Fault Refusal :=
  whenReleased (s.arrive (.feederCarriedReport k)) (feederCarriedEffect k)

/-- R108, R128, R129: a feeder whose claim has ended involuntarily goes to SHED or OFF; the cursor goes on to STAGGER when it
was restoring this feeder, and makes a choice when it is READY and the feeder has become SHED. -/
def State.feederLetGo (s : State) (k : Fin 12) (toShed : Bool) : State :=
  let f := s.feeder k
  let s1 :=
    s.setFeeder k { f with state := if toShed then .shed else .off, close := false, restoring := false }
  let s2 := s1.addNotice .l3 .feeder
  let s3 :=
    if s2.fdr.cursor = .ready ∧ toShed = true then s2.restorationChoice else s2.releaseCursor k
  s3.syncFeeders

/-- R108, ending. A report of an earlier claim that is still on its way is taken so too (DESIGN CHOICE, log 40). -/
def feederEndingEffect (k : Fin 12) (o : Ending) (s : State) : State :=
  let f := s.feeder k
  let auto := (s.feederConfig k).autoRestore
  match f.state with
  | .waiting | .pending =>
    if o = .expired ∨ o = .cancelled then s.feederLetGo k (f.restoring || auto) else s
  | .on => if o = .cancelled then s.feederLetGo k auto else s
  | .off | .shed | .locked | .fault _ => s

def execFeederEndingReport (k : Fin 12) (o : Ending) (s : State) : Host.Outcome State Fault Refusal :=
  whenReleased (s.arrive (.feederEndingReport k o)) (feederEndingEffect k o)

/-- The due event of feeder Fk, which waits, has been taken, and the carried report that tells it has still to be (R72, R73). -/
def State.dueTaken (s : State) (k : Fin 12) : Bool :=
  ((s.feeder k).state = .waiting || (s.feeder k).state = .pending) && (s.claim (feederClaim k)).state = .carried
    && .feederCarriedReport k ∈ s.transit

/-- R81, R130: a restoring feeder whose due event was taken before the entry to DEFICIT is ON when the report of it is taken:
its carried report, still on its way, is taken first (DEDUCED, log 41). -/
def State.takeRestored (s : State) : State :=
  match s.fdr.cursor with
  | .restoring k => if s.dueTaken k then s.takeReport (.feederCarriedReport k) (feederCarriedEffect k) else s
  | .idle => s
  | .hold _ => s
  | .stagger _ => s
  | .ready => s

/-- R115, R120, R127, R130, R131: the report of a station change at the Feeder Controller. -/
def feederStateReportEffect (r : StateReport) (s : State) : State :=
  match r.entered with
  | .black => s.feedersAtBlack
  | .warming => s
  | .regulating =>
    let s1 : State := { s with fdr := { s.fdr with step := .stopped } }
    if s1.fdr.cursor = .idle then
      s1.setCursor (.hold (s1.clock + Config.seconds s1.set.tables.thresholds.restoreHold))
    else s1
  | .deficit => (s.takeRestored.cancelRestoring.setCursor .idle).shedStep
  | .runaway =>
    match s.fdr.cursor with
    | .hold _ => s.setCursor .idle
    | .idle => s
    | .restoring _ => s
    | .stagger _ => s
    | .ready => s

def execFeederStateReport (r : StateReport) (s : State) : Host.Outcome State Fault Refusal :=
  whenReleased (s.arrive (.feederStateReport r)) (feederStateReportEffect r)

/-- R120, the half mark. -/
def stepHalfMarkEffect (s : State) : State :=
  match s.fdr.step with
  | .running since interval false =>
    let s1 := s.reachTick (since + interval / 2)
    if s1.belowFast then s1.shedStep
    else { s1 with fdr := { s1.fdr with step := .running since interval true } }
  | .running _ _ true => s
  | .stopped => s

def execStepTimingHalfMark (s : State) : Host.Outcome State Fault Refusal := whenReleased s stepHalfMarkEffect

/-- R120, the full mark. -/
def stepFullMarkEffect (s : State) : State :=
  match s.fdr.step with
  | .running since interval _ => (s.reachTick (since + interval)).shedStep
  | .stopped => s

def execStepTimingFullMark (s : State) : Host.Outcome State Fault Refusal := whenReleased s stepFullMarkEffect

/-- R127, R128. -/
def restoreHoldEffect (s : State) : State :=
  match s.fdr.cursor with
  | .hold t => (s.reachTick t).restorationChoice.syncFeeders
  | .idle => s
  | .restoring _ => s
  | .stagger _ => s
  | .ready => s

def execRestoreHoldExpiry (s : State) : Host.Outcome State Fault Refusal := whenReleased s restoreHoldEffect

/-- R128, R129. -/
def staggerEffect (s : State) : State :=
  match s.fdr.cursor with
  | .stagger t => (s.reachTick t).restorationChoice.syncFeeders
  | .idle => s
  | .restoring _ => s
  | .hold _ => s
  | .ready => s

def execStaggerExpiry (s : State) : Host.Outcome State Fault Refusal := whenReleased s staggerEffect

/-- R110, R111: FBk changes. The level is the pin's own, kept through a reset; a DROPPED fault is found as R111 gives. -/
def feederFeedbackEffect (k : Fin 12) (closed : Bool) (s : State) : State :=
  let dropped :=
    s.pins.fb[k] && !closed && (s.feeder k).state = .on && s.feederDriven k && (s.feeder k).follow.isComplete
  let s1 : State := { s with pins := { s.pins with fb := s.pins.fb.set k closed } }
  if s.held then s1 else if dropped then s1.faultFeeder k .dropped else s1.syncFeeders

def execFeederFeedbackChange (k : Fin 12) (closed : Bool) (s : State) : Host.Outcome State Fault Refusal :=
  .next (feederFeedbackEffect k closed s)

/-- R111, the follow timing's expiry. -/
def followTimingEffect (k : Fin 12) (s : State) : State :=
  let f := s.feeder k
  match f.follow with
  | .running since =>
    let s1 := s.reachTick (since + Config.contactorTicks)
    if f.state = .on ∧ s.pins.fb[k] = false then s1.faultFeeder k .mismatch
    else s1.setFeeder k { f with follow := .complete since }
  | .stopped => s
  | .complete _ => s

def execFollowTimingExpiry (k : Fin 12) (s : State) : Host.Outcome State Fault Refusal :=
  whenReleased s (followTimingEffect k)

/-- R111, the stuck timing's expiry, in any state but FAULT. A feeder still ON, whose carry enable has gone off before its own
report, is WELDED too, with an end request for its claim, although R105 and R112 have no such row (DESIGN CHOICE, log 39). -/
def stuckTimingEffect (k : Fin 12) (s : State) : State :=
  match (s.feeder k).stuck, (s.feeder k).state with
  | .running _, .fault _ => s
  | .running since, _ => (s.reachTick (since + Config.contactorTicks)).faultFeeder k .welded
  | .stopped, _ => s
  | .complete _, _ => s

def execStuckTimingExpiry (k : Fin 12) (s : State) : Host.Outcome State Fault Refusal :=
  whenReleased s (stuckTimingEffect k)

end Sys2Proof.Machine
end

