-- ==== Sys2Proof/Machine/Saw.lean ====
section
/-! DEFINITION. The Saw Sequencer (08): saw orders, the star-delta start, feed, holds, stop and faults, and the reports, shed
requests and link loss that reach it. -/

namespace Sys2Proof.Machine

/-! ### Shared operations -/

/-- A timing that belongs to some states only runs on while the saw is in one of them. -/
def keptIn (keep : Bool) (t : Option Nat) : Option Nat := if keep then t else none

/-- The states with an overload hold (R143). -/
def SawState.inOverloadHold : SawState → Bool
  | .feedHold .overload _ => true
  | .feedHold .manual _ => false
  | .feedHold .shed _ => false
  | .stopped => false
  | .startWait => false
  | .star => false
  | .changeover => false
  | .run => false
  | .feedWait _ => false
  | .feeding => false
  | .returning => false
  | .stopping => false
  | .fault _ => false

/-- The saw enters a state with its commands: the timings and the stall run of the states it leaves stop (R138, R139, R143,
R145). SAW is not added here. -/
def State.moveSaw (s : State) (st : SawState) (cmd : SawCommands) : State :=
  { s with saw :=
    { s.saw with
      state := st
      commands := cmd
      starTime := keptIn (st = .star) s.saw.starTime
      deadTime := keptIn (st = .changeover) s.saw.deadTime
      overload := keptIn (st = .feeding) s.saw.overload
      resume := keptIn st.inOverloadHold s.saw.resume
      stallRun := if st.stallWatched then s.saw.stallRun else 0 } }

/-- The saw enters a state, not at the taking of an order from L2: SAW is added to L2's set (R136). -/
def State.moveSawNotified (s : State) (st : SawState) (cmd : SawCommands) : State :=
  (s.moveSaw st cmd).addNotice .l2 .saw

/-- LINE and DELTA on: the commands of RUN, FEED_WAIT and FEED_HOLD (R136). -/
abbrev SawCommands.running : SawCommands :=
  { line := true, star := false, delta := true, feedFwd := false, feedRet := false }

/-- The feed state and commands of a direction (R141, R142). -/
def feedState : Direction → SawState
  | .forward => .feeding
  | .back => .returning

def feedCommands : Direction → SawCommands
  | .forward => { line := true, star := false, delta := true, feedFwd := true, feedRet := false }
  | .back => { line := true, star := false, delta := true, feedFwd := false, feedRet := true }

/-- An end request for one of the saw's claims, if the claim is not FREE (R144, R146). -/
def State.endUnlessFree (s : State) (n : Fin 24) (o : Ending) : State :=
  if (s.claim n).state = .free then s else s.send (.endRequest n o)

/-- R144: where a saw that must come to rest goes: STOPPING, or straight to STOPPED with blade quiet already yes. -/
def State.restState (s : State) : SawState := if s.saw.bladeQuiet then .stopped else .stopping

/-- R146: entry to FAULT. The disagreement timings stop with it. -/
def State.faultSaw (s : State) (kind : SawFault) : State :=
  let s1 := (s.endUnlessFree 4 .fault).endUnlessFree 5 .fault
  (s1.moveSawNotified (.fault kind) .allOff).syncSaw

/-- R144: the end requests of the stop sequence. -/
def State.stopRequests (s : State) (o : Ending) : State :=
  if s.saw.state = .startWait then s.send (.endRequest 4 o)
  else (s.send (.endRequest 4 o)).endUnlessFree 5 o

/-- R144: where the stop sequence leads. -/
def State.stopTarget (s : State) : SawState := if s.saw.state = .startWait then .stopped else s.restState

/-- R144, R148: the stop sequence with an outcome, not at an order of L2. -/
def State.stopSequence (s : State) (o : Ending) : State :=
  ((s.stopRequests o).moveSawNotified s.stopTarget .allOff).syncSaw

/-- R139: entry to CHANGEOVER: STAR off, the dead-time timing started. -/
def State.enterChangeover (s : State) : State :=
  let s1 := s.moveSawNotified .changeover { line := true, star := false, delta := false, feedFwd := false, feedRet := false }
  State.syncSaw
    { s1 with saw := { s1.saw with deadTime := some (s1.clock + s1.set.tables.saw.start.deadTime) } }

/-- R139: DELTA closes, the surge end request is sent and the saw enters RUN. -/
def State.closeDelta (s : State) : State :=
  ((s.send .surgeEndRequest).moveSawNotified .run .running).syncSaw

/-- The limit input of a direction (R140, R141). -/
def State.limitActive (s : State) : Direction → Bool
  | .forward => s.pins.fwdEnd
  | .back => s.pins.retEnd

/-- R145, LIMIT: both limits reading active is a fault, in every state except FAULT. -/
def State.judgeLimits (s : State) : State :=
  if s.pins.fwdEnd && s.pins.retEnd && !s.saw.state.isFault then s.faultSaw .limit else s

/-- R143: the overload and resume timings are judged by a posting of Ps. -/
def State.judgeOverload (s : State) : State :=
  let t := s.set.tables.saw
  match s.saw.state with
  | .feeding =>
    let o :=
      if overloadLimit t < s.meas.ps then
        some (s.saw.overload.getD (s.clock + Config.tenths t.feed.overloadTime))
      else none
    { s with saw := { s.saw with overload := o } }
  | .feedHold .overload _ =>
    let r :=
      if s.meas.ps < resumeLimit t then some (s.saw.resume.getD (s.clock + Config.tenths t.feed.resumeTime)) else none
    { s with saw := { s.saw with resume := r } }
  | .stopped | .startWait | .star | .changeover | .run | .feedWait _ | .returning | .feedHold .manual _
  | .feedHold .shed _ | .stopping | .fault _ => s

/-- R141: an end limit ends the feed of its direction; claim 5 is released. -/
def State.endFeedAt (s : State) (d : Direction) : State :=
  let ends : Bool :=
    match s.saw.state with
    | .feeding => d = .forward
    | .returning => d = .back
    | .feedHold .overload e => d = e
    | .feedHold .manual e => d = e
    | .feedHold .shed _ => false
    | .stopped | .startWait | .star | .changeover | .run | .feedWait _ | .stopping | .fault _ => false
  if ends then (s.send (.endRequest 5 .released)).moveSawNotified .run .running else s

/-! ### Orders (R137, R140, R142, R144, R146, R151) -/

/-- R137. -/
def State.sawStart (s : State) : State × Status :=
  if s.saw.state ≠ .stopped then (s, .busy)
  else if !s.saw.bladeQuiet then (s, .busy)
  else
    let t := s.set.tables.saw.start
    match s.claimRequestStatus 4 t.startSurge (some t.runAmount) with
    | .ok =>
      ((s.acceptClaim 4 t.startSurge (some t.runAmount) none t.startLead none .saw 0).moveSaw .startWait .allOff, .ok)
    | st => (s, st)

/-- R144. -/
def State.sawStop (s : State) : State × Status :=
  if s.saw.state = .startWait then
    (((s.stopRequests .withdrawn).moveSaw s.stopTarget .allOff).syncSaw, .ok)
  else if s.saw.state.motorOn then
    (((s.stopRequests .released).moveSaw s.stopTarget .allOff).syncSaw, .ok)
  else (s, .wrongState)

/-- R140. -/
def State.sawFeed (s : State) (d : Direction) : State × Status :=
  let ready : Bool :=
    match s.saw.state with
    | .run => true
    | .feedHold .shed _ => true
    | .feedHold .overload _ => false
    | .feedHold .manual _ => false
    | .stopped | .startWait | .star | .changeover | .feedWait _ | .feeding | .returning | .stopping | .fault _ => false
  if !ready then (s, .wrongState)
  else if s.limitActive d then (s, .wrongState)
  else
    let t := s.set.tables.saw.feed
    let amount :=
      match d with
      | .forward => t.feedAmount
      | .back => t.returnAmount
    let tag :=
      match d with
      | .forward => 1
      | .back => 2
    match s.claimRequestStatus 5 amount none with
    | .ok =>
      ((s.acceptClaim 5 amount none none t.feedLead none .saw tag).moveSaw (.feedWait d) .running, .ok)
    | st => (s, st)

/-- R142. -/
def State.sawHold (s : State) : State × Status :=
  match s.saw.state with
  | .feeding => ((s.moveSaw (.feedHold .manual .forward) .running).syncSaw, .ok)
  | .returning => ((s.moveSaw (.feedHold .manual .back) .running).syncSaw, .ok)
  | .stopped | .startWait | .star | .changeover | .run | .feedWait _ | .feedHold _ _ | .stopping | .fault _ =>
    (s, .wrongState)

/-- R142. -/
def State.sawResume (s : State) : State × Status :=
  match s.saw.state with
  | .feedHold .manual d => ((s.moveSaw (feedState d) (feedCommands d)).syncSaw, .ok)
  | .feedHold .overload _ | .feedHold .shed _ | .stopped | .startWait | .star | .changeover | .run | .feedWait _
  | .feeding | .returning | .stopping | .fault _ => (s, .wrongState)

/-- R146. Where the limits fault the saw again at once, that entry to FAULT adds SAW as R146 gives for each entry, although
R136 adds none at the taking of an order (DESIGN CHOICE, log 33). -/
def State.sawClearFault (s : State) : State × Status :=
  if s.saw.state.isFault && !s.pins.estop && s.saw.bladeQuiet then
    ((s.moveSaw .stopped .allOff).syncSaw.judgeLimits, .ok)
  else (s, .wrongState)

/-- R137: a saw order is taken from L2 alone. -/
def sawOrder (l : Link) (code : Byte) (f : State → State × Status) (s : State) : State :=
  if l ≠ .l2 then s.answer l code .notYourField else (f s).1.answer l code (f s).2

/-- R151: the saw's picture as read. -/
def State.sawRecord (s : State) : List Byte :=
  let st := s.saw.state
  let c := s.saw.commands
  u8 (sawStateCode st) ++ u8 (holdReasonCode st) ++ u8 (directionCode st.direction) ++ u8 (sawFaultCode st)
    ++ u8 s.saw.speed ++ flag s.saw.bladeQuiet
    ++ flag c.line ++ flag s.lineDriven ++ flag c.star ++ flag s.starDriven ++ flag c.delta ++ flag s.deltaDriven
    ++ flag c.feedFwd ++ flag s.fwdDriven ++ flag c.feedRet ++ flag s.retDriven
    ++ flag s.pins.lineFb ++ flag s.pins.starFb ++ flag s.pins.deltaFb ++ flag s.pins.fwdEnd ++ flag s.pins.retEnd
    ++ flag s.pins.estop

/-! ### Meanings of the orders -/

def execSawStart (l : Link) (s : State) : Host.Outcome State Fault Refusal :=
  whenReleased (s.arrive (.sawStart l)) (sawOrder l Code.sawStart State.sawStart)

def execSawStop (l : Link) (s : State) : Host.Outcome State Fault Refusal :=
  whenReleased (s.arrive (.sawStop l)) (sawOrder l Code.sawStop State.sawStop)

def execSawFeed (l : Link) (s : State) : Host.Outcome State Fault Refusal :=
  whenReleased (s.arrive (.sawFeed l)) (sawOrder l Code.sawFeed fun t => t.sawFeed .forward)

def execSawReturn (l : Link) (s : State) : Host.Outcome State Fault Refusal :=
  whenReleased (s.arrive (.sawReturn l)) (sawOrder l Code.sawReturn fun t => t.sawFeed .back)

def execSawHold (l : Link) (s : State) : Host.Outcome State Fault Refusal :=
  whenReleased (s.arrive (.sawHold l)) (sawOrder l Code.sawHold State.sawHold)

def execSawResume (l : Link) (s : State) : Host.Outcome State Fault Refusal :=
  whenReleased (s.arrive (.sawResume l)) (sawOrder l Code.sawResume State.sawResume)

def execSawClearFault (l : Link) (s : State) : Host.Outcome State Fault Refusal :=
  whenReleased (s.arrive (.sawClearFault l)) (sawOrder l Code.sawClearFault State.sawClearFault)

/-- R151. -/
def execReadSaw (l : Link) (s : State) : Host.Outcome State Fault Refusal :=
  whenReleased (s.arrive (.readSaw l)) fun t => t.reply l Code.readSaw .ok t.sawRecord

/-! ### Reports, shed requests and link loss (R147, R148) -/

/-- R147: an admission report has no effect on the saw. -/
def execSawAdmissionReport (c : SawClaim) (s : State) : Host.Outcome State Fault Refusal :=
  whenReleased (s.arrive (.sawAdmissionReport c)) fun t => t

/-- R138, R141, R147: the carried reports, by the saw's state on arrival. One of an earlier claim that is still on its way is
taken so too, as if it were of the new claim (DESIGN CHOICE, log 40). -/
def sawCarriedEffect (c : SawClaim) (s : State) : State :=
  match c, s.saw.state with
  | .motor, .startWait =>
    let s1 := s.moveSawNotified .star { line := true, star := true, delta := false, feedFwd := false, feedRet := false }
    State.syncSaw
      { s1 with saw :=
        { s1.saw with starTime := some (s1.clock + Config.tenths s1.set.tables.saw.start.starTimeMax) } }
  | .carriage, .feedWait d =>
    if s.limitActive d then ((s.send (.endRequest 5 .released)).moveSawNotified .run .running).syncSaw
    else (s.moveSawNotified (feedState d) (feedCommands d)).syncSaw
  | _, _ => s

def execSawCarriedReport (c : SawClaim) (s : State) : Host.Outcome State Fault Refusal :=
  whenReleased (s.arrive (.sawCarriedReport c)) (sawCarriedEffect c)

/-- The saw lets everything go without an end request: at a cancelled motor claim or entry to BLACK (R147). -/
def State.sawLetGo (s : State) : State := (s.moveSawNotified s.restState .allOff).syncSaw

/-- R147: the ending reports, by the saw's state on arrival; one of an earlier claim too (DESIGN CHOICE, log 40). -/
def sawEndingEffect (c : SawClaim) (o : Ending) (s : State) : State :=
  match c with
  | .motor =>
    if s.saw.state = .startWait ∧ (o = .expired ∨ o = .cancelled) then (s.moveSawNotified .stopped .allOff).syncSaw
    else if s.saw.state.motorOn = true ∧ o = .cancelled then s.sawLetGo
    else s
  | .carriage =>
    match s.saw.state with
    | .feedWait _ =>
      if o = .expired ∨ o = .cancelled then (s.moveSawNotified .run .running).syncSaw else s
    | .feeding | .returning | .feedHold .overload _ | .feedHold .manual _ =>
      if o = .cancelled then (s.moveSawNotified .run .running).syncSaw else s
    | .feedHold .shed _ | .stopped | .startWait | .star | .changeover | .run | .stopping | .fault _ => s

def execSawEndingReport (c : SawClaim) (o : Ending) (s : State) : Host.Outcome State Fault Refusal :=
  whenReleased (s.arrive (.sawEndingReport c o)) (sawEndingEffect c o)

/-- R147: the report of a station change at the Saw Sequencer; only entry to BLACK acts. -/
def sawStateReportEffect (r : StateReport) (s : State) : State :=
  if r.entered = .black then
    if s.saw.state = .startWait then (s.moveSawNotified .stopped .allOff).syncSaw
    else if s.saw.state.motorOn then s.sawLetGo
    else s
  else s

def execSawStateReport (r : StateReport) (s : State) : Host.Outcome State Fault Refusal :=
  whenReleased (s.arrive (.sawStateReport r)) (sawStateReportEffect r)

/-- R123, R148: a shed request. -/
def shedRequestEffect (t : SawTarget) (s : State) : State :=
  match t with
  | .feedHold =>
    match s.saw.state with
    | .feedWait _ => ((s.send (.endRequest 5 .shed)).moveSawNotified .run .running).syncSaw
    | .feeding => ((s.send (.endRequest 5 .shed)).moveSawNotified (.feedHold .shed .forward) .running).syncSaw
    | .returning => ((s.send (.endRequest 5 .shed)).moveSawNotified (.feedHold .shed .back) .running).syncSaw
    | .feedHold .overload d => ((s.send (.endRequest 5 .shed)).moveSawNotified (.feedHold .shed d) .running).syncSaw
    | .feedHold .manual d => ((s.send (.endRequest 5 .shed)).moveSawNotified (.feedHold .shed d) .running).syncSaw
    | .feedHold .shed _ | .stopped | .startWait | .star | .changeover | .run | .stopping | .fault _ => s
  | .stop => if s.saw.state = .startWait || s.saw.state.motorOn then s.stopSequence .shed else s

def execShedRequest (t : SawTarget) (s : State) : Host.Outcome State Fault Refusal :=
  whenReleased (s.arrive (.shedRequest t)) (shedRequestEffect t)

/-- R148: the loss of a link; only L2's loss acts on the saw. -/
def linkLossSawEffect (l : Link) (s : State) : State :=
  if l = .l2 ∧ (s.saw.state = .startWait ∨ s.saw.state.motorOn = true) then s.stopSequence .linkLost else s

def execLinkLossReportSaw (l : Link) (s : State) : Host.Outcome State Fault Refusal :=
  whenReleased (s.arrive (.linkLossReportSaw l)) (linkLossSawEffect l)

/-! ### Blade (R135, R138, R145) -/

/-- R135: a rising edge on BLADE. -/
def bladePulseEffect (s : State) : State :=
  { s with saw :=
    { s.saw with
      pulses := s.saw.pulses + 1
      bladeQuiet := false
      quietDeadline := s.clock + Config.bladeQuietTicks } }

def execBladePulse (s : State) : Host.Outcome State Fault Refusal := whenReleased s bladePulseEffect

/-- R135: the blade speed of a count of pulses. -/
def bladeSpeed (pulses rated : Nat) : Nat := min (pulses * 400 / rated) Config.bladeSpeedCap

/-- R135, R138, R145: a window end. -/
def bladeWindowEffect (s : State) : State :=
  let t := s.set.tables.saw.start
  let s1 := s.reachTick s.saw.windowEnd
  let speed := bladeSpeed s.saw.pulses t.ratedPulseRate
  let s2 : State :=
    { s1 with saw :=
      { s1.saw with speed := speed, pulses := 0, windowEnd := s.saw.windowEnd + Config.bladeWindowTicks } }
  if s2.saw.state = .star ∧ t.changeoverSpeed ≤ speed then s2.enterChangeover
  else if s2.saw.state.stallWatched then
    let run := if speed < t.stallLevel then s2.saw.stallRun + 1 else 0
    if Config.stallWindows ≤ run then s2.faultSaw .stall else { s2 with saw := { s2.saw with stallRun := run } }
  else s2

def execBladeWindowEnd (s : State) : Host.Outcome State Fault Refusal := whenReleased s bladeWindowEffect

/-- R135, R144: the quiet timing's expiry. -/
def bladeQuietEffect (s : State) : State :=
  if s.saw.bladeQuiet then s
  else
    let s1 := s.reachTick s.saw.quietDeadline
    let s2 : State := { s1 with saw := { s1.saw with bladeQuiet := true } }
    if s2.saw.state = .stopping then s2.moveSawNotified .stopped .allOff else s2

def execBladeQuietExpiry (s : State) : Host.Outcome State Fault Refusal := whenReleased s bladeQuietEffect

/-! ### Timings and feedback (R138, R139, R141, R143, R145) -/

/-- R138. A window end at the changeover speed that has come by the expiry ends in CHANGEOVER too, though the expiry is taken
before it (DEDUCED, log 35). -/
def starTimeEffect (s : State) : State :=
  match s.saw.starTime with
  | none => s
  | some t =>
    let s1 := s.reachTick t
    let start := s.set.tables.saw.start
    let windowToo : Bool :=
      s.saw.windowEnd ≤ s1.clock && start.changeoverSpeed ≤ bladeSpeed s.saw.pulses start.ratedPulseRate
    if start.startStallLevel ≤ s.saw.speed || windowToo then s1.enterChangeover else s1.faultSaw .startStall

def execStarTimeExpiry (s : State) : Host.Outcome State Fault Refusal := whenReleased s starTimeEffect

/-- R139: the dead time has run; DELTA closes if STAR_FB reads open. -/
def deadTimeEffect (s : State) : State :=
  match s.saw.deadTime with
  | none => s
  | some t =>
    let s1 := s.reachTick t
    let s2 : State := { s1 with saw := { s1.saw with deadTime := none } }
    if s.pins.starFb then s2 else s2.closeDelta

def execDeadTimeExpiry (s : State) : Host.Outcome State Fault Refusal := whenReleased s deadTimeEffect

def Pins.setFb (p : Pins) (c : MotorContactor) (closed : Bool) : Pins :=
  match c with
  | .line => { p with lineFb := closed }
  | .star => { p with starFb := closed }
  | .delta => { p with deltaFb := closed }

/-- R139, R145: a motor contactor's feedback changes. The level is the pin's own, kept through a reset. -/
def sawFeedbackEffect (c : MotorContactor) (closed : Bool) (s : State) : State :=
  let s1 : State := { s with pins := s.pins.setFb c closed }
  if s.held then s1
  else if s1.saw.state = .changeover ∧ s1.saw.deadTime = none ∧ c = .star ∧ closed = false then s1.closeDelta
  else s1.syncSaw

def execSawFeedbackChange (c : MotorContactor) (closed : Bool) (s : State) : Host.Outcome State Fault Refusal :=
  .next (sawFeedbackEffect c closed s)

def SawUnit.disagree (u : SawUnit) : MotorContactor → Option Nat
  | .line => u.lineDisagree
  | .star => u.starDisagree
  | .delta => u.deltaDisagree

/-- R145. -/
def disagreementEffect (c : MotorContactor) (s : State) : State :=
  match s.saw.disagree c with
  | none => s
  | some since =>
    if s.saw.state.isFault then s else (s.reachTick (since + Config.contactorTicks)).faultSaw .contactor

def execDisagreementTimingExpiry (c : MotorContactor) (s : State) : Host.Outcome State Fault Refusal :=
  whenReleased s (disagreementEffect c)

def Pins.setLimit (p : Pins) (w : LimitSwitch) (active : Bool) : Pins :=
  match w with
  | .fwdEnd => { p with fwdEnd := active }
  | .retEnd => { p with retEnd := active }

/-- The direction whose end a limit switch marks (R140). -/
def limitDirection : LimitSwitch → Direction
  | .fwdEnd => .forward
  | .retEnd => .back

/-- R141, R145: a limit changes; both active is judged first (log 15). The level is the pin's own, kept through a reset. -/
def limitChangeEffect (w : LimitSwitch) (active : Bool) (s : State) : State :=
  let s1 : State := { s with pins := s.pins.setLimit w active }
  if s.held then s1
  else if s1.pins.fwdEnd && s1.pins.retEnd then s1.judgeLimits
  else if active then (s1.endFeedAt (limitDirection w)).syncSaw
  else s1

def execLimitChange (w : LimitSwitch) (active : Bool) (s : State) : Host.Outcome State Fault Refusal :=
  .next (limitChangeEffect w active s)

/-- R145: ESTOP becoming active is a fault, in every state except FAULT. -/
def estopEffect (active : Bool) (s : State) : State :=
  let s1 : State := { s with pins := { s.pins with estop := active } }
  if s.held then s1 else if active && !s1.saw.state.isFault then s1.faultSaw .estop else s1

def execEstopChange (active : Bool) (s : State) : Host.Outcome State Fault Refusal := .next (estopEffect active s)

/-- R143. -/
def overloadTimingEffect (s : State) : State :=
  match s.saw.overload with
  | none => s
  | some t => ((s.reachTick t).moveSawNotified (.feedHold .overload .forward) .running).syncSaw

def execOverloadTimingExpiry (s : State) : Host.Outcome State Fault Refusal := whenReleased s overloadTimingEffect

/-- R143. -/
def resumeTimingEffect (s : State) : State :=
  match s.saw.resume with
  | none => s
  | some t => ((s.reachTick t).moveSawNotified .feeding (feedCommands .forward)).syncSaw

def execResumeTimingExpiry (s : State) : Host.Outcome State Fault Refusal := whenReleased s resumeTimingEffect

end Sys2Proof.Machine
end

