-- ==== Sys2Proof/Machine/Measurement.lean ====
section
/-! DEFINITION. The Measurement Unit (09): the posted powers, the ballast discrepancy flag and the snapshots. -/

namespace Sys2Proof.Machine

/-! ### Measured power (R152, R153) -/

/-- A figure in LU (R152): a sum over the cycle's samples of products of millivolts and milliamperes, divided by their
count for the mean, by 1,000,000 for watts and by 10 for LU, truncated toward zero and held within 0 to 9,999. -/
def figureLu (total : Int) (count : Nat) : Nat :=
  min (Int.tdiv total (count * 10000000)).toNat Config.maxPower

/-- The sum over the samples of a product. -/
def sampleSum (f : Sample → Int) (first : Sample) (rest : List Sample) : Int :=
  rest.foldl (fun t x => t + f x) (f first)

/-- Pg, the generator power of a cycle (R152). -/
def generatorFigure (first : Sample) (rest : List Sample) : Nat :=
  figureLu (sampleSum (fun x => x.va * x.ia + x.vb * x.ib + x.vc * x.ic) first rest) (rest.length + 1)

/-- Ps, the saw power of a cycle (R152). -/
def sawFigure (first : Sample) (rest : List Sample) : Nat :=
  figureLu (3 * sampleSum (fun x => x.va * x.isaw) first rest) (rest.length + 1)

/-- Pb, the ballast power of a cycle (R152). -/
def ballastFigure (first : Sample) (rest : List Sample) : Nat :=
  figureLu (3 * sampleSum (fun x => x.va * x.ibal) first rest) (rest.length + 1)

/-! ### The ballast discrepancy flag (R154) -/

/-- The difference between Pb and Bc, without sign. -/
def State.discrepancy (s : State) : Nat := (s.meas.pb - s.bc) + (s.bc - s.meas.pb)

/-- More than 25 % of the capacity. -/
def State.diverges (s : State) : Bool := s.capacity < 4 * s.discrepancy

/-- Less than 10 % of the capacity; with a capacity of 0, Pb is 0. -/
def State.agrees (s : State) : Bool := if s.capacity = 0 then s.meas.pb = 0 else 10 * s.discrepancy < s.capacity

/-- R154: judged at each posting, but not in BLACK as last reported. -/
def State.judgeDiscrepancy (s : State) : State :=
  if s.meas.lastReport.state = .black then s
  else
    { s with meas :=
      { s.meas with
        divergence := s.meas.divergence.judge s.diverges s.clock
        agreement := s.meas.agreement.judge s.agrees s.clock } }

/-! ### Snapshots (R155 to R158) -/

/-- A record made from a capture (R157): the means, and the committed sums, station state and VOID given. -/
def State.snapshotOf (s : State) (c : Capture) (h w sup : Nat) (st : StationState) (void : Bool) : Snapshot :=
  { filtered := c.filtered / c.count, pg := c.pg / c.count, pb := c.pb / c.count, ps := c.ps / c.count, d := s.alw.d,
    bands := s.alw.bands, h := h, w := w, s := sup, station := st, void := void, ready := true }

/-- A capture ends: the record is kept, SNAPSHOT is added and the capture becomes idle (R157). -/
def State.endCapture (s : State) (l : Link) (r : Snapshot) : State :=
  State.addNotice
    { s with meas := { s.meas with snapshots := s.meas.snapshots.put l r, captures := s.meas.captures.put l none } } l
    .snapshot

/-- R157: a posting at one link's capture. -/
def State.capturePosting (s : State) (l : Link) : State :=
  match s.meas.captures.get l with
  | none => s
  | some c =>
    let c1 : Capture :=
      { count := c.count + 1, filtered := c.filtered + s.filtered.getD 0, pg := c.pg + s.meas.pg, pb := c.pb + s.meas.pb,
        ps := c.ps + s.meas.ps }
    if Config.snapshotPostings ≤ c1.count then
      s.endCapture l (s.snapshotOf c1 s.hSum s.wSum s.sSum s.meas.lastReport.state false)
    else { s with meas := { s.meas with captures := s.meas.captures.put l (some c1) } }

/-- R157: a running capture is voided at entry to BLACK. -/
def State.voidCapture (s : State) (l : Link) : State :=
  match s.meas.captures.get l with
  | none => s
  | some c => s.endCapture l (s.snapshotOf c 0 0 0 .black true)

/-- R153: a posting, handed to the Saw Sequencer, the captures and the discrepancy flag. -/
def State.post (s : State) (pg ps pb : Nat) : State :=
  let s1 : State := { s with meas := { s.meas with pg := pg, ps := ps, pb := pb } }
  ((((s1.judgeOverload).capturePosting .l1).capturePosting .l2).capturePosting .l3).judgeDiscrepancy

/-! ### Meanings -/

/-- R153, R154, R157: the report of a station change at the Measurement Unit. -/
def measurementReportEffect (r : StateReport) (s : State) : State :=
  let s1 : State := { s with meas := { s.meas with lastReport := { state := r.entered, reasons := r.reasons } } }
  if r.entered = .black then
    let s2 : State :=
      { s1 with meas := { s1.meas with pg := 0, ps := 0, pb := 0, divergence := .stopped, agreement := .stopped } }
    ((s2.voidCapture .l1).voidCapture .l2).voidCapture .l3
  else s1

def execMeasurementStateReport (r : StateReport) (s : State) : Host.Outcome State Fault Refusal :=
  whenReleased (s.arrive (.measurementStateReport r)) (measurementReportEffect r)

/-- R154: the divergence timing's expiry sets a clear flag and stops the agreement timing. -/
def divergenceEffect (s : State) : State :=
  match s.meas.divergence with
  | .running since =>
    let s1 := s.reachTick (since + Config.discrepancyTicks)
    { s1 with meas :=
      { s1.meas with
        divergence := .complete since
        discrepancy := true
        agreement := if s1.meas.discrepancy then s1.meas.agreement else .stopped } }
  | .stopped => s
  | .complete _ => s

def execDivergenceTimingExpiry (s : State) : Host.Outcome State Fault Refusal := whenReleased s divergenceEffect

/-- R154: the agreement timing's expiry clears the flag. -/
def agreementEffect (s : State) : State :=
  match s.meas.agreement with
  | .running since =>
    let s1 := s.reachTick (since + Config.discrepancyTicks)
    { s1 with meas := { s1.meas with agreement := .complete since, discrepancy := false } }
  | .stopped => s
  | .complete _ => s

def execAgreementTimingExpiry (s : State) : Host.Outcome State Fault Refusal := whenReleased s agreementEffect

/-- R156. -/
def takeSnapshotEffect (l : Link) (s : State) : State :=
  if (s.meas.captures.get l).isSome then s.answer l Code.takeSnapshot .busy
  else if s.meas.lastReport.state = .black then s.answer l Code.takeSnapshot .stationBlack
  else
    let s1 : State :=
      { s with meas :=
        { s.meas with
          snapshots := s.meas.snapshots.put l { s.meas.snapshots.get l with ready := false }
          captures := s.meas.captures.put l (some { count := 0, filtered := 0, pg := 0, pb := 0, ps := 0 }) } }
    s1.answer l Code.takeSnapshot .ok

def execTakeSnapshot (l : Link) (s : State) : Host.Outcome State Fault Refusal :=
  whenReleased (s.arrive (.takeSnapshot l)) (takeSnapshotEffect l)

/-- The snapshot record as read (11). -/
def snapshotBytes (r : Snapshot) : List Byte :=
  u16 r.filtered ++ u16 r.pg ++ u16 r.pb ++ u16 r.ps ++ u16 r.d ++ u16 r.bands.h ++ u16 r.bands.w ++ u16 r.bands.c
    ++ u16 r.h ++ u16 r.w ++ u16 r.s ++ u8 (stationCode r.station) ++ flag r.void

/-- R158. -/
def readSnapshotEffect (l : Link) (s : State) : State :=
  let r := s.meas.snapshots.get l
  if r.ready then
    State.reply { s with meas := { s.meas with snapshots := s.meas.snapshots.put l { r with ready := false } } } l
      Code.readSnapshot .ok (snapshotBytes r)
  else s.answer l Code.readSnapshot .wrongState

def execReadSnapshot (l : Link) (s : State) : Host.Outcome State Fault Refusal :=
  whenReleased (s.arrive (.readSnapshot l)) (readSnapshotEffect l)

end Sys2Proof.Machine
end

