-- ==== Sys2Proof/Machine/Regulator.lean ====
section
/-! DEFINITION. The Frequency Regulator (01, 02): the cycle, the half-cycle, the timings, the BUDGET requests, the feed-forward
steps, the Lead Line report and ACK TRIP. CYCLE_COMPLETION hands the cycle on to the Measurement Unit, the Allowance Unit
and the Feeder Controller in the same step. -/

namespace Sys2Proof.Machine

/-! ### The cycle (R1, R2, R4) -/

/-- The mark of a rising crossing (R1, R2). -/
inductive CycleMark where
  | reference
  | valid (frequency : Nat)
  | discarded (frequency : Nat)
  deriving DecidableEq, Repr

/-- R1, R2: how a crossing is marked. -/
def cycleMark (lastCrossing : Option Nat) (interval : Nat) : CycleMark :=
  match lastCrossing with
  | none => .reference
  | some _ =>
    let f := cycleFrequency interval
    if Config.validLow ≤ f ∧ f ≤ Config.validHigh then .valid f else .discarded f

/-- R4: a valid cycle frequency joins the history; of nine the oldest is removed. -/
def joinFrequency (h : List Nat) (f : Nat) : List Nat :=
  let h' := h ++ [f]
  if Config.historyLimit < h'.length then h'.drop (h'.length - Config.historyLimit) else h'

/-- R1, R3: the moment of a crossing; it restarts the silence timing. -/
def State.takeCrossing (s : State) (interval : Nat) : State :=
  let s1 :=
    match s.reg.lastCrossing with
    | none => s
    | some t => s.reach (t + interval)
  { s1 with reg := { s1.reg with lastCrossing := some s1.now } }

/-- R23: outside BLACK a rising crossing begins a positive half-cycle, with the levels set before it (R22, log 9). -/
def State.beginPositive (s : State) : State := if s.reg.station = .black then s else s.fireStep

/-- R23: when the negative half-cycle after a crossing at this moment begins. -/
def State.scheduleMidpoint (s : State) : State :=
  { s with reg := { s.reg with midpoint := some (s.now + s.reg.lastPeriod.getD Config.nominalPeriodMicros / 2) } }

/-- R2, R4, R16: the runs, the history, the last valid period and the last-cycle clause after a crossing. -/
def State.countCycle (s : State) (m : CycleMark) (interval : Nat) : State :=
  match m with
  | .reference => { s with reg := { s.reg with overspeed := false } }
  | .valid f =>
    { s with reg :=
      { s.reg with
        discardRun := 0
        validRun := min (s.reg.validRun + 1) Config.validLimit
        history := joinFrequency s.reg.history f
        lastPeriod := some interval
        overspeed := false } }
  | .discarded f =>
    { s with reg :=
      { s.reg with discardRun := s.reg.discardRun + 1, validRun := 0, overspeed := Config.validHigh < f } }

/-- R27: the loop step of a valid cycle outside BLACK. -/
def State.loopStep (s : State) (f : Nat) : State :=
  if s.reg.station = .black then s
  else
    let gain : Int := s.set.tables.channels.loopGain
    s.setDemand ((s.reg.bd : Int) + Int.tdiv (gain * ((f : Int) - (Config.nominalFrequency : Int))) 10)

/-! ### The timings at a test and at their expiry (R5, R6, R9 to R13, R16) -/

/-- A timing that runs becomes complete at the expiry, which takes place at its moment. -/
def State.expireAt (s : State) (since delay : Nat) : State := s.reachTick (since + delay)

/-- R9. -/
def State.expireWarmBand (s : State) : State :=
  match s.reg.warmBand.start? with
  | none => s
  | some since =>
    let s1 := s.expireAt since (Config.seconds s.reg.inForce.warmUp)
    State.enterStation { s1 with reg := { s1.reg with warmBand := s1.reg.warmBand.expire } } .regulating .empty

/-- R10, the shed timing. -/
def State.expireShed (s : State) : State :=
  match s.reg.shed.start? with
  | none => s
  | some since =>
    let s1 := s.expireAt since (Config.tenths s.reg.inForce.shedDelay)
    State.raiseFrequency { s1 with reg := { s1.reg with shed := s1.reg.shed.expire } }

/-- R10, the fast timing. -/
def State.expireFast (s : State) : State :=
  match s.reg.fast.start? with
  | none => s
  | some since =>
    let s1 := s.expireAt since (Config.tenths s.reg.inForce.fastDelay)
    State.raiseFrequency { s1 with reg := { s1.reg with fast := s1.reg.fast.expire } }

/-- R12, the recovery timing. -/
def State.expireRecovery (s : State) : State :=
  match s.reg.recovery.start? with
  | none => s
  | some since =>
    let s1 := s.expireAt since (Config.tenths s.reg.inForce.recoveryTime)
    State.leaveDeficit { s1 with reg := { s1.reg with recovery := s1.reg.recovery.expire } }

/-- R13, the runaway timing. -/
def State.expireRunaway (s : State) : State :=
  match s.reg.runaway.start? with
  | none => s
  | some since =>
    let s1 := s.expireAt since (Config.tenths s.reg.inForce.runawayDelay)
    State.enterStation { s1 with reg := { s1.reg with runaway := s1.reg.runaway.expire } } .runaway .empty

/-- R16, the trip timing. -/
def State.expireTrip (s : State) : State :=
  match s.reg.trip.start? with
  | none => s
  | some since =>
    let s1 := s.expireAt since (Config.tenths s.reg.inForce.tripDelay)
    State.setTrip { s1 with reg := { s1.reg with trip := s1.reg.trip.expire } }

/-- Whether a running timing has reached a delay. -/
def Timing.reached (t : Timing) (delay clock : Nat) : Bool :=
  match t with
  | .running since => since + delay ≤ clock
  | .stopped => false
  | .complete _ => false

/-- R6: at the first valid cycle after a THRESHOLDS commit, a timing whose start already lies the new delay back expires. -/
def State.expireReached (s : State) : State :=
  let when? (b : Bool) (f : State → State) (t : State) : State := if b then f t else t
  let th := s.reg.inForce
  let s1 := when? (s.reg.trip.reached (Config.tenths th.tripDelay) s.clock) State.expireTrip s
  let s2 := when? (s1.reg.warmBand.reached (Config.seconds th.warmUp) s1.clock) State.expireWarmBand s1
  let s3 := when? (s2.reg.shed.reached (Config.tenths th.shedDelay) s2.clock) State.expireShed s2
  let s4 := when? (s3.reg.fast.reached (Config.tenths th.fastDelay) s3.clock) State.expireFast s3
  let s5 := when? (s4.reg.recovery.reached (Config.tenths th.recoveryTime) s4.clock) State.expireRecovery s4
  when? (s5.reg.runaway.reached (Config.tenths th.runawayDelay) s5.clock) State.expireRunaway s5

/-- R6: a valid cycle is the test at which the levels and delays in force are brought up to the THRESHOLDS table. It is
done before any condition is judged at that cycle. -/
def State.readThresholds (s : State) (m : CycleMark) : State :=
  match m with
  | .valid _ => { s with reg := { s.reg with inForce := s.set.tables.thresholds } }
  | .reference => s
  | .discarded _ => s

/-- R5, R6, R8, R14: the station state machine at a valid cycle: the timings are judged, the station leaves BLACK or
RUNAWAY where it must, and timings that a THRESHOLDS commit has overtaken expire. -/
def State.testTimings (s : State) (changed : Bool) : State :=
  let s1 := s.judgeTimings
  let s2 :=
    if s1.reg.station = .black ∧ s1.reg.validRun = Config.validLimit then s1.enterWarming
    else if s1.reg.station = .runaway ∧ s1.filteredIs (fun f => f < s1.reg.inForce.runawayExit) = true then
      s1.enterStation .regulating .empty
    else s1
  (if changed then s2.expireReached else s2).judgeQuiet

/-- The regulator's part of a cycle completion (R1 to R14, R18, R22 to R27, R35). -/
def State.regulatorCycle (s : State) (m : CycleMark) (interval : Nat) : State :=
  let s1 := (((s.readThresholds m).beginPositive).countCycle m interval).scheduleMidpoint
  let s2 := if s1.reg.station = .black then s1 else s1.takeRatings
  match m with
  | .reference => s2.judgeTimings
  | .discarded _ =>
    let s3 := s2.judgeTimings
    if Config.discardLimit ≤ s3.reg.discardRun then s3.waveformLoss else s3
  | .valid f => (s2.loopStep f).testTimings (s.reg.inForce ≠ s.set.tables.thresholds)

/-- R1: a rising crossing. After the regulator, a valid cycle is posted by the Measurement Unit (R153); the head of the
queue is considered, whatever the mark (R63); and a shed step may be due between the marks (R120). -/
def cycleCompletionEffect (interval : Nat) (first : Sample) (rest : List Sample) (s : State) : State :=
  let m := cycleMark s.reg.lastCrossing interval
  let s1 := (s.takeCrossing interval).regulatorCycle m interval
  match m with
  | .valid _ =>
    ((s1.post (generatorFigure first rest) (sawFigure first rest) (ballastFigure first rest)).consider).stepBetweenMarks
  | .reference => s1.consider
  | .discarded _ => s1.consider

def execCycleCompletion (interval : Nat) (first : Sample) (rest : List Sample) (s : State) :
    Host.Outcome State Fault Refusal :=
  whenReleased s (cycleCompletionEffect interval first rest)

/-- R23: the negative half-cycle begins. -/
def halfCycleEffect (s : State) : State :=
  match s.reg.midpoint with
  | none => s
  | some t =>
    let s1 := s.reach t
    let s2 : State := { s1 with reg := { s1.reg with midpoint := none } }
    if s2.reg.station = .black then s2 else s2.fireStep

def execHalfCycleMidpoint (s : State) : Host.Outcome State Fault Refusal := whenReleased s halfCycleEffect

/-- R3: the silence timing expires. -/
def silenceEffect (s : State) : State :=
  match s.reg.lastCrossing with
  | none => s
  | some t =>
    let s1 := s.reach (t + Config.silenceMicros)
    State.waveformLoss { s1 with reg := { s1.reg with lastCrossing := none } }

def execSilenceExpiry (s : State) : Host.Outcome State Fault Refusal := whenReleased s silenceEffect

/-! ### The timings' expiries -/

def execWarmBandExpiry (s : State) : Host.Outcome State Fault Refusal := whenReleased s State.expireWarmBand
def execShedTimingExpiry (s : State) : Host.Outcome State Fault Refusal := whenReleased s State.expireShed
def execFastTimingExpiry (s : State) : Host.Outcome State Fault Refusal := whenReleased s State.expireFast
def execRecoveryTimingExpiry (s : State) : Host.Outcome State Fault Refusal := whenReleased s State.expireRecovery
def execRunawayTimingExpiry (s : State) : Host.Outcome State Fault Refusal := whenReleased s State.expireRunaway
def execTripTimingExpiry (s : State) : Host.Outcome State Fault Refusal := whenReleased s State.expireTrip

/-! ### Requests and reports to the regulator -/

/-- R11: a BUDGET raise by the station state on its arrival. -/
def budgetRaiseEffect (s : State) : State :=
  match s.reg.station with
  | .regulating => s.enterStation .deficit { s.reg.reasons with budget := true }
  | .runaway => s.enterStation .deficit { s.reg.reasons with budget := true }
  | .deficit => { s with reg := { s.reg with reasons := { s.reg.reasons with budget := true } } }
  | .black => s
  | .warming => s

def execBudgetRaiseRequest (s : State) : Host.Outcome State Fault Refusal :=
  whenReleased (s.arrive .budgetRaiseRequest) budgetRaiseEffect

/-- R11, R12: a BUDGET clear by the station state on its arrival. -/
def budgetClearEffect (s : State) : State :=
  match s.reg.station with
  | .deficit => State.leaveDeficit { s with reg := { s.reg with reasons := { s.reg.reasons with budget := false } } }
  | .regulating => s
  | .runaway => s
  | .black => s
  | .warming => s

def execBudgetClearRequest (s : State) : Host.Outcome State Fault Refusal :=
  whenReleased (s.arrive .budgetClearRequest) budgetClearEffect

/-- R28: a down step; discarded in BLACK. -/
def downStepEffect (amount : Nat) (s : State) : State :=
  if s.reg.station = .black then s else s.setDemand ((s.reg.bd : Int) - (amount : Int))

def execDownStep (amount : Nat) (s : State) : Host.Outcome State Fault Refusal :=
  whenReleased (s.arrive (.downStep amount)) (downStepEffect amount)

/-- R29: an up step; discarded in BLACK. -/
def upStepEffect (amount : Nat) (s : State) : State :=
  if s.reg.station = .black then s else s.setDemand ((s.reg.bd : Int) + (amount : Int))

def execUpStep (amount : Nat) (s : State) : Host.Outcome State Fault Refusal :=
  whenReleased (s.arrive (.upStep amount)) (upStepEffect amount)

/-- R18, R75: a Lead Line report; QUIET is judged. -/
def leadLineReportEffect (r : LineReport) (s : State) : State :=
  let empty : Bool :=
    match r with
    | .firstMark => false
    | .empty => true
  State.judgeQuiet { s with reg := { s.reg with lineEmpty := empty } }

def execLeadLineReport (r : LineReport) (s : State) : Host.Outcome State Fault Refusal :=
  whenReleased (s.arrive (.leadLineReport r)) (leadLineReportEffect r)

/-- R17: ACK TRIP. A clearing restarts the trip timing if its condition holds. -/
def State.ackTrip (s : State) (l : Link) : State × Status :=
  if l ≠ .l1 then (s, .notYourField)
  else if s.reg.station = .runaway then (s, .wrongState)
  else if s.reg.tripLatch then
    ({ s with reg :=
        { s.reg with
          tripLatch := false
          trip := if s.tripCondition then .running s.clock else .stopped } }, .ok)
  else (s, .ok)

def execAckTrip (l : Link) (s : State) : Host.Outcome State Fault Refusal :=
  whenReleased (s.arrive (.ackTrip l)) fun t => (t.ackTrip l).1.answer l Code.ackTrip (t.ackTrip l).2

end Sys2Proof.Machine
end

