-- ==== Sys2Proof/Machine/Frames.lean ====
section
/-! DEFINITION. How the bytes of a selection window are taken (R159 to R161, R168, R169): SELECT rises, and the frame is
discarded or taken; a valid frame's order is taken in the same step, by the meaning its own row has. -/

namespace Sys2Proof.Machine

/-- R160: a discarded frame: it is counted and answered FRAME_ERROR with the first byte taken in. -/
def State.discardFrame (s : State) (l : Link) (first : Byte) : State :=
  (s.onLink l fun c =>
    { c with discarded := if c.discarded < Config.discardedFrameCap then c.discarded + 1 else c.discarded }).answer
    l first .frameError

/-- R167: the link as a valid frame finds it is kept for READ LINK. -/
def State.recordArrival (s : State) (l : Link) : State :=
  s.onLink l fun c => { c with atFrame := { lost := c.lost, window := c.window.map Window.range } }

/-- R161, first step, R169: a LOST link recovers. -/
def State.recover (s : State) (l : Link) : State :=
  if (s.link l).lost then (s.onLink l fun c => { c with lost := false }).addNotices (otherLinks l) .link else s

/-- R161, second step, R168: supervision is renewed if it is enabled. -/
def State.renew (s : State) (l : Link) : State :=
  s.onLink l fun c =>
    { c with
      supervision := c.supervision.map fun p => { p with deadline := some (s.clock + Config.tenths p.period) } }

/-- R161, third step: an order other than LOAD DATA closes the link's window. -/
def State.closeWindow (s : State) (l : Link) (code : Byte) : State :=
  if code = Code.loadData then s else s.onLink l fun c => { c with window := none }

/-- R59, R76, R169: the loss of a link acts, with all its effects, before a frame of that link: the reports of it that are
still on their way are taken by the Allowance Unit and the Saw Sequencer first (DEDUCED, log 37). -/
def State.takeLoss (s : State) (l : Link) : State :=
  (s.takeReport (.linkLossReportAllowance l) (linkLossAllowanceEffect l)).takeReport (.linkLossReportSaw l)
    (linkLossSawEffect l)

/-- R161: what a valid frame does before its order is taken; a loss of the link has acted by then (R169). -/
def State.acceptFrame (s : State) (l : Link) (code : Byte) : State :=
  ((((s.takeLoss l).recordArrival l).recover l).renew l).closeWindow l code

/-- R161, fourth step: the order that a frame carries is taken by its owner. Only what decodeOrder answers comes here, so
the last arm is never reached. -/
def takeOrder (i : Instr) (s : State) : Host.Outcome State Fault Refusal :=
  match i with
  | .null l => execNull l s
  | .readNotices l => execReadNotices l s
  | .setNoticeMask l m => execSetNoticeMask l m s
  | .openWindow l t a b => execOpenWindow l t a b s
  | .loadData l bs => execLoadData l bs s
  | .supervise l p => execSupervise l p s
  | .readLink l => execReadLink l s
  | .readResetCause l => execReadResetCause l s
  | .readStation l => execReadStation l s
  | .ackTrip l => execAckTrip l s
  | .declare l d => execDeclare l d s
  | .claim l o => execClaim l o s
  | .withdraw l n => execWithdraw l n s
  | .release l n => execRelease l n s
  | .readClaim l n => execReadClaim l n s
  | .readTable l t r c => execReadTable l t r c s
  | .confirm l t => execConfirm l t s
  | .reject l t => execReject l t s
  | .feederOn l k => execFeederOn l k s
  | .feederOff l k => execFeederOff l k s
  | .feederClear l k => execFeederClear l k s
  | .readFeeder l k => execReadFeeder l k s
  | .sawStart l => execSawStart l s
  | .sawStop l => execSawStop l s
  | .sawFeed l => execSawFeed l s
  | .sawReturn l => execSawReturn l s
  | .sawHold l => execSawHold l s
  | .sawResume l => execSawResume l s
  | .sawClearFault l => execSawClearFault l s
  | .readSaw l => execReadSaw l s
  | .takeSnapshot l => execTakeSnapshot l s
  | .readSnapshot l => execReadSnapshot l s
  | _ => .next s

/-- R159 to R161: the bytes of a window, once it has closed. -/
def State.takeFrame (s : State) (l : Link) (bytes : List Byte) (oddPulses : Nat) : Host.Outcome State Fault Refusal :=
  match bytes with
  | [] => .next s
  | first :: _ =>
    match judgeFrame bytes oddPulses with
    | none => .next (s.discardFrame l first)
    | some (code, operands) =>
      let s1 := s.acceptFrame l code
      match decodeOrder l code operands with
      | .error st => .next (s1.answer l code st)
      | .ok i => takeOrder i s1

/-- R159: SELECT rises. A window that was open closes and its bytes are taken; while a reset is held, or where no window was
open, only the level changes. -/
def execOrderFrame (l : Link) (bytes : List Byte) (oddPulses : Nat) (s : State) : Host.Outcome State Fault Refusal :=
  let s1 := s.onLink l fun c => { c with selectLow := false, selecting := false, output := none }
  if s.held || !(s.link l).selecting then .next s1 else s1.takeFrame l bytes oddPulses

end Sys2Proof.Machine
end

