-- ==== Sys2Proof/Machine/Resets.lean ====
section
/-! DEFINITION. The two resets and their release (R19, R32, R60, R83, R89, R101, R116, R150, R155, R171, R172). -/

namespace Sys2Proof.Machine

/-- Every block at its reset state, with these tables and this TRIP latch, while the reset is held. The inputs, the SELECT
lines, the time and the commands waiting are not the part's to reset; messages between blocks are lost (log 1). -/
def State.enterReset (s : State) (ts : Tables) (trip : Bool) : State :=
  let link (c : LinkContext) : LinkContext := .initial none c.selectLow
  { s with
    transit := []
    held := true
    reg := .initial ts trip
    alw := .initial
    fdr := .initial ts
    saw := .initial s.clock
    meas := .initial
    set := .initial ts s.set.key
    links := { l1 := link s.links.l1, l2 := link s.links.l2, l3 := link s.links.l3 } }

/-- R19, R101: the logic supply rises: tables at their defaults, TRIP latch clear. -/
def powerOnResetEffect (s : State) : State := { s.enterReset .default false with supplyRose := true }

def execPowerOnReset (s : State) : Host.Outcome State Fault Refusal := .next (powerOnResetEffect s)

/-- R19, R101: the RESET pin is held low while the part is powered: tables and TRIP latch are kept. -/
def panelResetEffect (s : State) : State := s.enterReset s.set.tables s.reg.tripLatch

def execPanelReset (s : State) : Host.Outcome State Fault Refusal := .next (panelResetEffect s)

/-- The state a release leaves before the contactors, ESTOP and the limits are judged. -/
def State.released (s : State) (strap : Bool) : State :=
  let sup := Supervision.byStrap strap s.clock
  let link (c : LinkContext) : LinkContext := .initial sup c.selectLow
  { s with
    held := false
    supplyRose := false
    cause := if s.supplyRose then .powerOn else .panel
    set := .initial s.set.tables s.pins.key
    saw := .initial s.clock
    links := { l1 := link s.links.l1, l2 := link s.links.l2, l3 := link s.links.l3 } }

/-- R116, R150: at the release the contactor timings of contacts that read closed start, and ESTOP and then the limits are
judged (log 15). -/
def State.startChecks (s : State) : State :=
  let s1 := s.sync
  if s1.pins.estop then s1.faultSaw .estop else s1.judgeLimits

/-- R171, R172: a reset is released; with no reset held there is nothing to release. -/
def resetReleaseEffect (strap : Bool) (s : State) : State := if s.held then (s.released strap).startChecks else s

def execResetRelease (strap : Bool) (s : State) : Host.Outcome State Fault Refusal := .next (resetReleaseEffect strap s)

end Sys2Proof.Machine
end

