-- ==== Sys2Proof/Machine/Dispatch.lean ====
section
/-! DEFINITION. The meaning of every command: one arm for each constructor of Instr. -/

namespace Sys2Proof.Machine

/-- The effect of a command on everything but the queue of commands waiting. -/
def exec (i : Instr) (s : State) : Host.Outcome State Fault Refusal :=
  match i with
  | .powerOnReset => Sys2Proof.Machine.execPowerOnReset s
  | .panelReset => Sys2Proof.Machine.execPanelReset s
  | .resetRelease superviseStrap => Sys2Proof.Machine.execResetRelease superviseStrap s
  | .cycleCompletion interval first rest => Sys2Proof.Machine.execCycleCompletion interval first rest s
  | .halfCycleMidpoint => Sys2Proof.Machine.execHalfCycleMidpoint s
  | .silenceExpiry => Sys2Proof.Machine.execSilenceExpiry s
  | .warmBandExpiry => Sys2Proof.Machine.execWarmBandExpiry s
  | .shedTimingExpiry => Sys2Proof.Machine.execShedTimingExpiry s
  | .fastTimingExpiry => Sys2Proof.Machine.execFastTimingExpiry s
  | .recoveryTimingExpiry => Sys2Proof.Machine.execRecoveryTimingExpiry s
  | .runawayTimingExpiry => Sys2Proof.Machine.execRunawayTimingExpiry s
  | .tripTimingExpiry => Sys2Proof.Machine.execTripTimingExpiry s
  | .budgetRaiseRequest => Sys2Proof.Machine.execBudgetRaiseRequest s
  | .budgetClearRequest => Sys2Proof.Machine.execBudgetClearRequest s
  | .downStep amount => Sys2Proof.Machine.execDownStep amount s
  | .upStep amount => Sys2Proof.Machine.execUpStep amount s
  | .leadLineReport r => Sys2Proof.Machine.execLeadLineReport r s
  | .allowanceStateReport r => Sys2Proof.Machine.execAllowanceStateReport r s
  | .feederStateReport r => Sys2Proof.Machine.execFeederStateReport r s
  | .sawStateReport r => Sys2Proof.Machine.execSawStateReport r s
  | .measurementStateReport r => Sys2Proof.Machine.execMeasurementStateReport r s
  | .linkStateReport l r => Sys2Proof.Machine.execLinkStateReport l r s
  | .waitExpiry n => Sys2Proof.Machine.execWaitExpiry n s
  | .dueEvent n => Sys2Proof.Machine.execDueEvent n s
  | .surgeExpiry n => Sys2Proof.Machine.execSurgeExpiry n s
  | .surgeEndRequest => Sys2Proof.Machine.execSurgeEndRequest s
  | .endRequest n o => Sys2Proof.Machine.execEndRequest n o s
  | .feederAdmissionReport k => Sys2Proof.Machine.execFeederAdmissionReport k s
  | .feederCarriedReport k => Sys2Proof.Machine.execFeederCarriedReport k s
  | .feederEndingReport k o => Sys2Proof.Machine.execFeederEndingReport k o s
  | .sawAdmissionReport c => Sys2Proof.Machine.execSawAdmissionReport c s
  | .sawCarriedReport c => Sys2Proof.Machine.execSawCarriedReport c s
  | .sawEndingReport c o => Sys2Proof.Machine.execSawEndingReport c o s
  | .shedRequest t => Sys2Proof.Machine.execShedRequest t s
  | .stepTimingHalfMark => Sys2Proof.Machine.execStepTimingHalfMark s
  | .stepTimingFullMark => Sys2Proof.Machine.execStepTimingFullMark s
  | .restoreHoldExpiry => Sys2Proof.Machine.execRestoreHoldExpiry s
  | .staggerExpiry => Sys2Proof.Machine.execStaggerExpiry s
  | .feederFeedbackChange k closed => Sys2Proof.Machine.execFeederFeedbackChange k closed s
  | .followTimingExpiry k => Sys2Proof.Machine.execFollowTimingExpiry k s
  | .stuckTimingExpiry k => Sys2Proof.Machine.execStuckTimingExpiry k s
  | .bladePulse => Sys2Proof.Machine.execBladePulse s
  | .bladeWindowEnd => Sys2Proof.Machine.execBladeWindowEnd s
  | .bladeQuietExpiry => Sys2Proof.Machine.execBladeQuietExpiry s
  | .starTimeExpiry => Sys2Proof.Machine.execStarTimeExpiry s
  | .deadTimeExpiry => Sys2Proof.Machine.execDeadTimeExpiry s
  | .sawFeedbackChange c closed => Sys2Proof.Machine.execSawFeedbackChange c closed s
  | .disagreementTimingExpiry c => Sys2Proof.Machine.execDisagreementTimingExpiry c s
  | .limitChange w active => Sys2Proof.Machine.execLimitChange w active s
  | .estopChange active => Sys2Proof.Machine.execEstopChange active s
  | .overloadTimingExpiry => Sys2Proof.Machine.execOverloadTimingExpiry s
  | .resumeTimingExpiry => Sys2Proof.Machine.execResumeTimingExpiry s
  | .divergenceTimingExpiry => Sys2Proof.Machine.execDivergenceTimingExpiry s
  | .agreementTimingExpiry => Sys2Proof.Machine.execAgreementTimingExpiry s
  | .proposalExpiry t => Sys2Proof.Machine.execProposalExpiry t s
  | .keyChange k => Sys2Proof.Machine.execKeyChange k s
  | .selectFall l => Sys2Proof.Machine.execSelectFall l s
  | .orderFrame l bytes oddPulses => Sys2Proof.Machine.execOrderFrame l bytes oddPulses s
  | .supervisionExpiry l => Sys2Proof.Machine.execSupervisionExpiry l s
  | .linkLossReportAllowance l => Sys2Proof.Machine.execLinkLossReportAllowance l s
  | .linkLossReportSaw l => Sys2Proof.Machine.execLinkLossReportSaw l s
  | .null l => Sys2Proof.Machine.execNull l s
  | .readNotices l => Sys2Proof.Machine.execReadNotices l s
  | .setNoticeMask l mask => Sys2Proof.Machine.execSetNoticeMask l mask s
  | .openWindow l t first last => Sys2Proof.Machine.execOpenWindow l t first last s
  | .loadData l bytes => Sys2Proof.Machine.execLoadData l bytes s
  | .supervise l period => Sys2Proof.Machine.execSupervise l period s
  | .readLink l => Sys2Proof.Machine.execReadLink l s
  | .readResetCause l => Sys2Proof.Machine.execReadResetCause l s
  | .readStation l => Sys2Proof.Machine.execReadStation l s
  | .ackTrip l => Sys2Proof.Machine.execAckTrip l s
  | .declare l d => Sys2Proof.Machine.execDeclare l d s
  | .claim l ops => Sys2Proof.Machine.execClaim l ops s
  | .withdraw l n => Sys2Proof.Machine.execWithdraw l n s
  | .release l n => Sys2Proof.Machine.execRelease l n s
  | .readClaim l n => Sys2Proof.Machine.execReadClaim l n s
  | .readTable l t record copy => Sys2Proof.Machine.execReadTable l t record copy s
  | .confirm l t => Sys2Proof.Machine.execConfirm l t s
  | .reject l t => Sys2Proof.Machine.execReject l t s
  | .feederOn l k => Sys2Proof.Machine.execFeederOn l k s
  | .feederOff l k => Sys2Proof.Machine.execFeederOff l k s
  | .feederClear l k => Sys2Proof.Machine.execFeederClear l k s
  | .readFeeder l k => Sys2Proof.Machine.execReadFeeder l k s
  | .sawStart l => Sys2Proof.Machine.execSawStart l s
  | .sawStop l => Sys2Proof.Machine.execSawStop l s
  | .sawFeed l => Sys2Proof.Machine.execSawFeed l s
  | .sawReturn l => Sys2Proof.Machine.execSawReturn l s
  | .sawHold l => Sys2Proof.Machine.execSawHold l s
  | .sawResume l => Sys2Proof.Machine.execSawResume l s
  | .sawClearFault l => Sys2Proof.Machine.execSawClearFault l s
  | .readSaw l => Sys2Proof.Machine.execReadSaw l s
  | .takeSnapshot l => Sys2Proof.Machine.execTakeSnapshot l s
  | .readSnapshot l => Sys2Proof.Machine.execReadSnapshot l s

end Sys2Proof.Machine
end

