-- ==== Sys2Proof/Machine/Step.lean ====
section
/-! DEFINITION. One step of the part: the command at the front of the queue is taken; with the queue empty, what the part does
of itself (log 4): the oldest message on its way between two blocks arrives, or a timing that has run out expires, or time
passes. -/

namespace Sys2Proof.Machine

/-! ### The timings that run, each with the moment it runs out in microseconds and the command its expiry is -/

/-- A timing that runs out at a moment given in 10 ms. -/
def tickTimer (t : Nat) (i : Instr) : Nat × Instr := (t * Config.microsPerTick, i)

/-- A timing of R5 or R154 that runs. -/
def runningTimer (t : Timing) (delay : Nat) (i : Instr) : List (Nat × Instr) :=
  (t.start?.map fun since => tickTimer (since + delay) i).toList

/-- A timing kept as the moment it runs out. -/
def deadlineTimer (t : Option Nat) (i : Instr) : List (Nat × Instr) := (t.map fun d => tickTimer d i).toList

def State.regulatorTimers (s : State) : List (Nat × Instr) :=
  let th := s.reg.inForce
  (s.reg.midpoint.map fun t => (t, Instr.halfCycleMidpoint)).toList
    ++ (s.reg.lastCrossing.map fun t => (t + Config.silenceMicros, Instr.silenceExpiry)).toList
    ++ runningTimer s.reg.trip (Config.tenths th.tripDelay) .tripTimingExpiry
    ++ runningTimer s.reg.warmBand (Config.seconds th.warmUp) .warmBandExpiry
    ++ runningTimer s.reg.shed (Config.tenths th.shedDelay) .shedTimingExpiry
    ++ runningTimer s.reg.fast (Config.tenths th.fastDelay) .fastTimingExpiry
    ++ runningTimer s.reg.recovery (Config.tenths th.recoveryTime) .recoveryTimingExpiry
    ++ runningTimer s.reg.runaway (Config.tenths th.runawayDelay) .runawayTimingExpiry

def State.claimTimers (s : State) : List (Nat × Instr) :=
  (s.alw.line.map fun m => tickTimer m.due (.dueEvent m.claim))
    ++ allClaims.flatMap fun n =>
      deadlineTimer (s.claim n).waitDeadline (.waitExpiry n) ++ deadlineTimer (s.claim n).surgeEnd (.surgeExpiry n)

def State.stepTimers (s : State) : List (Nat × Instr) :=
  match s.fdr.step with
  | .stopped => []
  | .running since interval false =>
    [tickTimer (since + interval / 2) .stepTimingHalfMark, tickTimer (since + interval) .stepTimingFullMark]
  | .running since interval true => [tickTimer (since + interval) .stepTimingFullMark]

def State.cursorTimers (s : State) : List (Nat × Instr) :=
  match s.fdr.cursor with
  | .hold t => [tickTimer t .restoreHoldExpiry]
  | .stagger t => [tickTimer t .staggerExpiry]
  | .idle => []
  | .restoring _ => []
  | .ready => []

def State.feederTimers (s : State) : List (Nat × Instr) :=
  allFeeders.flatMap fun k =>
    runningTimer (s.feeder k).follow Config.contactorTicks (.followTimingExpiry k)
      ++ runningTimer (s.feeder k).stuck Config.contactorTicks (.stuckTimingExpiry k)

def State.sawTimers (s : State) : List (Nat × Instr) :=
  let since (t : Option Nat) : Option Nat := t.map fun x => x + Config.contactorTicks
  deadlineTimer s.saw.starTime .starTimeExpiry ++ deadlineTimer s.saw.deadTime .deadTimeExpiry
    ++ deadlineTimer s.saw.overload .overloadTimingExpiry ++ deadlineTimer s.saw.resume .resumeTimingExpiry
    ++ deadlineTimer (since s.saw.lineDisagree) (.disagreementTimingExpiry .line)
    ++ deadlineTimer (since s.saw.starDisagree) (.disagreementTimingExpiry .star)
    ++ deadlineTimer (since s.saw.deltaDisagree) (.disagreementTimingExpiry .delta)
    ++ [tickTimer s.saw.windowEnd .bladeWindowEnd]
    ++ (if s.saw.bladeQuiet then [] else [tickTimer s.saw.quietDeadline .bladeQuietExpiry])

def State.otherTimers (s : State) : List (Nat × Instr) :=
  let life (t : SharedId) (p : Option Proposal) : List (Nat × Instr) :=
    deadlineTimer (p.map Proposal.expiry) (.proposalExpiry t)
  let supervised (l : Link) : List (Nat × Instr) :=
    deadlineTimer ((s.link l).supervision.bind Supervision.deadline) (.supervisionExpiry l)
  runningTimer s.meas.divergence Config.discrepancyTicks .divergenceTimingExpiry
    ++ runningTimer s.meas.agreement Config.discrepancyTicks .agreementTimingExpiry
    ++ life .bands s.set.bandsProposal ++ life .shedOrder s.set.shedOrderProposal
    ++ life .thresholds s.set.thresholdsProposal ++ supervised .l1 ++ supervised .l2 ++ supervised .l3

/-- Every timing that runs. -/
def State.timers (s : State) : List (Nat × Instr) :=
  s.regulatorTimers ++ s.claimTimers ++ s.stepTimers ++ s.cursorTimers ++ s.feederTimers ++ s.sawTimers ++ s.otherTimers

/-- The timing that runs out first; of several together the first listed (log 4). -/
def earliest (ts : List (Nat × Instr)) : Option (Nat × Instr) :=
  ts.foldl
    (fun best t =>
      match best with
      | none => some t
      | some b => if t.1 < b.1 then some t else some b)
    none

/-! ### The step -/

/-- One step of time, 10 ms, or less where a timing runs out sooner (log 4). -/
def State.passTime (s : State) (until? : Option Nat) : State :=
  let next := s.now + Config.microsPerTick
  match until? with
  | none => { s with now := next }
  | some t => { s with now := min next (max t s.now) }

/-- What the part does of itself when no command waits (log 4). While a reset is held only time passes. -/
def State.idle (s : State) : Host.Outcome State Fault Refusal :=
  if s.held then .next (s.passTime none)
  else
    match s.transit with
    | m :: _ => exec m s
    | [] =>
      match earliest s.timers with
      | none => .next (s.passTime none)
      | some (t, i) => if t ≤ s.now then exec i s else .next (s.passTime (some t))

/-- One step: the command at the front of the queue, or what the part does of itself. -/
def step (s : State) : Host.Outcome State Fault Refusal :=
  match s.pending with
  | [] => s.idle
  | c :: rest => exec c { s with pending := rest }

/-- The command a word spells, put at the front of the queue; no word spells one (Sys2Proof.decodeTableWord). -/
def State.withFetchWord (s : State) (nbits w : Nat) : State :=
  match decodeTableWord nbits w with
  | none => s
  | some c => { s with pending := c :: s.pending }

end Sys2Proof.Machine
end

