-- ==== Sys2Proof/WellFormed.lean ====
section
/-! DEFINITION. Which commands can reach the part as they stand: operands that the wire, the wiring or the sending block can
give. A command that is not well formed still has a meaning; no event of the part is written so. -/

namespace Sys2Proof

/-- A number that fits one byte of a frame. -/
abbrev fitsByte (n : Nat) : Bool := n < 256

/-- A number that fits two bytes of a frame. -/
abbrev fitsWord (n : Nat) : Bool := n < 65536

/-- An optional two-byte operand that is present and is not the mark of absence (R173). -/
def fitsOptional : Option Nat → Bool
  | none => true
  | some n => n < 0xFFFF

/-- R152: a sample is taken every 156.25 µs, which is 2500 sixteenths of a microsecond, so between two crossings there are as
many samples as that fits into the interval, give or take one by where they fall; the first sample is counted apart. -/
def sampleCountFits (interval rest : Nat) : Bool := rest * 2500 ≤ 16 * interval && 16 * interval ≤ (rest + 2) * 2500

/-- The outcomes an ending report can carry (R73): a wait expiry or a cancellation. -/
def reportedEnding : Ending → Bool
  | .expired => true
  | .cancelled => true
  | .noEnding => false
  | .withdrawn => false
  | .released => false
  | .shed => false
  | .forced => false
  | .linkLost => false
  | .fault => false

/-- The outcomes an end request can carry (R42, R53): all but NONE, and but EXPIRED, which a wait expiry alone gives. -/
def requestedEnding : Ending → Bool
  | .cancelled => true
  | .withdrawn => true
  | .released => true
  | .shed => true
  | .forced => true
  | .linkLost => true
  | .fault => true
  | .noEnding => false
  | .expired => false

/-- R15, R7: a reason set goes with DEFICIT alone, where it is not empty. -/
def reasonsFit (r : StateReport) : Bool :=
  if r.entered = .deficit then r.reasons ≠ .empty else r.reasons = .empty

/-- The operands of CLAIM as twelve bytes can give them. -/
def claimOperandsFit (o : ClaimOperands) : Bool :=
  fitsByte o.number && fitsWord o.amount && fitsOptional o.runAmount && fitsOptional o.surgeTime && fitsByte o.leadTime
    && fitsOptional o.waitLimit && fitsByte o.tag

/-- A command is well formed. -/
def wellFormed : Instr → Bool
  | .cycleCompletion interval _ rest => 0 < interval && sampleCountFits interval rest.length
  | .downStep amount => 1 ≤ amount && amount ≤ Config.maxPower
  | .upStep amount => amount ≤ Config.maxPower
  | .allowanceStateReport r => reasonsFit r
  | .feederStateReport r => reasonsFit r
  | .sawStateReport r => reasonsFit r
  | .measurementStateReport r => reasonsFit r
  | .linkStateReport _ r => reasonsFit r
  | .endRequest _ o => requestedEnding o
  | .feederEndingReport _ o => reportedEnding o
  | .sawEndingReport _ o => reportedEnding o
  | .orderFrame _ _ oddPulses => oddPulses < 8
  | .openWindow _ _ first last => fitsByte first && fitsByte last
  | .loadData _ bytes => bytes.length ≤ Config.maxOperandBytes
  | .supervise _ period => fitsByte period
  | .declare _ d => fitsWord d
  | .claim _ o => claimOperandsFit o
  | .withdraw _ n => fitsByte n
  | .release _ n => fitsByte n
  | .readClaim _ n => fitsByte n
  | .readTable _ _ record _ => fitsByte record
  | .feederOn _ k => fitsByte k
  | .feederOff _ k => fitsByte k
  | .feederClear _ k => fitsByte k
  | .readFeeder _ k => fitsByte k
  | _ => true

end Sys2Proof
end

