-- ==== Sys2Proof/Safety.lean ====
section
/-! DEFINITION. The laws the part keeps, each as a decidable property of one state, with the rule that states it. That a step
keeps them is stated in the certificates. -/

namespace Sys2Proof.Machine

/-! ### How a command is said to run -/

/-- The command answers a next state, and P holds of it. -/
abbrev Completes (i : Instr) (s : State) (P : State → Prop) : Prop := ∃ t, exec i s = .next t ∧ P t

/-- The order is answered with a status that carries no data, and nothing else changes. -/
abbrev AnsweredOnly (i : Instr) (l : Link) (code : Byte) (st : Status) (s : State) : Prop :=
  exec i s = .next ((s.arrive i).answer l code st)

/-- From s to t the station has entered a state with a reason set, and the change is on its way to the seven receivers of
R15, in the model's order (log 38). -/
abbrev Enters (s t : State) (entered : StationState) (reasons : Reasons) : Prop :=
  t.reg.station = entered ∧ t.reg.reasons = reasons
    ∧ t.transit = s.transit ++ stateReports { left := s.reg.station, entered := entered, reasons := reasons }

/-! ### Allowance Unit -/

/-- R61: the three laws of the Admission Queue. -/
abbrev QueueLaws (s : State) : Prop :=
  s.alw.queue.length ≤ 4 ∧ s.alw.queue.Nodup ∧ ∀ n : Fin 24, n ∈ s.alw.queue ↔ (s.claim n).state = .waiting

/-- R70: the laws of the Lead Line: at most four marks, exactly one for each PENDING claim, in order of due time and no two
less than 250 ms apart; each mark holds its claim's amount and due time. -/
abbrev LineLaws (s : State) : Prop :=
  s.alw.line.length ≤ 4 ∧ (s.alw.line.map Mark.claim).Nodup
    ∧ (∀ n : Fin 24, n ∈ s.alw.line.map Mark.claim ↔ (s.claim n).state = .pending)
    ∧ s.alw.line.Pairwise (fun a b => a.due + 25 ≤ b.due)
    ∧ ∀ m ∈ s.alw.line, m.amount = (s.claim m.claim).amount ∧ (s.claim m.claim).dueTime = some m.due

/-- R40: which fields of a claim record are present in which state, and that its run amount is within its amount. -/
abbrev ClaimFits (c : Claim) : Prop :=
  (c.waitDeadline.isSome = true ↔ c.state = .waiting) ∧ (c.dueTime.isSome = true ↔ c.state = .pending)
    ∧ (c.surgeEnd.isSome = true ↔ c.state = .carried ∧ c.surgeEnded = some false ∧ c.surgeTime.isSome = true)
    ∧ (c.surgeEnded.isSome = c.runAmount.isSome) ∧ c.runAmount.getD 0 ≤ c.amount
    ∧ (c.surgeTime.isSome = true → c.runAmount.isSome = true)
    ∧ (c.state ≠ .free → 1 ≤ c.amount)
    ∧ (c.state = .waiting ∨ c.state = .pending → c.surgeEnded ≠ some true)

/-- R40, R61, R70: the Claim Table, the Admission Queue and the Lead Line agree. -/
abbrev ClaimTableLaws (s : State) : Prop := QueueLaws s ∧ LineLaws s ∧ ∀ n : Fin 24, ClaimFits (s.claim n)

/-- R45: no auxiliary output is bound to more than one claim that is not FREE. -/
abbrev OutputsHeldOnce (s : State) : Prop :=
  ∀ n m : Fin 24, ∀ x : Fin 6, (s.claim n).state ≠ .free → (s.claim m).state ≠ .free → (s.claim n).binding = .aux x →
    (s.claim m).binding = .aux x → n = m

/-- R44: a binding that claim number n can hold. -/
def bindingFits (n : Fin 24) (b : Binding) : Bool :=
  match blockOwner n with
  | none => bindingAllowed n b
  | some (.saw _) => b = .saw
  | some (.feeder k) => b = .feeder k

/-- R44: every binding is one allowed on its claim number, and the block claims keep their fixed ones. -/
abbrev BindingsAllowed (s : State) : Prop := ∀ n : Fin 24, bindingFits n (s.claim n).binding = true

/-- R79: while the station as last reported to the Allowance Unit is BLACK, every claim is FREE. -/
abbrev FreeInBlack (s : State) : Prop := s.reported = .black → ∀ n : Fin 24, (s.claim n).state = .free

/-- R86: the bands are the division of the declaration by the committed reserves, and they sum to it. -/
abbrev BandsDivide (s : State) : Prop :=
  s.alw.bands = bandsFor s.alw.d s.set.tables.bands ∧ s.alw.bands.h + s.alw.bands.w + s.alw.bands.c = s.alw.d

/-- R88: whenever the budget-raised mark is no, the common need does not exceed the common band. -/
abbrev BudgetHolds (s : State) : Prop := s.alw.budgetRaised = false → s.need ≤ s.alw.bands.c

/-! ### Frequency Regulator -/

/-- R22, R24, R25, R31: Bd is within the capacity, levels and firing counts are within their ranges, and in BLACK every
channel is at full. -/
abbrev BallastLaws (s : State) : Prop :=
  s.reg.bd ≤ s.capacity ∧ (∀ i : Fin 4, s.reg.levels[i] ≤ 64) ∧ (∀ i : Fin 4, s.reg.counts[i] < 64)
    ∧ (s.reg.station = .black →
        s.reg.bd = s.capacity ∧ s.reg.levels = #v[64, 64, 64, 64] ∧ s.reg.counts = #v[0, 0, 0, 0]
          ∧ s.reg.conducting = #v[true, true, true, true])

/-- R2, R4: the runs and the history are within their bounds, and the filtered frequency is present outside BLACK. -/
abbrev HistoryLaws (s : State) : Prop :=
  s.reg.history.length ≤ 8 ∧ s.reg.validRun ≤ 8 ∧ s.reg.discardRun < 5 ∧ (s.reg.station ≠ .black → s.reg.history ≠ [])

/-- 01, "The station state": a deficit reason is held in DEFICIT alone. -/
abbrev ReasonsLaw (s : State) : Prop := s.reg.station ≠ .deficit → s.reg.reasons = .empty

/-- R5, R18, R25: each timing of the station runs, or has run out, exactly while its condition holds; QUIET is as its condition
gives; and outside BLACK the levels share out Bd. -/
abbrev RegulatorTimingsLaw (s : State) : Prop :=
  (s.reg.warmBand ≠ .stopped ↔ s.warmCondition = true) ∧ (s.reg.shed ≠ .stopped ↔ s.shedCondition = true)
    ∧ (s.reg.fast ≠ .stopped ↔ s.fastCondition = true) ∧ (s.reg.recovery ≠ .stopped ↔ s.recoveryCondition = true)
    ∧ (s.reg.runaway ≠ .stopped ↔ s.runawayCondition = true) ∧ (s.reg.trip ≠ .stopped ↔ s.tripCondition = true)
    ∧ s.reg.quiet = s.quietCondition
    ∧ (s.reg.station ≠ .black → s.reg.levels = levelsFor s.reg.bd s.reg.ratings)

/-- R5: a timing judged by a condition at a moment: it starts if it was stopped, goes on if it was not, and stops where the
condition is false. -/
def judgedTiming (t : Timing) (condition : Bool) (clock : Nat) : Timing :=
  if condition then (if t = .stopped then .running clock else t) else .stopped

/-- R5: from s to u the six timings are judged by the conditions of u. -/
abbrev TimingsJudged (s u : State) : Prop :=
  u.reg.warmBand = judgedTiming s.reg.warmBand u.warmCondition u.clock
    ∧ u.reg.shed = judgedTiming s.reg.shed u.shedCondition u.clock
    ∧ u.reg.fast = judgedTiming s.reg.fast u.fastCondition u.clock
    ∧ u.reg.recovery = judgedTiming s.reg.recovery u.recoveryCondition u.clock
    ∧ u.reg.runaway = judgedTiming s.reg.runaway u.runawayCondition u.clock
    ∧ u.reg.trip = judgedTiming s.reg.trip u.tripCondition u.clock

/-- R5, R15, R18: the state that follows u once the station has entered a state with a reason set: the six timings and QUIET
are judged in that state, the change is on its way to the seven receivers in the model's order (log 38), and nothing else is
touched. -/
def stationEntered (u : State) (entered : StationState) (reasons : Reasons) : State :=
  let v : State := { u with reg := { u.reg with station := entered, reasons := reasons } }
  { v with
    reg :=
      { v.reg with
        warmBand := judgedTiming u.reg.warmBand v.warmCondition u.clock
        shed := judgedTiming u.reg.shed v.shedCondition u.clock
        fast := judgedTiming u.reg.fast v.fastCondition u.clock
        recovery := judgedTiming u.reg.recovery v.recoveryCondition u.clock
        runaway := judgedTiming u.reg.runaway v.runawayCondition u.clock
        trip := judgedTiming u.reg.trip v.tripCondition u.clock
        quiet := v.quietCondition }
    transit := u.transit ++ stateReports { left := u.reg.station, entered := entered, reasons := reasons } }

/-- R22, R23: from s to u a half-cycle has begun: outside BLACK every channel takes one step of the firing pattern, with the
levels of s. -/
abbrev HalfCycleBegun (s u : State) : Prop :=
  (s.reg.station = .black → u.reg.conducting = s.reg.conducting ∧ u.reg.counts = s.reg.counts)
    ∧ (s.reg.station ≠ .black → ∀ i : Fin 4,
        u.reg.conducting[i] = decide (64 ≤ s.reg.counts[i] + s.reg.levels[i])
          ∧ u.reg.counts[i] =
            if 64 ≤ s.reg.counts[i] + s.reg.levels[i] then s.reg.counts[i] + s.reg.levels[i] - 64
            else s.reg.counts[i] + s.reg.levels[i])

/-- R24, R25, R35: from s to u the ratings of the CHANNELS table are taken, outside BLACK, and where they differ from those in
force Bd is clamped to the new capacity and shared out. -/
abbrev RatingsTaken (s u : State) : Prop :=
  (s.reg.station = .black → u.reg.ratings = s.reg.ratings ∧ u.reg.bd = s.reg.bd ∧ u.reg.levels = s.reg.levels)
    ∧ (s.reg.station ≠ .black →
        u.reg.ratings = s.set.tables.channels.rating
          ∧ (s.reg.ratings = s.set.tables.channels.rating → u.reg.bd = s.reg.bd ∧ u.reg.levels = s.reg.levels)
          ∧ (s.reg.ratings ≠ s.set.tables.channels.rating →
              u.reg.bd = min s.reg.bd u.capacity ∧ u.reg.levels = levelsFor u.reg.bd u.reg.ratings))

/-- R1, R2, R3, R5, R16, R22, R23, R25, R35: from s to u the regulator has taken a crossing that is not a valid cycle, short
of waveform loss: the silence timing starts again, a half-cycle begins, the next midpoint is set, the ratings are taken,
the timings are judged, and nothing else changes but the two runs. -/
abbrev CrossingTaken (s u : State) (now : Nat) (overspeed : Bool) : Prop :=
  u = { s with now := now, reg := u.reg }
    ∧ u.reg =
      { u.reg with
        station := s.reg.station, reasons := s.reg.reasons, history := s.reg.history, inForce := s.reg.inForce
        tripLatch := s.reg.tripLatch, quiet := s.reg.quiet, lineEmpty := s.reg.lineEmpty, lastPeriod := s.reg.lastPeriod
        lastCrossing := some now, overspeed := overspeed
        midpoint := some (now + s.reg.lastPeriod.getD 20000 / 2) }
    ∧ HalfCycleBegun s u ∧ RatingsTaken s u ∧ TimingsJudged s u

/-! ### Settings tables and records as bytes -/

/-- Numbers laid out one after another, each in as many bytes as are written before it, one or two. -/
def fieldBytes (fields : List (Nat × Nat)) : List Byte :=
  fields.flatMap fun f => if f.1 = 2 then u16 f.2 else u8 f.2

/-- R34, R99, R100, R103, R132, R149: the ranges that each table's validation asks for. -/
def TableSound : TableCopy → Prop
  | .channels t => (∀ i : Fin 4, t.rating[i] ≤ 1500) ∧ t.reserveFloor ≤ 2000 ∧ 1 ≤ t.loopGain ∧ t.loopGain ≤ 255
  | .saw t =>
    (1 ≤ t.start.startSurge ∧ t.start.startSurge ≤ 9999 ∧ t.start.runAmount ≤ t.start.startSurge ∧ t.start.startLead ≤ 50
        ∧ 5 ≤ t.start.starTimeMax ∧ t.start.starTimeMax ≤ 200 ∧ 50 ≤ t.start.changeoverSpeed
        ∧ t.start.changeoverSpeed ≤ 100 ∧ t.start.startStallLevel ≤ t.start.changeoverSpeed ∧ 4 ≤ t.start.deadTime
        ∧ t.start.deadTime ≤ 20 ∧ 1 ≤ t.start.ratedPulseRate ∧ t.start.ratedPulseRate ≤ 400
        ∧ t.start.stallLevel < t.start.changeoverSpeed)
      ∧ 1 ≤ t.feed.feedAmount ∧ t.feed.feedAmount ≤ 9999 ∧ 1 ≤ t.feed.returnAmount ∧ t.feed.returnAmount ≤ 9999
      ∧ t.feed.feedLead ≤ 50 ∧ t.feed.overloadMargin ≤ 100 ∧ 1 ≤ t.feed.overloadTime ∧ t.feed.overloadTime ≤ 100
      ∧ t.feed.resumeLevel ≤ 100 ∧ 1 ≤ t.feed.resumeTime ∧ t.feed.resumeTime ≤ 100
  | .feeders t =>
    (∀ k : Fin 12, t[k].rating ≤ 2000 ∧ 1 ≤ t[k].rank ∧ t[k].rank ≤ 12 ∧ t[k].leadTime ≤ 50)
      ∧ ∀ j k : Fin 12, j ≠ k → t[j].rating ≠ 0 → t[k].rating ≠ 0 → t[j].rank ≠ t[k].rank
  | .bands t => t.hres ≤ 9999 ∧ t.wres ≤ 9999
  | .shedOrder t =>
    (∀ j k : Fin 16, j < k → t[j] = none → t[k] = none) ∧ ∀ j k : Fin 16, j ≠ k → t[j] ≠ none → t[j] ≠ t[k]
  | .thresholds t =>
    (∀ f ∈ [t.shedThreshold, t.fastThreshold, t.recoveryLevel, t.runawayLevel, t.runawayExit, t.tripLevel],
        4000 ≤ f ∧ f ≤ 6000)
      ∧ (∀ d ∈ [t.shedDelay, t.fastDelay, t.recoveryTime, t.runawayDelay, t.tripDelay], 1 ≤ d ∧ d ≤ 255)
      ∧ 2 ≤ t.shedInterval ∧ t.shedInterval ≤ 100 ∧ 1 ≤ t.restoreHold ∧ t.restoreHold ≤ 600 ∧ 5 ≤ t.stagger
      ∧ t.stagger ≤ 600 ∧ 1 ≤ t.warmUp ∧ t.warmUp ≤ 120 ∧ (t.lockCount = 2 ∨ t.lockCount = 3) ∧ 1 ≤ t.lockWindow
      ∧ t.lockWindow ≤ 60 ∧ t.fastThreshold < t.shedThreshold ∧ t.shedThreshold < t.recoveryLevel
      ∧ t.recoveryLevel < 5000 ∧ 5000 < t.runawayExit ∧ t.runawayExit < t.runawayLevel ∧ t.runawayLevel < t.tripLevel

/-- R103, R149: what a load of a table may change in the present state of its owner: a feeder that is neither OFF nor LOCKED
keeps its record, and the SAW table changes with the saw STOPPED, or in RUN with record 1 as committed. -/
def LiveStateFits (s : State) : TableCopy → Prop
  | .channels _ | .bands _ | .shedOrder _ | .thresholds _ => True
  | .saw t => s.saw.state = .stopped ∨ s.saw.state = .run ∧ t.start = s.set.tables.saw.start
  | .feeders t =>
    ∀ k : Fin 12, (s.feeder k).state ≠ .off → (s.feeder k).state ≠ .locked → t[k] = s.set.tables.feeders[k]

/-! ### Saw Sequencer and Feeder Controller -/

/-- R136: the commands that go with each state of the saw. -/
def commandsIn : SawState → SawCommands
  | .stopped => .allOff
  | .startWait => .allOff
  | .star => { line := true, star := true, delta := false, feedFwd := false, feedRet := false }
  | .changeover => { line := true, star := false, delta := false, feedFwd := false, feedRet := false }
  | .run => { line := true, star := false, delta := true, feedFwd := false, feedRet := false }
  | .feedWait _ => { line := true, star := false, delta := true, feedFwd := false, feedRet := false }
  | .feeding => { line := true, star := false, delta := true, feedFwd := true, feedRet := false }
  | .returning => { line := true, star := false, delta := true, feedFwd := false, feedRet := true }
  | .feedHold _ _ => { line := true, star := false, delta := true, feedFwd := false, feedRet := false }
  | .stopping => .allOff
  | .fault _ => .allOff

/-- R136, R138, R139, R143 to R145: the saw enters a state: its commands are those of the state, and the timings and the stall
run that do not belong to the state stop. -/
def sawEntering (t : State) (st : SawState) : State :=
  { t with
    saw :=
      { t.saw with
        state := st
        commands := commandsIn st
        starTime := if st = .star then t.saw.starTime else none
        deadTime := if st = .changeover then t.saw.deadTime else none
        overload := if st = .feeding then t.saw.overload else none
        resume := if st.inOverloadHold then t.saw.resume else none
        stallRun := if st.stallWatched then t.saw.stallRun else 0 } }

/-- R136: the saw enters a state other than at an order of L2: SAW is added to L2's set. -/
def sawNoticed (t : State) (st : SawState) : State :=
  { sawEntering t st with links := (t.addNotice .l2 .saw).links }

/-- The same, with the disagreement timings judged by the new commands (R145). -/
def sawMoving (t : State) (st : SawState) : State := (sawNoticed t st).syncSaw

/-- R144, R146: an end request for claim n, or nothing where the claim is FREE. -/
def endIfHeld (t : State) (n : Fin 24) (o : Ending) : List Instr :=
  if (t.claim n).state = .free then [] else [.endRequest n o]

/-- R146: the saw enters FAULT. -/
def sawFaulting (t : State) (kind : SawFault) : State :=
  sawMoving { t with transit := t.transit ++ endIfHeld t 4 .fault ++ endIfHeld t 5 .fault } (.fault kind)

/-- R144: where a saw that has been running comes to rest. -/
def sawAtRest (t : State) : SawState := if t.saw.bladeQuiet then .stopped else .stopping

/-- R144: the end requests of the stop sequence, on their way, and the state it leads to. -/
def stopSent (t : State) (o : Ending) : State :=
  { t with
    transit := t.transit ++ [.endRequest 4 o] ++ if t.saw.state = .startWait then [] else endIfHeld t 5 o }
def stopState (t : State) : SawState := if t.saw.state = .startWait then .stopped else sawAtRest t

/-- R136: the saw's commands are those of its state. -/
abbrev SawCommandsLaw (s : State) : Prop := s.saw.commands = commandsIn s.saw.state

/-- R105, R109, R113: a feeder's close command is on in ON alone, its restoring marker is set in WAITING and PENDING alone,
and its shed history holds at most three times. -/
abbrev FeederFits (f : Feeder) : Prop :=
  (f.close = true ↔ f.state = .on) ∧ (f.restoring = true → f.state = .waiting ∨ f.state = .pending)
    ∧ f.history.length ≤ 3

abbrev FeederLaws (s : State) : Prop := ∀ k : Fin 12, FeederFits (s.feeder k)

def FeederState.isFault : FeederState → Bool
  | .fault _ => true
  | .off => false
  | .waiting => false
  | .pending => false
  | .on => false
  | .shed => false
  | .locked => false

/-- R110: a feeder's timings run, or have run out, exactly as its driven level and its feedback ask, and never in FAULT. -/
abbrev FeederTimingsFit (f : Feeder) (driven closed : Bool) : Prop :=
  (f.follow ≠ .stopped ↔ f.state.isFault = false ∧ driven = true)
    ∧ (f.stuck ≠ .stopped ↔ f.state.isFault = false ∧ driven = false ∧ closed = true)

/-- R145: a disagreement timing runs exactly while the driven level and the feedback differ, and never in FAULT. -/
abbrev DisagreementFits (u : SawUnit) (since : Option Nat) (driven closed : Bool) : Prop :=
  since.isSome = true ↔ u.state.isFault = false ∧ driven ≠ closed

/-- R110, R145: while no reset is held, the contactor timings are as the driven levels and the feedbacks ask. -/
abbrev ContactorTimingsLaw (s : State) : Prop :=
  s.held = false →
    (∀ k : Fin 12, FeederTimingsFit (s.feeder k) (s.feederDriven k) s.pins.fb[k])
      ∧ DisagreementFits s.saw s.saw.lineDisagree s.lineDriven s.pins.lineFb
      ∧ DisagreementFits s.saw s.saw.starDisagree s.starDriven s.pins.starFb
      ∧ DisagreementFits s.saw s.saw.deltaDisagree s.deltaDriven s.pins.deltaFb

/-! ### Station Links and Settings Unit -/

/-- R168, R169: a link is LOST only with supervision enabled, and while it is enabled the remaining time runs exactly on an
ACTIVE link. -/
def supervisionFits (lost : Bool) : Option Supervision → Bool
  | none => !lost
  | some p => 5 ≤ p.period && p.period ≤ 255 && p.deadline.isSome == !lost

/-- R159, R160, R168, R169: a link's supervision is sound, its discarded-frame count is within a byte, and a window is open
only while SELECT is low. -/
abbrev LinkFits (c : LinkContext) : Prop :=
  supervisionFits c.lost c.supervision = true ∧ c.discarded ≤ 255 ∧ (c.selecting = true → c.selectLow = true)

/-- R164, R165: an open window's range lies in its table, its pointer in the range, and its staging copy is of the whole
table. -/
abbrev WindowFits (w : Window) : Prop :=
  1 ≤ w.range.first ∧ w.range.first ≤ w.range.pointer ∧ w.range.pointer ≤ w.range.last
    ∧ w.range.last ≤ recordCount w.range.table ∧ w.staging.length = recordCount w.range.table

abbrev LinkLaws (s : State) : Prop :=
  ∀ l ∈ [Link.l1, Link.l2, Link.l3], LinkFits (s.link l) ∧ ∀ w ∈ (s.link l).window.toList, WindowFits w

/-- R91, R93: a pending proposal of a table is a copy of that table. -/
abbrev ProposalsFit (s : State) : Prop :=
  (∀ p ∈ s.set.bandsProposal.toList, p.copy.id = .bands)
    ∧ (∀ p ∈ s.set.shedOrderProposal.toList, p.copy.id = .shedOrder)
    ∧ ∀ p ∈ s.set.thresholdsProposal.toList, p.copy.id = .thresholds

end Sys2Proof.Machine
end

