-- ==== Sys2Proof/Certificates/Slice0/Obligations.lean ====
section
/-! DEFINITION. The statements for the provers, each named for what it says and citing the rules it rests on. -/

open Sys2Proof Sys2Proof.Machine

/-! ### The step -/

/-- The block's contract: a step takes the command at the front of the queue and runs it on the rest. -/
def Obligations.StepRunsTheFrontCommand : Prop :=
  ∀ (c : Instr) (rest : List Instr) (s : State),
    step { s with pending := c :: rest } = exec c { s with pending := rest }

/-- With no command waiting (log 4, the model's choice): time passes while a reset is held; else the oldest message on its
way arrives, or the timing that has run out first expires, or time passes up to the next one. -/
def Obligations.StepOnAnEmptyQueue : Prop :=
  ∀ s : State, s.pending = [] →
    (s.held = true → step s = .next { s with now := s.now + 10000 })
      ∧ (∀ (m : Instr) (ms : List Instr), s.held = false → s.transit = m :: ms → step s = exec m s)
      ∧ ∀ (t : Nat) (i : Instr), s.held = false → s.transit = [] → earliest s.timers = some (t, i) →
          (t ≤ s.now → step s = exec i s)
            ∧ (s.now < t → step s = .next { s with now := min (s.now + 10000) t })

/-! ### After reset -/

/-- R19, R32, R60, R83, R89, R101, R116, R126, R150, R153 to R155, R172: the part after a power-on reset. The inputs at rest
and the strap low are the model's choice (log 5), and nothing is said of them here. -/
def Obligations.StateAfterPowerOnReset : Prop :=
  let s := State.reset
  (s.reg.station = .black ∧ s.reg.reasons = .empty ∧ s.filtered = none ∧ s.reg.discardRun = 0 ∧ s.reg.validRun = 0
      ∧ s.reg.lastCrossing = none ∧ s.reg.tripLatch = false ∧ s.reg.quiet = false ∧ s.capacity = 0 ∧ s.reg.bd = 0
      ∧ s.bc = 0 ∧ s.reg.levels = #v[64, 64, 64, 64] ∧ s.reg.counts = #v[0, 0, 0, 0] ∧ (∀ i : Fin 4, s.balHigh i = false))
    ∧ (∀ n : Fin 24, (s.claim n).state = .free ∧ (s.claim n).amount = 0 ∧ (s.claim n).last = .noEnding
        ∧ (s.claim n).moment = none ∧ s.carryEnable n = false)
    ∧ (s.alw.queue = [] ∧ s.alw.line = [] ∧ s.alw.d = 0 ∧ s.alw.stale = true ∧ s.alw.bands = { h := 0, w := 0, c := 0 }
        ∧ s.alw.budgetRaised = false ∧ ∀ x : Fin 6, s.auxClosed x = false)
    ∧ (s.set.tables = .default ∧ s.set.bandsProposal = none ∧ s.set.shedOrderProposal = none
        ∧ s.set.thresholdsProposal = none)
    ∧ (∀ k : Fin 12, (s.feeder k).state = .off ∧ (s.feeder k).close = false ∧ (s.feeder k).history = [])
    ∧ (s.fdr.cursor = .idle ∧ s.saw.state = .stopped ∧ s.saw.commands = .allOff ∧ s.saw.bladeQuiet = false
        ∧ s.saw.speed = 0)
    ∧ (s.meas.pg = 0 ∧ s.meas.ps = 0 ∧ s.meas.pb = 0 ∧ s.meas.discrepancy = false)
    ∧ s.cause = .powerOn
    ∧ ∀ l ∈ [Link.l1, Link.l2, Link.l3],
        (s.link l).lost = false ∧ (s.link l).buffer = none ∧ (s.link l).discarded = 0 ∧ (s.link l).notices = 0
          ∧ (s.link l).mask = 0x7FF ∧ (s.link l).broken = false ∧ (s.link l).window = none ∧ s.attn l = false

/-- Every law of Safety.lean holds right after reset. -/
def Obligations.LawsHoldAfterReset : Prop :=
  ClaimTableLaws State.reset ∧ FreeInBlack State.reset ∧ BindingsAllowed State.reset ∧ OutputsHeldOnce State.reset
    ∧ BandsDivide State.reset ∧ BudgetHolds State.reset ∧ BallastLaws State.reset ∧ HistoryLaws State.reset
    ∧ ReasonsLaw State.reset ∧ SawCommandsLaw State.reset ∧ FeederLaws State.reset ∧ LinkLaws State.reset
    ∧ ProposalsFit State.reset ∧ RegulatorTimingsLaw State.reset ∧ ContactorTimingsLaw State.reset

/-! ### What every step keeps -/

/-- R40, R61, R70: every step keeps the Claim Table, the Admission Queue and the Lead Line in agreement: the queue holds
exactly the WAITING claims, at most four and none twice; the line exactly one mark for each PENDING claim, at most four,
in order of due time and at least 250 ms apart. -/
def Obligations.StepKeepsQueueAndLine : Prop :=
  ∀ s t : State, step s = .next t → ClaimTableLaws s → ClaimTableLaws t

/-- R44, R45, R79: with the laws of the Claim Table, every step keeps every claim FREE while the station as last reported is
BLACK, every binding one that its number allows, and each auxiliary output bound to at most one claim that is not FREE. -/
def Obligations.StepKeepsBindings : Prop :=
  ∀ s t : State, step s = .next t → ClaimTableLaws s → FreeInBlack s → BindingsAllowed s → OutputsHeldOnce s →
    FreeInBlack t ∧ BindingsAllowed t ∧ OutputsHeldOnce t

/-- R86, R88: every step keeps the bands the division of the declaration, and the common need within the common band whenever
the budget-raised mark is no. -/
def Obligations.StepKeepsBudget : Prop :=
  ∀ s t : State, step s = .next t → ClaimTableLaws s → BandsDivide s → BudgetHolds s → BandsDivide t ∧ BudgetHolds t

/-- R2, R4, R5, R18, R22, R24, R25, R31: every step keeps Bd within the capacity, the levels and firing counts in their
ranges, BLACK at full ballast, the history and the runs within their bounds with a filtered frequency outside BLACK, the
deficit reasons to DEFICIT alone, the six timings running exactly while their conditions hold, QUIET as its condition gives,
and outside BLACK the levels those that share out Bd. -/
def Obligations.StepKeepsRegulatorLaws : Prop :=
  ∀ s t : State, step s = .next t → BallastLaws s → HistoryLaws s → ReasonsLaw s → RegulatorTimingsLaw s →
    BallastLaws t ∧ HistoryLaws t ∧ ReasonsLaw t ∧ RegulatorTimingsLaw t

/-- R105, R109, R113, R136: every step keeps the saw's commands those of its state, so that STAR and DELTA are never on
together nor FEED_FWD and FEED_RET, and every feeder's close command on exactly in ON. -/
def Obligations.StepKeepsContactorCommands : Prop :=
  ∀ s t : State, step s = .next t → SawCommandsLaw s → FeederLaws s →
    SawCommandsLaw t ∧ FeederLaws t ∧ (t.saw.commands.star && t.saw.commands.delta) = false
      ∧ (t.saw.commands.feedFwd && t.saw.commands.feedRet) = false

/-- R91, R93, R160, R164, R165, R168, R169: every step keeps the links' supervision, windows and counts, and the pending
proposals, well formed. -/
def Obligations.StepKeepsLinkLaws : Prop :=
  ∀ s t : State, step s = .next t → LinkLaws s → ProposalsFit s → LinkLaws t ∧ ProposalsFit t

/-- R16, R19, R22, R32, R45, R73, R110, R134, R162: in every state, the level of each output. A carry enable is on exactly
while its claim is CARRIED and no reset is held; an auxiliary output is closed exactly while such a claim is bound to it, and
a contactor exactly while its command is on and the claim it is for is such a one. TRIP follows its latch; a ballast output is
high, not firing, exactly while no reset is held and its channel does not conduct; ATTN is asserted exactly while no reset is
held and the mask holds a kind of the notice set. -/
def Obligations.OutputsClosedOnlyWhileCarried : Prop :=
  ∀ s : State,
    let carried (n : Fin 24) : Prop := s.held = false ∧ (s.claim n).state = .carried
    (∀ n : Fin 24, s.carryEnable n = true ↔ carried n)
      ∧ (∀ x : Fin 6, s.auxClosed x = true ↔ ∃ n : Fin 24, carried n ∧ (s.claim n).binding = .aux x)
      ∧ (∀ k : Fin 12, s.feederDriven k = true ↔ (s.feeder k).close = true ∧ carried (feederClaim k))
      ∧ (s.lineDriven = true ↔ s.saw.commands.line = true ∧ carried 4)
      ∧ (s.starDriven = true ↔ s.saw.commands.star = true ∧ carried 4)
      ∧ (s.deltaDriven = true ↔ s.saw.commands.delta = true ∧ carried 4)
      ∧ (s.fwdDriven = true ↔ s.saw.commands.feedFwd = true ∧ carried 5)
      ∧ (s.retDriven = true ↔ s.saw.commands.feedRet = true ∧ carried 5)
      ∧ (s.tripOutput = true ↔ s.reg.tripLatch = true)
      ∧ (∀ i : Fin 4, s.balHigh i = true ↔ s.held = false ∧ s.reg.conducting[i] = false)
      ∧ ∀ l : Link, s.attn l = true ↔ s.held = false ∧ (s.link l).notices &&& (s.link l).mask ≠ 0

/-- R93: a shared table changes only by CONFIRM from a link other than its proposer or by LOAD DATA with KEY at LOCAL (each
alone or in its frame), or by power-on reset. -/
def Obligations.SharedTableChangesOnlyByAgreement : Prop :=
  ∀ (i : Instr) (s t : State), exec i s = .next t →
    (t.set.tables.bands ≠ s.set.tables.bands ∨ t.set.tables.shedOrder ≠ s.set.tables.shedOrder
      ∨ t.set.tables.thresholds ≠ s.set.tables.thresholds) →
    let agreed (o : Instr) : Prop :=
      (∃ (l : Link) (tb : TableId) (sh : SharedId) (p : Proposal),
          o = .confirm l tb ∧ sharedOf tb = some sh ∧ s.set.proposal sh = some p ∧ p.proposer ≠ l)
        ∨ ∃ (l : Link) (bytes : List Byte), o = .loadData l bytes ∧ s.set.key = .keyLocal
    agreed i
      ∨ (∃ (l : Link) (bytes : List Byte) (odd : Nat) (code : Byte) (ops : List Byte) (o : Instr),
          i = .orderFrame l bytes odd ∧ judgeFrame bytes odd = some (code, ops) ∧ decodeOrder l code ops = .ok o
            ∧ agreed o)
      ∨ i = .powerOnReset

/-- R16, R17, R19: the TRIP latch is cleared by ACK TRIP (alone or in its frame) and by power-on reset, and by nothing
else. -/
def Obligations.TripLatchClearsOnlyByOrderOrPowerOn : Prop :=
  ∀ (i : Instr) (s t : State), exec i s = .next t → s.reg.tripLatch = true → t.reg.tripLatch = false →
    (∃ l : Link, i = .ackTrip l)
      ∨ (∃ (l : Link) (bytes : List Byte) (odd : Nat) (code : Byte) (ops : List Byte) (l' : Link),
          i = .orderFrame l bytes odd ∧ judgeFrame bytes odd = some (code, ops)
            ∧ decodeOrder l code ops = .ok (.ackTrip l'))
      ∨ i = .powerOnReset

/-! ### Frames and selection -/

/-- R160, R173: for every well-formed order, its frame is judged valid and is decoded to that order, with every operand; and
whatever order a frame is decoded to, the frame's code and operands are that order's own. -/
def Obligations.OrderFramesRoundTrip : Prop :=
  (∀ (i : Instr) (o : Order), wellFormed i = true → encodeOrder i = some o →
      judgeFrame (encodeFrame o.code o.operands) 0 = some (o.code, o.operands)
        ∧ decodeOrder o.link o.code o.operands = .ok i)
    ∧ ∀ (l : Link) (code : Byte) (ops : List Byte) (i : Instr), ops.length ≤ 24 → decodeOrder l code ops = .ok i →
        wellFormed i = true ∧ encodeOrder i = some ⟨l, code, ops⟩

/-- R59, R76, R161, R167 to R169: a well-formed order's frame, in an open window. The window closes; the reports of a loss of
this link that are still on their way are taken first, as their own rows give (log 37); the link recovers if it was LOST and
the others are told, supervision is renewed, a window is closed unless the order is LOAD DATA, and then the order is taken as
its own row gives. -/
def Obligations.ValidFrameTakesItsOrder : Prop :=
  ∀ (i : Instr) (o : Order) (s : State), wellFormed i = true → encodeOrder i = some o → s.held = false →
    (s.link o.link).selecting = true →
    let taken (m : Instr) (x y : State) : Prop := (m ∈ x.transit → exec m x = .next y) ∧ (m ∉ x.transit → y = x)
    let closed := s.onLink o.link fun c => { c with selectLow := false, selecting := false, output := none }
    ∃ a b s1 : State,
      taken (.linkLossReportAllowance o.link) closed a ∧ taken (.linkLossReportSaw o.link) a b
        ∧ exec (.orderFrame o.link (encodeFrame o.code o.operands) 0) s = exec i s1
        ∧ s1 = { b with links := s1.links }
        ∧ (s1.link o.link =
            { b.link o.link with
              lost := false
              supervision := (b.link o.link).supervision.map fun p =>
                { p with deadline := some (s.clock + 10 * p.period) }
              window := if o.code = 0x04 then (b.link o.link).window else none
              atFrame := { lost := (b.link o.link).lost, window := (b.link o.link).window.map Window.range } })
        ∧ (∀ m : Link, m ≠ o.link → s1.link m = if (b.link o.link).lost then (b.addNotice m .link).link m else b.link m)
        ∧ ∀ l : Link, b.link l = { closed.link l with notices := (b.link l).notices }

/-- R159, R160, R161, R172, R173: SELECT falls: the reply in the buffer, or a NULL reply, moves to the output and the buffer
is empty; a line that is low already does not fall, and while a reset is held no window opens. DATA_OUT shifts out the
reply's bytes with their check byte, and 0x00 beyond them. SELECT rises on an open window: a window with no byte changes
nothing more; bytes that are no valid frame are counted up to 255 and answered FRAME_ERROR with the first of them; and an
order that is not known or badly encoded is answered so after the link has renewed. Which codes are not known, and which
operand lengths, mask bits, table codes, copy codes and binding codes are bad. SELECT rises with no window open, or while a
reset is held: only the level changes. That CLOCK pulses without a whole byte are no frame is the model's reading (log 13),
as are the low line that does not fall (log 20) and the level kept during a reset (log 21). -/
def Obligations.FramesThatCarryNoOrder : Prop :=
  (∀ (l : Link) (s : State),
      ((s.link l).selectLow = false → s.held = false →
          exec (.selectFall l) s =
            .next (s.onLink l fun c =>
              { c with
                selectLow := true
                selecting := true
                output := some ((s.link l).buffer.getD { code := 0x00, status := .ok, data := [] })
                buffer := none }))
        ∧ ((s.link l).selectLow = false → s.held = true →
            exec (.selectFall l) s = .next (s.onLink l fun c => { c with selectLow := true }))
        ∧ ((s.link l).selectLow = true → exec (.selectFall l) s = .next s)
        ∧ ∀ (r : Reply) (i : Nat), (s.link l).output = some r →
            let body := r.code :: BitVec.ofNat 8 (statusCode r.status) :: BitVec.ofNat 8 r.data.length :: r.data
            s.dataOut l i = some ((body ++ [crc8 body]).getD i 0))
    ∧ (∀ (l : Link) (odd : Nat) (s : State), s.held = false → (s.link l).selecting = true →
        (s.link l).discarded ≤ 255 →
        let closed := s.onLink l fun c => { c with selectLow := false, selecting := false, output := none }
        exec (.orderFrame l [] odd) s = .next closed
          ∧ (∀ bytes : List Byte, bytes ≠ [] →
              (odd ≠ 0 ∨ bytes.length < 3 ∨ 24 < (bytes.getD 1 0).toNat ∨ bytes.length ≠ (bytes.getD 1 0).toNat + 3
                ∨ bytes.getLast? ≠ some (crc8 bytes.dropLast)) →
              exec (.orderFrame l bytes odd) s =
                .next (closed.onLink l fun c =>
                  { c with
                    discarded := min ((s.link l).discarded + 1) 255
                    buffer := some { code := bytes.headD 0, status := .frameError, data := [] } }))
          ∧ ∀ (bytes : List Byte) (code : Byte) (ops : List Byte) (st : Status),
              judgeFrame bytes odd = some (code, ops) → decodeOrder l code ops = .error st →
              exec (.orderFrame l bytes odd) s = .next ((closed.acceptFrame l code).answer l code st))
    ∧ (∀ (l : Link) (bytes : List Byte) (odd : Nat) (s : State), s.held = true ∨ (s.link l).selecting = false →
        exec (.orderFrame l bytes odd) s =
          .next (s.onLink l fun c => { c with selectLow := false, selecting := false, output := none }))
    ∧ ∀ (l : Link) (code : Byte) (ops : List Byte),
        let lengths : List (Nat × Nat) :=
          [(0x00, 0), (0x01, 0), (0x02, 2), (0x03, 3), (0x05, 1), (0x06, 0), (0x07, 0), (0x08, 0), (0x10, 0), (0x11, 2),
           (0x20, 12), (0x21, 1), (0x22, 1), (0x23, 1), (0x30, 3), (0x31, 1), (0x32, 1), (0x40, 1), (0x41, 1), (0x42, 1),
           (0x43, 1), (0x50, 0), (0x51, 0), (0x52, 0), (0x53, 0), (0x54, 0), (0x55, 0), (0x56, 0), (0x57, 0), (0x60, 0),
           (0x61, 0)]
        let operand (i : Nat) : Nat := (ops.getD i 0).toNat
        let listed : Prop :=
          (code = 0x02 → operand 0 < 8)
            ∧ (code = 0x03 ∨ code = 0x30 ∨ code = 0x31 ∨ code = 0x32 → 1 ≤ operand 0 ∧ operand 0 ≤ 6)
            ∧ (code = 0x30 → operand 2 ≤ 1)
            ∧ (code = 0x20 → operand 10 ≤ 6 ∨ 0x11 ≤ operand 10 ∧ operand 10 ≤ 0x1C ∨ operand 10 = 0x20)
        (code = 0x04 → decodeOrder l code ops = .ok (.loadData l ops))
          ∧ (code ≠ 0x04 → (∀ p ∈ lengths, p.1 ≠ code.toNat) → decodeOrder l code ops = .error .unknownOrder)
          ∧ ∀ p ∈ lengths, p.1 = code.toNat →
              (p.2 = ops.length → listed → ∃ i : Instr, decodeOrder l code ops = .ok i)
                ∧ (p.2 ≠ ops.length ∨ ¬ listed → decodeOrder l code ops = .error .badOperand)

/-! ### Frequency Regulator -/

/-- R1 to R5, R7, R16, R22, R23, R25, R35, R63: a reference crossing restarts the silence timing and ends the last-cycle
clause of the trip condition; a discarded cycle is counted, leaves the history, and sets that clause if it was above 60.00
Hz, and the fifth in a row declares waveform loss. Either begins a half-cycle with the levels set before it (log 9), sets the
next midpoint, half an odd period rounded down (log 7), takes committed ratings, has the timings judged, and then has the
head considered. That the head is considered last is log 6. -/
def Obligations.CycleThatIsNotValid : Prop :=
  ∀ (interval : Nat) (first : Sample) (rest : List Sample) (s : State), s.held = false →
    (s.reg.lastCrossing = none →
        Completes (.cycleCompletion interval first rest) s fun t =>
          t.reg.lastCrossing = some s.now ∧ t.reg.history = s.reg.history ∧ t.reg.validRun = s.reg.validRun
            ∧ t.reg.discardRun = s.reg.discardRun ∧ t.reg.overspeed = false ∧ t.reg.station = s.reg.station
            ∧ t = { s with reg := t.reg, alw := t.alw, transit := t.transit }
            ∧ ∃ u : State,
                t = u.consider ∧ CrossingTaken s u s.now false ∧ u.reg.discardRun = s.reg.discardRun
                  ∧ u.reg.validRun = s.reg.validRun)
      ∧ ∀ m : Nat, s.reg.lastCrossing = some m →
          cycleFrequency interval < 4000 ∨ 6000 < cycleFrequency interval →
          Completes (.cycleCompletion interval first rest) s fun t =>
            t.reg.lastCrossing = some (max s.now (m + interval)) ∧ t.reg.validRun = 0
              ∧ t.reg.overspeed = decide (6000 < cycleFrequency interval)
              ∧ (if s.reg.discardRun + 1 < 5 then
                  t.reg.discardRun = s.reg.discardRun + 1 ∧ t.reg.history = s.reg.history
                    ∧ t.reg.station = s.reg.station
                else t.reg.discardRun = 0 ∧ t.reg.history = [] ∧ t.reg.station = .black)
              ∧ t = { s with now := max s.now (m + interval), reg := t.reg, alw := t.alw, transit := t.transit }
              ∧ ∃ u : State,
                  t = (if s.reg.discardRun + 1 < 5 then u else u.waveformLoss).consider
                    ∧ CrossingTaken s u (max s.now (m + interval)) (decide (6000 < cycleFrequency interval))
                    ∧ u.reg.discardRun = s.reg.discardRun + 1 ∧ u.reg.validRun = 0

/-- R1, R2, R4 to R6, R8, R14, R22 to R25, R27, R35, R63, R120, R152, R153: a valid cycle. The regulator takes the cycle (v);
timings that a THRESHOLDS commit has overtaken expire and QUIET is judged; the figures are posted, the head is considered,
and a shed step between the marks is taken. The model's choices in it: the order of the blocks (log 6), the half-cycle
that begins with the levels set before it (log 9), half an odd period rounded down and BLACK's last crossing (log 7), the
thresholds taken before the conditions are judged (log 8), the runaway condition judged at each change of Bd (log 18), the
unit of a sample (log 3), a period of 0 measured as 1 (log 19), and the order of the seven reports of a change (log 38). -/
def Obligations.ValidCycle : Prop :=
  (∀ p : Nat, 0 < p → 2 * p * cycleFrequency p ≤ 200000000 + p ∧ 200000000 + p < 2 * p * (cycleFrequency p + 1))
    ∧ ∀ (interval : Nat) (first : Sample) (rest : List Sample) (s : State) (m : Nat),
        s.held = false → s.reg.lastCrossing = some m →
        4000 ≤ cycleFrequency interval → cycleFrequency interval ≤ 6000 →
        Completes (.cycleCompletion interval first rest) s fun t =>
          let f := cycleFrequency interval
          let th := s.set.tables.thresholds
          t.reg.lastCrossing = some (max s.now (m + interval)) ∧ t.reg.discardRun = 0 ∧ t.reg.overspeed = false
            ∧ t.reg.validRun = min (s.reg.validRun + 1) 8
            ∧ t.reg.history = (s.reg.history ++ [f]).drop (s.reg.history.length + 1 - 8)
            ∧ t.reg.lastPeriod = some interval
            ∧ t.reg.midpoint = some (max s.now (m + interval) + interval / 2)
            ∧ t.reg.inForce = th
            ∧ t.meas.pg = generatorFigure first rest ∧ t.meas.ps = sawFigure first rest
            ∧ t.meas.pb = ballastFigure first rest
            ∧ (s.reg.station = .black → t.reg.bd = s.reg.bd)
            ∧ (s.reg.station ≠ .black → t.reg.ratings = s.set.tables.channels.rating
                ∧ (s.reg.ratings = s.set.tables.channels.rating →
                    t.reg.bd =
                      min ((s.reg.bd : Int)
                        + Int.tdiv ((s.set.tables.channels.loopGain : Int) * ((f : Int) - 5000)) 10).toNat s.capacity))
            ∧ (s.reg.inForce = th → s.reg.station = .black →
                t.reg.station = if 7 ≤ s.reg.validRun then .warming else .black)
            ∧ (s.reg.inForce = th → s.reg.station = .runaway →
                t.reg.station = if t.filteredIs (fun g => g < th.runawayExit) then .regulating else .runaway)
            ∧ (s.reg.inForce = th →
                s.reg.station = .warming ∨ s.reg.station = .regulating ∨ s.reg.station = .deficit →
                t.reg.station = s.reg.station)
            ∧ t = { s with
                    now := max s.now (m + interval), reg := t.reg, alw := t.alw, fdr := t.fdr, saw := t.saw,
                    meas := t.meas, links := t.links, transit := t.transit }
            ∧ ∃ v : State,
                let black : Prop := s.reg.station = .black
                let same : Prop := s.reg.ratings = s.set.tables.channels.rating
                let step : Int := Int.tdiv ((s.set.tables.channels.loopGain : Int) * ((f : Int) - 5000)) 10
                let heldBd : Nat := if same then s.reg.bd else min s.reg.bd v.capacity
                let saturatedAtRatings : Bool :=
                  decide (s.reg.station = .regulating ∧ heldBd = v.capacity)
                    && v.filteredIs (fun g => th.runawayLevel < g)
                t = (((((if s.reg.inForce = th then v else v.expireReached).judgeQuiet).post (generatorFigure first rest)
                      (sawFigure first rest) (ballastFigure first rest)).consider).stepBetweenMarks)
                  ∧ v = { s with now := max s.now (m + interval), reg := v.reg, transit := v.transit }
                  ∧ v.reg.inForce = th ∧ v.reg.tripLatch = s.reg.tripLatch ∧ v.reg.lineEmpty = s.reg.lineEmpty
                  ∧ v.reg.history = (s.reg.history ++ [f]).drop (s.reg.history.length + 1 - 8)
                  ∧ v.reg.validRun = min (s.reg.validRun + 1) 8 ∧ v.reg.discardRun = 0 ∧ v.reg.overspeed = false
                  ∧ v.reg.lastCrossing = some (max s.now (m + interval)) ∧ v.reg.lastPeriod = some interval
                  ∧ v.reg.midpoint = some (max s.now (m + interval) + interval / 2)
                  ∧ v.reg.station =
                    (if black then (if 7 ≤ s.reg.validRun then .warming else .black)
                    else if s.reg.station = .runaway ∧ v.filteredIs (fun g => g < th.runawayExit) = true then .regulating
                    else s.reg.station)
                  ∧ (v.reg.station = s.reg.station → v.reg.reasons = s.reg.reasons ∧ v.transit = s.transit)
                  ∧ (v.reg.station ≠ s.reg.station → Enters s v v.reg.station .empty)
                  ∧ HalfCycleBegun s v
                  ∧ (black → v.reg.ratings = s.reg.ratings ∧ v.reg.bd = s.reg.bd)
                  ∧ (¬ black → v.reg.ratings = s.set.tables.channels.rating
                      ∧ v.reg.bd = min ((heldBd : Int) + step).toNat v.capacity)
                  ∧ (v.reg.station = .black → v.reg.levels = s.reg.levels)
                  ∧ (v.reg.station ≠ .black → v.reg.levels = levelsFor v.reg.bd v.reg.ratings)
                  ∧ (RegulatorTimingsLaw s →
                      TimingsJudged
                        (if same then s
                         else
                           { s with
                             reg :=
                               { s.reg with runaway := judgedTiming s.reg.runaway saturatedAtRatings v.clock } }) v)

/-- R22, R23: the negative half-cycle begins: outside BLACK each channel adds its level to its count, and conducts and takes
64 off where the sum reaches 64; in BLACK the pattern is not stepped. -/
def Obligations.HalfCycleStepsThePattern : Prop :=
  ∀ (s : State) (m : Nat), s.held = false → s.reg.midpoint = some m →
    Completes .halfCycleMidpoint s fun t =>
      (s.reg.station ≠ .black → ∀ i : Fin 4,
          t.reg.conducting[i] = decide (64 ≤ s.reg.counts[i] + s.reg.levels[i])
            ∧ t.reg.counts[i] =
              if 64 ≤ s.reg.counts[i] + s.reg.levels[i] then s.reg.counts[i] + s.reg.levels[i] - 64
              else s.reg.counts[i] + s.reg.levels[i])
        ∧ (s.reg.station = .black → t.reg.conducting = s.reg.conducting ∧ t.reg.counts = s.reg.counts)
        ∧ t = { s with
                now := max s.now m
                reg := { s.reg with midpoint := none, conducting := t.reg.conducting, counts := t.reg.counts } }

/-- R3, R7, R31: 100 ms of silence: the history is emptied, both runs are 0 and the next crossing is a reference crossing; a
station not BLACK enters BLACK at full ballast, with no reason, and the change is reported, in the model's order (log 38). -/
def Obligations.SilenceDeclaresWaveformLoss : Prop :=
  ∀ (s : State) (m : Nat), s.held = false → s.reg.lastCrossing = some m →
    Completes .silenceExpiry s fun t =>
      t.reg.history = [] ∧ t.reg.discardRun = 0 ∧ t.reg.validRun = 0 ∧ t.reg.lastCrossing = none
        ∧ t.reg.station = .black ∧ t.reg.tripLatch = s.reg.tripLatch
        ∧ (s.reg.station = .black → t.transit = s.transit ∧ t.reg.bd = s.reg.bd ∧ t.reg.levels = s.reg.levels)
        ∧ (s.reg.station ≠ .black →
            Enters s t .black .empty ∧ t.reg.ratings = s.set.tables.channels.rating ∧ t.reg.bd = t.capacity
              ∧ t.reg.levels = #v[64, 64, 64, 64] ∧ t.reg.counts = #v[0, 0, 0, 0]
              ∧ t.reg.conducting = #v[true, true, true, true] ∧ t.reg.quiet = false)
        ∧ t = { s with now := max s.now (m + 100000), reg := t.reg, transit := t.transit }
        ∧ t = State.waveformLoss { s with now := max s.now (m + 100000), reg := { s.reg with lastCrossing := none } }

/-- R5, R6, R9, R10, R12, R13, R15: the state that follows the expiry of each timing of the station state machine, by the
station state; that the expiry of one that does not run does nothing (log 20); and which timings expire at the test after a
THRESHOLDS commit. That a shed or fast timing that runs out in RUNAWAY only becomes complete is log 17, and the order of the
seven reports of a change is log 38. -/
def Obligations.TimingsMoveTheStation : Prop :=
  (∀ s : State, s.held = false →
      let stopped (t : Timing) (i : Instr) : Prop := (∀ since : Nat, t ≠ .running since) → exec i s = .next s
      let reached (t : Timing) (delay : Nat) (i : Instr) : List Instr :=
        if ∃ since ∈ t.start?, since + delay ≤ s.clock then [i] else []
      let th := s.reg.inForce
      let due : List Instr :=
        reached s.reg.trip (10 * th.tripDelay) .tripTimingExpiry
          ++ reached s.reg.warmBand (100 * th.warmUp) .warmBandExpiry
          ++ reached s.reg.shed (10 * th.shedDelay) .shedTimingExpiry
          ++ reached s.reg.fast (10 * th.fastDelay) .fastTimingExpiry
          ++ reached s.reg.recovery (10 * th.recoveryTime) .recoveryTimingExpiry
          ++ reached s.reg.runaway (10 * th.runawayDelay) .runawayTimingExpiry
      stopped s.reg.warmBand .warmBandExpiry ∧ stopped s.reg.shed .shedTimingExpiry
        ∧ stopped s.reg.fast .fastTimingExpiry ∧ stopped s.reg.recovery .recoveryTimingExpiry
        ∧ stopped s.reg.runaway .runawayTimingExpiry ∧ stopped s.reg.trip .tripTimingExpiry
        ∧ (due = [] → s.expireReached = s)
        ∧ (0 < th.tripDelay → 0 < th.warmUp → 0 < th.shedDelay → 0 < th.fastDelay → 0 < th.recoveryTime →
            0 < th.runawayDelay → ∀ i : Instr, due = [i] → exec i s = .next s.expireReached))
  ∧ ∀ (s : State) (since : Nat), s.held = false →
    let at_ (delay : Nat) (reg : Regulator) : State := { s with now := max s.now ((since + delay) * 10000), reg := reg }
    let raised (u : State) : State :=
      if s.reg.station = .regulating then stationEntered u .deficit { s.reg.reasons with frequency := true }
      else if s.reg.station = .deficit then
        { u with reg := { u.reg with reasons := { s.reg.reasons with frequency := true } } }
      else u
    (s.reg.warmBand = .running since → s.reg.station = .warming →
        exec .warmBandExpiry s =
          .next (stationEntered (at_ (100 * s.reg.inForce.warmUp) { s.reg with warmBand := .complete since }) .regulating
            .empty))
      ∧ (s.reg.shed = .running since →
          exec .shedTimingExpiry s =
            .next (raised (at_ (10 * s.reg.inForce.shedDelay) { s.reg with shed := .complete since })))
      ∧ (s.reg.fast = .running since →
          exec .fastTimingExpiry s =
            .next (raised (at_ (10 * s.reg.inForce.fastDelay) { s.reg with fast := .complete since })))
      ∧ (s.reg.recovery = .running since →
          let u := at_ (10 * s.reg.inForce.recoveryTime) { s.reg with recovery := .complete since }
          let leaves : Prop := s.reg.station = .deficit ∧ s.reg.reasons.budget = false
          (leaves → exec .recoveryTimingExpiry s = .next (stationEntered u .regulating .empty))
            ∧ (¬ leaves → exec .recoveryTimingExpiry s = .next u))
      ∧ (s.reg.runaway = .running since → s.reg.station = .regulating →
          exec .runawayTimingExpiry s =
            .next (stationEntered (at_ (10 * s.reg.inForce.runawayDelay) { s.reg with runaway := .complete since }) .runaway
              .empty))

/-- R16, R17: the trip timing's expiry sets the TRIP latch, and TRIP is added to every link's set if it was clear; ACK TRIP
clears it, from L1 and not in RUNAWAY, and restarts the trip timing. -/
def Obligations.TripLatchAndItsOrder : Prop :=
  ∀ s : State, s.held = false →
    (∀ since : Nat, s.reg.trip = .running since →
        exec .tripTimingExpiry s =
          .next
            { s with
              now := max s.now ((since + 10 * s.reg.inForce.tripDelay) * 10000)
              reg := { s.reg with trip := .complete since, tripLatch := true }
              links := if s.reg.tripLatch then s.links else (s.addNotices [.l1, .l2, .l3] .trip).links })
      ∧ (∀ l : Link, l ≠ .l1 → AnsweredOnly (.ackTrip l) l 0x10 .notYourField s)
      ∧ (s.reg.station = .runaway → AnsweredOnly (.ackTrip .l1) .l1 0x10 .wrongState s)
      ∧ (s.reg.station ≠ .runaway → s.reg.tripLatch = false → AnsweredOnly (.ackTrip .l1) .l1 0x10 .ok s)
      ∧ (s.reg.station ≠ .runaway → s.reg.tripLatch = true →
          exec (.ackTrip .l1) s =
            .next (State.answer
              { s.arrive (.ackTrip .l1) with
                reg :=
                  { s.reg with
                    tripLatch := false
                    trip := if s.tripCondition then .running s.clock else .stopped } } .l1 0x10 .ok))

/-- R11, R12, R18, R75: a BUDGET raise takes REGULATING and RUNAWAY into DEFICIT, joins the set in DEFICIT, and is discarded
in BLACK and WARMING; a BUDGET clear leaves the set in DEFICIT, which the station leaves at once if the recovery timing is
complete. A report of the Lead Line tells whether it is empty, and QUIET is judged: asserted while the station is REGULATING,
the line is empty and the filtered frequency is from 49.80 to 50.20 Hz. The order of the seven reports of a change is log 38. -/
def Obligations.RequestsAndReportsAtTheRegulator : Prop :=
  (∀ s : State, s.held = false →
      let arrived (i : Instr) : State := s.arrive i
      Completes .budgetRaiseRequest s (fun t =>
          (s.reg.station = .regulating ∨ s.reg.station = .runaway →
              Enters (arrived .budgetRaiseRequest) t .deficit { s.reg.reasons with budget := true }
                ∧ t = { s with reg := t.reg, transit := t.transit })
            ∧ (s.reg.station = .deficit →
                t = { arrived .budgetRaiseRequest with
                      reg := { s.reg with reasons := { s.reg.reasons with budget := true } } })
            ∧ (s.reg.station = .black ∨ s.reg.station = .warming → t = arrived .budgetRaiseRequest))
        ∧ Completes .budgetClearRequest s (fun t =>
            (s.reg.station = .deficit → s.reg.recovery.isComplete = true →
                Enters (arrived .budgetClearRequest) t .regulating .empty
                  ∧ t = { s with reg := t.reg, transit := t.transit })
              ∧ (s.reg.station = .deficit → s.reg.recovery.isComplete = false →
                  t = { arrived .budgetClearRequest with
                        reg := { s.reg with reasons := { s.reg.reasons with budget := false } } })
              ∧ (s.reg.station ≠ .deficit → t = arrived .budgetClearRequest)))
    ∧ (∀ (r : LineReport) (s : State), s.held = false →
        exec (.leadLineReport r) s =
          .next
            { s.arrive (.leadLineReport r) with
              reg :=
                { s.reg with
                  lineEmpty := decide (r = .empty)
                  quiet :=
                    decide (s.reg.station = .regulating ∧ r = .empty)
                      && s.filteredIs (fun f => 4980 ≤ f && f ≤ 5020) } })

/-- R24, R25, R28, R29, R31: a down step takes its amount from Bd and an up step adds it, each clamped to 0 and the capacity
and shared out; in BLACK it is discarded. And the levels that share out a demand: each channel is filled to its rating before
the next is given anything, an absent channel is at level 0, and a present one at 64 times its part of its rating to the
nearest, a half upward. -/
def Obligations.FeedForwardStepsAndLevels : Prop :=
  (∀ (amount : Nat) (s : State), s.held = false →
      Completes (.downStep amount) s (fun t =>
          (s.reg.station ≠ .black →
              t.reg.bd = min (s.reg.bd - amount) s.capacity ∧ t.reg.levels = levelsFor t.reg.bd s.reg.ratings
                ∧ t.reg.ratings = s.reg.ratings ∧ t.reg.counts = s.reg.counts ∧ t.reg.station = s.reg.station)
            ∧ (s.reg.station = .black → t.reg = s.reg)
            ∧ t = { s.arrive (.downStep amount) with reg := t.reg })
        ∧ Completes (.upStep amount) s (fun t =>
            (s.reg.station ≠ .black →
                t.reg.bd = min (s.reg.bd + amount) s.capacity ∧ t.reg.levels = levelsFor t.reg.bd s.reg.ratings
                  ∧ t.reg.ratings = s.reg.ratings ∧ t.reg.counts = s.reg.counts ∧ t.reg.station = s.reg.station)
              ∧ (s.reg.station = .black → t.reg = s.reg)
              ∧ t = { s.arrive (.upStep amount) with reg := t.reg }))
    ∧ (∀ (bd : Nat) (r : Vector Nat 4),
        let before (i : Fin 4) : Nat := ((r.toList).take i.val).sum
        let part (i : Fin 4) : Nat := min (bd - before i) r[i]
        ∀ i : Fin 4,
          (r[i] = 0 → (levelsFor bd r)[i] = 0)
            ∧ (0 < r[i] → 2 * r[i] * (levelsFor bd r)[i] ≤ 128 * part i + r[i]
                ∧ 128 * part i + r[i] < 2 * r[i] * ((levelsFor bd r)[i] + 1)))

/-- R110, R112, R145, R146: every step keeps the contactor timings running exactly while a driven level and a feedback ask
for them and the feeder or the saw is not in FAULT. -/
def Obligations.StepKeepsContactorTimings : Prop :=
  ∀ s t : State, step s = .next t → ClaimTableLaws s → FeederLaws s → SawCommandsLaw s → ContactorTimingsLaw s →
    ContactorTimingsLaw t

/-! ### Allowance Unit -/

/-- R42, R45, R50: a claim is let go by the state it leaves: it leaves the queue, or its mark leaves the line with the empty
report if it was the last, or an up step of its committed amount is sent; it is FREE with the outcome, its output is open,
CLAIM_ENDED is added to its holder's set unless its own side ended it, and a FREE claim is not touched. -/
def Obligations.LettingAClaimGo : Prop :=
  ∀ (s : State) (n : Fin 24) (o : Ending),
    let c := s.claim n
    let rest := s.alw.line.filter fun m => m.claim ≠ n
    let sent : List Instr :=
      if c.state = .carried then [.upStep c.committed]
      else if c.state = .pending ∧ s.alw.line ≠ [] ∧ rest = [] then [.leadLineReport .empty] else []
    (c.state = .free → s.letGo n o = s)
      ∧ (c.state ≠ .free →
          s.letGo n o =
              { s with
                alw :=
                  { s.alw with
                    claims := s.alw.claims.set n
                      { c with state := .free, waitDeadline := none, dueTime := none, surgeEnd := none, last := o }
                    queue := if c.state = .waiting then s.alw.queue.erase n else s.alw.queue
                    line := if c.state = .pending then rest else s.alw.line }
                links :=
                  if o = .withdrawn ∨ o = .released then s.links else (s.addNotice (holderOf n) .claimEnded).links
                transit := s.transit ++ sent }
            ∧ (s.letGo n o).carryEnable n = false
            ∧ ∀ x : Fin 6, OutputsHeldOnce s → c.binding = .aux x → (s.letGo n o).auxClosed x = false)

/-- R37, R63 to R67, R73, R75: a consideration admits the head when the station as last reported is REGULATING or RUNAWAY,
STALE is clear, the line holds fewer than 4 marks, and both the band fit test and the water test pass at its full amount;
then the next head is considered. Otherwise nothing changes. The water test takes the Bc that the feed-forward steps which
have been sent and not yet taken will leave (log 29), so that the arrival of the oldest of them changes nothing for it. -/
def Obligations.ConsiderationAdmitsTheHead : Prop :=
  (∀ s : State,
      let step (bd : Nat) (i : Instr) : Nat :=
        match i with
        | .downStep a => min (bd - a) s.capacity
        | .upStep a => min (bd + a) s.capacity
        | _ => bd
      let sent : Prop := ∃ a : Nat, .downStep a ∈ s.transit ∨ .upStep a ∈ s.transit
      (¬ sent ∨ s.reg.station = .black → s.waterBc = s.bc)
        ∧ (sent → s.reg.station ≠ .black →
            s.waterBc = computedBallast (levelsFor (s.transit.foldl step s.reg.bd) s.reg.ratings) s.reg.ratings)
        ∧ ∀ (before after : List Instr) (a : Nat), s.held = false → s.reg.station ≠ .black →
            (∀ b : Nat, .downStep b ∉ before ∧ .upStep b ∉ before) →
            (s.transit = before ++ .downStep a :: after → Completes (.downStep a) s fun t => t.waterBc = s.waterBc)
              ∧ (s.transit = before ++ .upStep a :: after → Completes (.upStep a) s fun t => t.waterBc = s.waterBc))
  ∧ ∀ s : State,
    (s.alw.queue = [] → s.consider = s)
      ∧ ∀ (n : Fin 24) (rest : List (Fin 24)), s.alw.queue = n :: rest →
          let c := s.claim n
          let b := s.alw.bands
          let extra (g : Group) : Nat := if groupOf n = g then c.amount else 0
          let passes : Prop :=
            (s.reported = .regulating ∨ s.reported = .runaway) ∧ s.alw.stale = false ∧ s.alw.line.length < 4
              ∧ (s.hSum + extra .hamlet - b.h) + (s.wSum + extra .saw - b.w) + (s.sSum + extra .supply) ≤ b.c
              ∧ c.amount ≤ min s.waterBc s.meas.pb - s.set.tables.channels.reserveFloor - (s.alw.line.map Mark.amount).sum
          let due := placeMark (s.clock + 10 * c.leadTime) s.alw.line
          (¬ passes → s.consider = s)
            ∧ (passes →
                s.consider =
                  State.consider
                    { s with
                      alw :=
                        { s.alw with
                          claims :=
                            s.alw.claims.set n { c with state := .pending, waitDeadline := none, dueTime := some due }
                          queue := rest
                          line := insertMark { claim := n, due := due, amount := c.amount } s.alw.line }
                      transit :=
                        s.transit ++ admissionReport n
                          ++ if s.alw.line = [] then [.leadLineReport .firstMark] else [] })

/-- R70, R71: a new mark is placed at the earliest time at or after its candidate that is at least 250 ms from every mark on
the line, less than 1.5 s later, and the line stays in order with every mark it held. -/
def Obligations.MarkIsPlacedAtTheEarliestTime : Prop :=
  ∀ (candidate : Nat) (line : List Mark), line.Pairwise (fun a b => a.due + 25 ≤ b.due) →
    let apart (t : Nat) : Prop := ∀ m ∈ line, m.due + 25 ≤ t ∨ t + 25 ≤ m.due
    let due := placeMark candidate line
    candidate ≤ due ∧ apart due ∧ (∀ t : Nat, candidate ≤ t → apart t → due ≤ t)
      ∧ (line.length ≤ 3 → due < candidate + 150)
      ∧ ∀ mark : Mark, mark.due = due →
          (insertMark mark line).Perm (mark :: line)
            ∧ (insertMark mark line).Pairwise fun a b => a.due + 25 ≤ b.due

/-- R43 to R49: CLAIM is checked in the order R46 gives, each failing check answered with its status and changing nothing
else; one that passes is accepted. A claim that is accepted, of a station or of a block, is written, is WAITING at the tail
of the queue with its wait deadline, and is considered if it is the head; and a claim request from a block is checked in the
order R49 gives, WRONG_STATE also answering it while an end request sent for the claim has still to be taken (R106). -/
def Obligations.ClaimIsCheckedAndAccepted : Prop :=
  (∀ (l : Link) (o : ClaimOperands) (s : State), s.held = false →
      let refused (st : Status) : Prop := AnsweredOnly (.claim l o) l 0x20 st s
      (s.reported = .black → refused .stationBlack)
        ∧ (s.reported ≠ .black → (∀ m ∈ freeClaims l, m.val ≠ o.number) → refused .notYourField)
        ∧ ∀ n ∈ freeClaims l, n.val = o.number → s.reported ≠ .black →
            let sound : Prop :=
              1 ≤ o.amount ∧ o.amount ≤ 9999
                ∧ (o.runAmount = none ∧ o.surgeTime = none
                    ∨ ∃ r t : Nat, o.runAmount = some r ∧ o.surgeTime = some t ∧ r ≤ o.amount ∧ 1 ≤ t ∧ t ≤ 600)
                ∧ o.leadTime ≤ 50 ∧ (∀ w : Nat, o.waitLimit = some w → 1 ≤ w ∧ w ≤ 300)
                ∧ (o.binding = .nothing
                    ∨ ∃ x : Fin 6, o.binding = .aux x
                        ∧ (n.val < 4 ∧ x.val < 2 ∨ 4 ≤ n.val ∧ n.val < 10 ∧ (x = 2 ∨ x = 3) ∨ 10 ≤ n.val ∧ 4 ≤ x.val))
            let busy : Prop :=
              ∃ (m : Fin 24) (x : Fin 6), (s.claim m).state ≠ .free ∧ (s.claim m).binding = .aux x ∧ o.binding = .aux x
            ((s.claim n).state ≠ .free → refused .wrongState)
              ∧ ((s.claim n).state = .free → ¬ sound → refused .badOperand)
              ∧ ((s.claim n).state = .free → sound → busy → refused .outputBusy)
              ∧ ((s.claim n).state = .free → sound → ¬ busy → 4 ≤ s.alw.queue.length → refused .queueFull)
              ∧ ((s.claim n).state = .free → sound → ¬ busy → s.alw.queue.length < 4 →
                  exec (.claim l o) s =
                    .next (((s.arrive (.claim l o)).acceptClaim n o.amount o.runAmount o.surgeTime o.leadTime o.waitLimit
                      o.binding o.tag).answer l 0x20 .ok)))
    ∧ (∀ (s : State) (n : Fin 24) (amount leadTime tag : Nat) (run surge wait : Option Nat) (b : Binding),
        let waiting : State :=
          { s with
            alw :=
              { s.alw with
                claims := s.alw.claims.set n
                  { state := .waiting, amount := amount, runAmount := run, surgeEnded := if run.isSome then some false else none
                    surgeTime := surge, leadTime := leadTime, waitLimit := wait, binding := b, tag := tag
                    waitDeadline := some (s.clock + 10 * wait.getD 300), dueTime := none, surgeEnd := none
                    last := (s.claim n).last }
                queue := s.alw.queue ++ [n] } }
        s.acceptClaim n amount run surge leadTime wait b tag = (if s.alw.queue = [] then waiting.consider else waiting)
          ∧ s.claimRequestStatus n amount run =
              if s.reported = .black then .stationBlack
              else if (s.claim n).state ≠ .free ∨ s.endAwaits n = true then .wrongState
              else if amount = 0 ∨ amount < run.getD 0 then .badOperand
              else if 4 ≤ s.alw.queue.length then .queueFull else .ok)
    ∧ ∀ (s : State) (n : Fin 24), s.endAwaits n = true ↔ ∃ o : Ending, .endRequest n o ∈ s.transit

/-- R43, R51, R52: WITHDRAW gives up a free claim of the sender that is WAITING or PENDING; RELEASE lets a CARRIED one go,
its bound output open and its committed amount stepped up; otherwise each is refused and changes nothing. -/
def Obligations.WithdrawAndReleaseOfAFreeClaim : Prop :=
  (∀ (l : Link) (k : Nat) (s : State), s.held = false →
      let refused (st : Status) : Prop := AnsweredOnly (.withdraw l k) l 0x21 st s
      ((∀ m ∈ freeClaims l, m.val ≠ k) → refused .notYourField)
        ∧ ∀ n ∈ freeClaims l, n.val = k →
            ((s.claim n).state = .waiting ∨ (s.claim n).state = .pending →
                exec (.withdraw l k) s =
                  .next (((s.arrive (.withdraw l k)).endClaim n .withdrawn).answer l 0x21 .ok))
              ∧ ((s.claim n).state = .carried ∨ (s.claim n).state = .free → refused .wrongState))
    ∧ (∀ (l : Link) (k : Nat) (s : State), s.held = false →
        let refused (st : Status) : Prop := AnsweredOnly (.release l k) l 0x22 st s
        ((∀ m ∈ freeClaims l, m.val ≠ k) → refused .notYourField)
          ∧ ∀ n ∈ freeClaims l, n.val = k →
              let a := s.arrive (.release l k)
              ((s.claim n).state = .carried →
                  exec (.release l k) s = .next ((a.endClaim n .released).answer l 0x22 .ok)
                    ∧ (a.letGo n .released).transit = a.transit ++ [.upStep (s.claim n).committed]
                    ∧ ∀ x : Fin 6, OutputsHeldOnce s → (s.claim n).binding = .aux x → (a.letGo n .released).auxClosed x = false)
                ∧ ((s.claim n).state ≠ .carried → refused .wrongState))

/-- R53: an end request lets its claim go, whatever its state, with the outcome it names, and has no effect on a FREE one.
The contactor timings that the claim's carry enable may have changed are judged again. -/
def Obligations.EndRequestLetsItsClaimGo : Prop :=
  ∀ (n : Fin 24) (o : Ending) (s : State), s.held = false →
    let a := s.arrive (.endRequest n o)
    ((s.claim n).state ≠ .free → exec (.endRequest n o) s = .next ((a.endClaim n o).sync))
      ∧ ((s.claim n).state = .free → exec (.endRequest n o) s = .next a)

/-- R54, R55, R68, R69: at the expiry of a wait deadline the claim leaves the queue, FREE with EXPIRED, its owning block is
told, and a new head is considered. At a surge end the committed amount falls to the run amount, the difference is stepped
up, and the head is considered, after the budget check in DEFICIT. An expiry or a surge end request that finds its claim in
another state has no effect. -/
def Obligations.ExpiriesOfWaitsAndSurges : Prop :=
  (∀ (n : Fin 24) (s : State), s.held = false →
      (∀ t : Nat, (s.claim n).state = .waiting → (s.claim n).waitDeadline = some t →
          let base : State := { s with now := max s.now (t * 10000) }
          let u := (base.letGo n .expired).sendAll (endingReport n .expired)
          exec (.waitExpiry n) s = .next (if s.alw.queue.head? = some n then u.consider else u))
        ∧ ((s.claim n).state ≠ .waiting → exec (.waitExpiry n) s = .next s))
    ∧ (∀ s : State, s.held = false →
        let ended (base : State) (n : Fin 24) (run : Nat) : State :=
          let c := s.claim n
          let t : State :=
            { base with
              alw := { s.alw with claims := s.alw.claims.set n { c with surgeEnded := some true, surgeEnd := none } }
              transit := base.transit ++ [.upStep (c.amount - run)] }
          (if s.reported = .deficit then t.budgetCheck else t).consider
        (∀ (n : Fin 24) (t run : Nat), (s.claim n).state = .carried → (s.claim n).surgeEnd = some t →
            (s.claim n).runAmount = some run →
            exec (.surgeExpiry n) s = .next (ended { s with now := max s.now (t * 10000) } n run))
          ∧ (∀ n : Fin 24, (s.claim n).state ≠ .carried ∨ (s.claim n).surgeEnd = none →
              exec (.surgeExpiry n) s = .next s)
          ∧ (∀ run : Nat, (s.claim 4).state = .carried → (s.claim 4).surgeEnded = some false →
              (s.claim 4).runAmount = some run →
              exec .surgeEndRequest s = .next (ended (s.arrive .surgeEndRequest) 4 run))
          ∧ ((s.claim 4).state ≠ .carried ∨ (s.claim 4).surgeEnded ≠ some false →
              exec .surgeEndRequest s = .next (s.arrive .surgeEndRequest)))

/-- R72, R73, R75: the due event: the mark leaves the line, its amount is stepped down, the claim is CARRIED and its surge
timer runs if it has a surge time, its owning block or its holder is told, and the head is considered. -/
def Obligations.DueEventConnectsTheLoad : Prop :=
  ∀ (n : Fin 24) (s : State), s.held = false →
    (∀ m : Mark, s.alw.line.find? (fun x => x.claim = n) = some m →
        let c := s.claim n
        let base : State := { s with now := max s.now (m.due * 10000) }
        let rest := s.alw.line.filter fun x => x.claim ≠ n
        exec (.dueEvent n) s =
          .next (State.sync (State.consider
            { base with
              alw :=
                { s.alw with
                  claims := s.alw.claims.set n
                    { c with
                      state := .carried
                      dueTime := none
                      surgeEnd := c.surgeTime.map fun t => base.clock + 10 * t }
                  line := rest }
              links := (s.addNotice (holderOf n) .claimDue).links
              transit :=
                s.transit ++ [.downStep m.amount] ++ carriedReport n
                  ++ if rest = [] then [.leadLineReport .empty] else [] })))
      ∧ (s.alw.line.find? (fun x => x.claim = n) = none → exec (.dueEvent n) s = .next s)
      ∧ (n.val < 4 ∨ 6 ≤ n.val ∧ n.val < 12 → ∀ o : Ending,
          admissionReport n = [] ∧ carriedReport n = [] ∧ endingReport n o = [])
      ∧ (∀ o : Ending, carriedReport 4 = [.sawCarriedReport .motor] ∧ carriedReport 5 = [.sawCarriedReport .carriage]
          ∧ admissionReport 4 = [.sawAdmissionReport .motor] ∧ admissionReport 5 = [.sawAdmissionReport .carriage]
          ∧ endingReport 4 o = [.sawEndingReport .motor o] ∧ endingReport 5 o = [.sawEndingReport .carriage o])
      ∧ ∀ (k : Fin 12) (o : Ending), n.val = 12 + k.val →
          admissionReport n = [.feederAdmissionReport k] ∧ carriedReport n = [.feederCarriedReport k]
            ∧ endingReport n o = [.feederEndingReport k o]

/-- R84, R86: DECLARE is checked in order and refused without effect; one that passes replaces the declaration, clears STALE,
divides it into bands, makes the budget check and has the head considered. -/
def Obligations.DeclareReplacesTheDeclaration : Prop :=
  ∀ (d : Nat) (s : State), s.held = false →
    (∀ l : Link, l ≠ .l1 → AnsweredOnly (.declare l d) l 0x11 .notYourField s)
      ∧ (s.reported = .black → AnsweredOnly (.declare .l1 d) .l1 0x11 .stationBlack s)
      ∧ (s.reported ≠ .black → 9999 < d → AnsweredOnly (.declare .l1 d) .l1 0x11 .badOperand s)
      ∧ (s.reported ≠ .black → d ≤ 9999 →
          let h := min s.set.tables.bands.hres d
          let w := min s.set.tables.bands.wres (d - h)
          let declared : State :=
            { s.arrive (.declare .l1 d) with
              alw := { s.alw with d := d, stale := false, bands := { h := h, w := w, c := d - h - w } } }
          exec (.declare .l1 d) s = .next ((declared.budgetCheck.consider).answer .l1 0x11 .ok))

/-- R50, R63, R87, R88: the budget check: a raise is sent when the common need exceeds the common band and none stands, a
clear when it does not and one stands. What follows a claim's return to FREE: the head is considered if a new claim became
the head, a mark left the line or a carried claim was released, after the budget check of a committed claim's return in
DEFICIT. -/
def Obligations.BudgetCheckAndWhatFollowsAnEnding : Prop :=
  (∀ s : State,
      let b := s.alw.bands
      let need := (s.hSum - b.h) + (s.wSum - b.w) + s.sSum
      let marked (mark : Bool) (i : Instr) : State :=
        { s with alw := { s.alw with budgetRaised := mark }, transit := s.transit ++ [i] }
      (b.c < need → s.alw.budgetRaised = false → s.budgetCheck = marked true .budgetRaiseRequest)
        ∧ (need ≤ b.c → s.alw.budgetRaised = true → s.budgetCheck = marked false .budgetClearRequest)
        ∧ (b.c < need → s.alw.budgetRaised = true → s.budgetCheck = s)
        ∧ (need ≤ b.c → s.alw.budgetRaised = false → s.budgetCheck = s)
        ∧ s.hSum = ((List.range 24).map fun i => if h : i < 24 ∧ 10 ≤ i then (s.claim ⟨i, h.1⟩).committed else 0).sum
        ∧ s.wSum = ((List.range 10).map fun i => if h : i < 10 ∧ 4 ≤ i then (s.claim ⟨i, by omega⟩).committed else 0).sum
        ∧ s.sSum = (s.claim 0).committed + (s.claim 1).committed + (s.claim 2).committed + (s.claim 3).committed)
    ∧ (∀ (s : State) (n : Fin 24) (o : Ending),
        let t := s.letGo n o
        let checked := if s.reported = .deficit then t.budgetCheck else t
        ((s.claim n).state = .free → s.endClaim n o = s)
          ∧ ((s.claim n).state = .waiting →
              s.endClaim n o = if s.alw.queue.head? = some n then t.consider else t)
          ∧ ((s.claim n).state = .pending ∨ (s.claim n).state = .carried → s.endClaim n o = checked.consider))

/-- R77 to R80, R85, R88, R125: the report of a station change at the Allowance Unit: entry to BLACK lets every claim go with
CANCELLED, sets STALE and drops the budget mark, and sends the up steps, the ending reports and the empty report alone; entry
to DEFICIT cancels every mark, but for one that the end request of a shed step is on its way to, which ends with SHED and no
ending report (log 34); entry to REGULATING or RUNAWAY has the head considered; entry to WARMING does nothing. Nothing is said
of the order in which the claims and marks are taken, which is the model's (log 31), nor of how many BUDGET requests go out in
DEFICIT (log 25). -/
def Obligations.StationChangeAtTheClaims : Prop :=
  ∀ (r : StateReport) (s : State), s.held = false → ClaimTableLaws s →
    let u : State :=
      { s.arrive (.allowanceStateReport r) with
        alw := { s.alw with lastReport := { state := r.entered, reasons := r.reasons } } }
    let ended (n : Fin 24) (o : Ending) : Claim :=
      { s.claim n with state := .free, waitDeadline := none, dueTime := none, surgeEnd := none, last := o }
    let noticed (t : State) (n : Fin 24) : Prop := (t.link (holderOf n)).notices &&& Notice.claimEnded.bit ≠ 0
    let shedSent (n : Fin 24) : Prop := .endRequest n .shed ∈ s.transit
    let emptied : List Instr := if s.alw.line = [] then [] else [.leadLineReport .empty]
    let frame (t : State) : Prop :=
      t = { u with alw := t.alw, links := t.links, transit := t.transit, fdr := t.fdr, saw := t.saw }
        ∧ t.saw.state = s.saw.state ∧ (∀ k : Fin 12, (t.feeder k).state = (s.feeder k).state)
        ∧ ∀ l : Link, t.link l = { s.link l with notices := (t.link l).notices }
    (r.entered = .regulating ∨ r.entered = .runaway → exec (.allowanceStateReport r) s = .next u.consider)
      ∧ (r.entered = .warming → exec (.allowanceStateReport r) s = .next u)
      ∧ (r.entered = .deficit →
          Completes (.allowanceStateReport r) s fun t =>
            t.alw = { u.alw with claims := t.alw.claims, line := [], budgetRaised := t.alw.budgetRaised }
              ∧ (t.alw.budgetRaised = false ↔ t.need ≤ t.alw.bands.c)
              ∧ (∀ n : Fin 24, (s.claim n).state = .pending → noticed t n
                  ∧ (¬ shedSent n → t.claim n = ended n .cancelled) ∧ (shedSent n → t.claim n = ended n .shed))
              ∧ (∀ n : Fin 24, (s.claim n).state ≠ .pending → t.claim n = s.claim n)
              ∧ (∃ sent : List Instr,
                  t.transit = u.transit.diff (s.alw.line.map fun m => .endRequest m.claim .shed) ++ sent
                    ∧ (sent.filter fun i => i ≠ .budgetRaiseRequest ∧ i ≠ .budgetClearRequest).Perm
                      ((s.alw.line.flatMap fun m =>
                          if .endRequest m.claim .shed ∈ s.transit then [] else endingReport m.claim .cancelled) ++ emptied))
              ∧ frame t)
      ∧ (r.entered = .black →
          Completes (.allowanceStateReport r) s fun t =>
            t.alw =
                { u.alw with claims := t.alw.claims, queue := [], line := [], stale := true, budgetRaised := false }
              ∧ (∀ n : Fin 24, (s.claim n).state ≠ .free → t.claim n = ended n .cancelled ∧ noticed t n)
              ∧ (∀ n : Fin 24, (s.claim n).state = .free → t.claim n = s.claim n)
              ∧ (∃ sent : List Instr,
                  t.transit = u.transit ++ sent
                    ∧ sent.Perm
                      ((allClaims.flatMap fun n =>
                          (if (s.claim n).state = .carried then [.upStep (s.claim n).committed] else [])
                            ++ if (s.claim n).state = .free then [] else endingReport n .cancelled) ++ emptied))
              ∧ frame t)

/-- R59, R75, R85, R88: the loss of a link lets its free claims that wait or stand on the line go with LINK_LOST, keeps its
carried ones and every block claim, sets STALE when it is L1, and has the head considered if a new claim is the head or a
mark left. The empty report goes out if the last mark left, and in DEFICIT the budget is checked where a mark left. That the
head is considered once, after all the endings, is the model's reading (log 10). -/
def Obligations.LinkLossAtTheClaims : Prop :=
  ∀ (l : Link) (s : State), s.held = false → ClaimTableLaws s →
    let lost (n : Fin 24) : Prop :=
      n ∈ freeClaims l ∧ ((s.claim n).state = .waiting ∨ (s.claim n).state = .pending)
    ∃ u : State,
      exec (.linkLossReportAllowance l) s =
          .next (if u.alw.queue.head? = s.alw.queue.head? ∧ u.alw.line = s.alw.line then u else u.consider)
        ∧ u.alw =
            { s.alw with
              claims := u.alw.claims, queue := u.alw.queue, line := u.alw.line, budgetRaised := u.alw.budgetRaised
              stale := s.alw.stale || decide (l = .l1) }
        ∧ u.alw.queue.Sublist s.alw.queue ∧ u.alw.line.Sublist s.alw.line
        ∧ (∀ m : Link, u.link m = { s.link m with notices := (u.link m).notices })
        ∧ (∀ n : Fin 24, lost n →
            u.claim n =
                { s.claim n with
                  state := .free, waitDeadline := none, dueTime := none, surgeEnd := none, last := .linkLost }
              ∧ (u.link l).notices &&& Notice.claimEnded.bit ≠ 0)
        ∧ (∀ n : Fin 24, ¬ lost n → u.claim n = s.claim n)
        ∧ (∀ n : Fin 24, n ∈ u.alw.queue ↔ n ∈ s.alw.queue ∧ ¬ lost n)
        ∧ (∀ m : Mark, m ∈ u.alw.line ↔ m ∈ s.alw.line ∧ ¬ lost m.claim)
        ∧ (let a := s.arrive (.linkLossReportAllowance l)
           let emptied : List Instr := if s.alw.line ≠ [] ∧ u.alw.line = [] then [.leadLineReport .empty] else []
           (s.reported ≠ .deficit ∨ u.alw.line = s.alw.line →
               u.transit = a.transit ++ emptied ∧ u.alw.budgetRaised = s.alw.budgetRaised)
             ∧ (s.reported = .deficit → u.alw.line ≠ s.alw.line →
                 (u.alw.budgetRaised = true ↔ u.alw.bands.c < u.need)
                   ∧ ∃ sent : List Instr,
                       u.transit = a.transit ++ sent
                         ∧ (∀ i ∈ sent, i = .leadLineReport .empty ∨ i = .budgetRaiseRequest ∨ i = .budgetClearRequest)
                         ∧ sent.filter (fun i => decide (i = .leadLineReport .empty)) = emptied))
        ∧ u = { s.arrive (.linkLossReportAllowance l) with alw := u.alw, links := u.links, transit := u.transit }

/-! ### Feeder Controller -/

/-- R49, R105, R106, R107, R117: FEEDER ON of a configured feeder that is OFF makes its claim, at its rating and lead time
with a wait of 30.0 s, and the feeder is WAITING; a claim that is refused answers the order with its status and changes
nothing else. A feeder order from L1 or L2 is refused NOT_YOUR_FIELD and one for a feeder outside F1 to F12 BAD_OPERAND. That
the first of these two comes before the other is the model's reading (log 23), and that an unconfigured feeder that is LOCKED
or in FAULT is answered BAD_OPERAND is its choice (log 32). -/
def Obligations.FeederOnMakesItsClaim : Prop :=
  (∀ (k : Fin 12) (s : State), s.held = false →
      let cfg := s.feederConfig k
      let f := s.feeder k
      let i : Instr := .feederOn .l3 (k.val + 1)
      let status := s.claimRequestStatus (feederClaim k) cfg.rating none
      (cfg.rating = 0 → AnsweredOnly i .l3 0x40 .badOperand s)
        ∧ (cfg.rating ≠ 0 → f.state ≠ .off → AnsweredOnly i .l3 0x40 .wrongState s)
        ∧ (cfg.rating ≠ 0 → f.state = .off → status ≠ .ok → AnsweredOnly i .l3 0x40 status s)
        ∧ (cfg.rating ≠ 0 → f.state = .off → status = .ok →
            exec i s =
              .next
                ((((s.arrive i).acceptClaim (feederClaim k) cfg.rating none none cfg.leadTime (some 300) (.feeder k)
                  (k.val + 1)).setFeeder k { f with state := .waiting, restoring := false }).answer .l3 0x40 .ok)))
    ∧ (∀ (l : Link) (k : Nat) (s : State), s.held = false →
        (l ≠ .l3 →
            AnsweredOnly (.feederOn l k) l 0x40 .notYourField s ∧ AnsweredOnly (.feederOff l k) l 0x41 .notYourField s
              ∧ AnsweredOnly (.feederClear l k) l 0x42 .notYourField s)
          ∧ (k = 0 ∨ 12 < k →
              AnsweredOnly (.feederOn .l3 k) .l3 0x40 .badOperand s ∧ AnsweredOnly (.feederOff .l3 k) .l3 0x41 .badOperand s
                ∧ AnsweredOnly (.feederClear .l3 k) .l3 0x42 .badOperand s
                ∧ AnsweredOnly (.readFeeder l k) l 0x43 .badOperand s))

/-- R105, R107, R129: FEEDER OFF gives up a WAITING or PENDING feeder's claim, opens an ON feeder and lets its claim go, and
takes a SHED feeder OFF; FEEDER CLEAR takes a LOCKED feeder OFF with KEY at LOCAL and a FAULT feeder OFF with its contact
open; in every other state they are refused. -/
def Obligations.FeederOffAndClear : Prop :=
  ∀ (k : Fin 12) (s : State), s.held = false →
    let f := s.feeder k
    let off : Instr := .feederOff .l3 (k.val + 1)
    let clear : Instr := .feederClear .l3 (k.val + 1)
    let offed : Feeder := { f with state := .off, close := false, restoring := false }
    let ends (o : Ending) : Instr := .endRequest (feederClaim k) o
    let cursor : Cursor :=
      if s.fdr.cursor = .restoring k then .stagger (s.clock + 10 * s.set.tables.thresholds.stagger) else s.fdr.cursor
    (f.state = .waiting ∨ f.state = .pending →
        exec off s =
          .next (State.answer
            { s.arrive off with
              transit := (s.arrive off).transit ++ [ends .withdrawn]
              fdr := { s.fdr with feeders := s.fdr.feeders.set k offed, cursor := cursor } } .l3 0x41 .ok))
      ∧ (f.state = .on →
          exec off s =
            .next (State.answer (State.syncFeeders
              { s.arrive off with
                transit := (s.arrive off).transit ++ [ends .released]
                fdr := { s.fdr with feeders := s.fdr.feeders.set k offed } }) .l3 0x41 .ok))
      ∧ (f.state = .shed →
          exec off s =
            .next (State.answer { s.arrive off with fdr := { s.fdr with feeders := s.fdr.feeders.set k offed } } .l3 0x41
              .ok))
      ∧ (f.state = .off ∨ f.state = .locked ∨ f.state.isFault = true → AnsweredOnly off .l3 0x41 .wrongState s)
      ∧ (f.state = .locked → s.set.key = .keyLocal →
          exec clear s =
            .next (State.answer
              { s.arrive clear with
                fdr := { s.fdr with feeders := s.fdr.feeders.set k { f with state := .off, history := [] } } } .l3 0x42
              .ok))
      ∧ (f.state = .locked → s.set.key = .keyRemote → AnsweredOnly clear .l3 0x42 .keyRequired s)
      ∧ (f.state.isFault = true → s.pins.fb[k] = false →
          exec clear s =
            .next (State.answer (State.syncFeeders
              { s.arrive clear with
                fdr := { s.fdr with feeders := s.fdr.feeders.set k { f with state := .off } } }) .l3 0x42 .ok))
      ∧ (f.state.isFault = true → s.pins.fb[k] = true → AnsweredOnly clear .l3 0x42 .wrongState s)
      ∧ (f.state ≠ .locked → f.state.isFault = false → AnsweredOnly clear .l3 0x42 .wrongState s)

/-- R105, R108, R129: the admission report takes a WAITING feeder to PENDING; the carried report takes one that waits to ON
with its contactor commanded closed; an ending report takes one whose claim has ended to SHED or OFF. That an ending with
CANCELLED sends the cursor of the restoring feeder to STAGGER is the model's reading (log 22), and that a report of an earlier
claim is taken so too is its choice (log 40). -/
def Obligations.FeederReportsMoveTheFeeder : Prop :=
  ∀ (k : Fin 12) (s : State), s.held = false →
    let f := s.feeder k
    let waits : Prop := f.state = .waiting ∨ f.state = .pending
    let adm : Instr := .feederAdmissionReport k
    let car : Instr := .feederCarriedReport k
    let cursor : Cursor :=
      if s.fdr.cursor = .restoring k then .stagger (s.clock + 10 * s.set.tables.thresholds.stagger) else s.fdr.cursor
    (f.state = .waiting →
        exec adm s =
          .next { s.arrive adm with fdr := { s.fdr with feeders := s.fdr.feeders.set k { f with state := .pending } } })
      ∧ (f.state ≠ .waiting → exec adm s = .next (s.arrive adm))
      ∧ (waits →
          exec car s =
            .next (State.syncFeeders
              { s.arrive car with
                fdr :=
                  { s.fdr with
                    feeders := s.fdr.feeders.set k { f with state := .on, close := true, restoring := false }
                    cursor := cursor }
                links := if f.restoring then (s.addNotice .l3 .feeder).links else s.links }))
      ∧ (¬ waits → exec car s = .next (s.arrive car))
      ∧ ∀ o : Ending,
          let i : Instr := .feederEndingReport k o
          let acts : Prop := waits ∧ (o = .expired ∨ o = .cancelled) ∨ f.state = .on ∧ o = .cancelled
          let shed : Bool := decide waits && f.restoring || (s.feederConfig k).autoRestore
          let u : State :=
            { s.arrive i with
              fdr :=
                { s.fdr with
                  feeders :=
                    s.fdr.feeders.set k
                      { f with state := if shed then .shed else .off, close := false, restoring := false } }
              links := (s.addNotice .l3 .feeder).links }
          (acts → s.fdr.cursor = .ready → shed = true → exec i s = .next u.restorationChoice.syncFeeders)
            ∧ (acts → ¬ (s.fdr.cursor = .ready ∧ shed = true) →
                exec i s = .next (State.syncFeeders { u with fdr := { u.fdr with cursor := cursor } }))
            ∧ (¬ acts → exec i s = .next (s.arrive i))

/-- R120, R121, R123, R124: a shed step acts on the first effective target of the Shed Order list; with none it is a forced
release of the first CARRIED free claim of 11, 10, 9, 8, 7, 6, 3, 2, 1, 0; with no deficit reason, or nothing left, it does
nothing. The step timing starts again in every case. At its half mark a step is taken if the filtered frequency is below the
fast threshold and the mark has passed otherwise; at its full mark a step is taken. Between the marks, at a valid cycle
(ValidCycle), a step is taken if the filtered frequency is below the fast threshold. That a half mark which has passed and a
step timing that does not run do nothing at their commands is log 20. -/
def Obligations.ShedStepsAndTheirMarks : Prop :=
  (∀ s : State,
      let after (t : State) : State :=
        State.syncFeeders
          { t with
            fdr := { t.fdr with step := .running t.clock (10 * t.set.tables.thresholds.shedInterval) false } }
      let targets := shedList s.set.tables.shedOrder
      (s.reg.reasons = .empty → s.shedStep = after s)
        ∧ (s.reg.reasons ≠ .empty →
            (∀ (before rest : List ShedTarget) (x : ShedTarget), targets = before ++ x :: rest →
                (∀ y ∈ before, s.targetEffective y = false) → s.targetEffective x = true →
                (∀ k : Fin 12, x = .feeder k → s.shedStep = after (s.shedFeeder k))
                  ∧ ∀ w : SawTarget, x = .saw w →
                      s.shedStep = after { s with transit := s.transit ++ [.shedRequest w] })
              ∧ ((∀ y ∈ targets, s.targetEffective y = false) →
                  (∀ (before rest : List (Fin 24)) (n : Fin 24), [11, 10, 9, 8, 7, 6, 3, 2, 1, 0] = before ++ n :: rest →
                      (∀ m ∈ before, (s.claim m).state ≠ .carried) → (s.claim n).state = .carried →
                      s.shedStep = after { s with transit := s.transit ++ [.endRequest n .forced] })
                    ∧ ((∀ n ∈ [11, 10, 9, 8, 7, 6, 3, 2, 1, 0], (s.claim n).state ≠ .carried) → s.shedStep = after s))))
    ∧ (∀ s : State, s.held = false →
        (∀ since interval : Nat, s.fdr.step = .running since interval false →
            let base : State := { s with now := max s.now ((since + interval / 2) * 10000) }
            (s.belowFast = true → exec .stepTimingHalfMark s = .next base.shedStep)
              ∧ (s.belowFast = false →
                  exec .stepTimingHalfMark s =
                    .next { base with fdr := { s.fdr with step := .running since interval true } }))
          ∧ (∀ (since interval : Nat) (half : Bool), s.fdr.step = .running since interval half →
              exec .stepTimingFullMark s =
                .next (State.shedStep { s with now := max s.now ((since + interval) * 10000) }))
          ∧ ((∀ since interval : Nat, s.fdr.step ≠ .running since interval false) →
              exec .stepTimingHalfMark s = .next s)
          ∧ (s.fdr.step = .stopped → exec .stepTimingFullMark s = .next s))
    ∧ ∀ s : State,
        let between : Prop :=
          s.belowFast = true ∧ ∃ since interval : Nat, s.fdr.step = .running since interval true ∧ s.clock < since + interval
        (between → s.stepBetweenMarks = s.shedStep) ∧ (¬ between → s.stepBetweenMarks = s)

/-- R113, R114, R118, R119, R122: which targets are active, and which of these are effective; and a feeder that is shed sends
its end request, opens, keeps the moment in its shed history of at most three, and is SHED, or LOCKED when it is ORDINARY and
this shed and those within the lock window reach the lock count. That only an active target is effective, for BUDGET too, is
the model's reading (log 14), and that a feeder whose claim has been cancelled, the report of it still to be taken, is not
active is another (log 30, R125). -/
def Obligations.EffectiveTargetsAndShedFeeders : Prop :=
  ∀ s : State,
    (∀ k : Fin 12, s.targetActive (.feeder k) = true ↔
        ((s.feeder k).state = .on ∨ (s.feeder k).state = .waiting ∨ (s.feeder k).state = .pending)
          ∧ .feederEndingReport k .cancelled ∉ s.transit)
      ∧ (s.targetActive (.saw .feedHold) = true ↔
          s.saw.state = .feeding ∨ s.saw.state = .returning
            ∨ ∃ d : Direction,
                s.saw.state = .feedWait d ∨ s.saw.state = .feedHold .overload d ∨ s.saw.state = .feedHold .manual d)
      ∧ (s.targetActive (.saw .stop) = true ↔
          s.saw.state ≠ .stopped ∧ s.saw.state ≠ .stopping ∧ s.saw.state.isFault = false)
      ∧ (∀ x : ShedTarget,
        s.targetEffective x = true ↔
          s.targetActive x = true
            ∧ (s.reg.reasons.frequency = true
                ∨ s.reg.reasons.budget = true
                  ∧ match x with
                    | .feeder k => s.alw.bands.h < s.hSum ∧ 0 < (s.claim (feederClaim k)).committed
                    | .saw .feedHold => s.alw.bands.w < s.wSum ∧ 0 < (s.claim 5).committed
                    | .saw .stop => s.alw.bands.w < s.wSum ∧ 0 < (s.claim 4).committed + (s.claim 5).committed))
      ∧ ∀ k : Fin 12,
          let f := s.feeder k
          let th := s.set.tables.thresholds
          let recent := f.history.filter fun t => s.clock ≤ t + 6000 * th.lockWindow
          let locked : Prop := (s.feederConfig k).cls = .ordinary ∧ th.lockCount ≤ recent.length + 1
          let history := (f.history ++ [s.clock]).drop (f.history.length + 1 - 3)
          ∃ state : FeederState,
            (locked → state = .locked) ∧ (¬ locked → state = .shed)
              ∧ s.shedFeeder k =
                  { s with
                    transit := s.transit ++ [.endRequest (feederClaim k) .shed]
                    fdr :=
                      { s.fdr with
                        feeders :=
                          s.fdr.feeders.set k
                            { f with state := state, close := false, restoring := false, history := history } }
                    links := (s.addNotice .l3 .feeder).links }

/-- R126 to R129: at the end of the restore hold and of each stagger a choice is made: the SHED feeder of lowest rank makes
its claim and is WAITING with its restoring marker set, or the stagger runs again where the claim is refused (log 11);
with no SHED feeder the cursor is READY. The expiry of a hold or stagger that does not run does nothing (log 20). -/
def Obligations.RestorationChoosesTheLowestRank : Prop :=
  ∀ s : State,
    let choice := s.restorationChoice
    ((∀ k : Fin 12, (s.feeder k).state ≠ .shed) → choice = { s with fdr := { s.fdr with cursor := .ready } })
      ∧ (∀ k : Fin 12, (s.feeder k).state = .shed →
          (∀ j : Fin 12, (s.feeder j).state = .shed → j ≠ k →
              (s.feederConfig k).rank < (s.feederConfig j).rank
                ∨ (s.feederConfig k).rank = (s.feederConfig j).rank ∧ k.val < j.val) →
          let cfg := s.feederConfig k
          let status := s.claimRequestStatus (feederClaim k) cfg.rating none
          (status = .ok →
              choice =
                ((s.acceptClaim (feederClaim k) cfg.rating none none cfg.leadTime (some 300) (.feeder k)
                  (k.val + 1)).setFeeder k { s.feeder k with state := .waiting, restoring := true }).setCursor
                  (.restoring k))
            ∧ (status ≠ .ok →
                choice =
                  { s with
                    fdr := { s.fdr with cursor := .stagger (s.clock + 10 * s.set.tables.thresholds.stagger) } }))
      ∧ (s.held = false →
          (∀ t : Nat, s.fdr.cursor = .hold t →
              exec .restoreHoldExpiry s =
                .next (State.restorationChoice { s with now := max s.now (t * 10000) }).syncFeeders)
            ∧ (∀ t : Nat, s.fdr.cursor = .stagger t →
                exec .staggerExpiry s =
                  .next (State.restorationChoice { s with now := max s.now (t * 10000) }).syncFeeders)
            ∧ ((∀ t : Nat, s.fdr.cursor ≠ .hold t) → exec .restoreHoldExpiry s = .next s)
            ∧ ((∀ t : Nat, s.fdr.cursor ≠ .stagger t) → exec .staggerExpiry s = .next s))

/-- R81, R115, R120, R125, R127, R130, R131: the report of a station change at the Feeder Controller: BLACK opens and moves the
feeders and idles the cursor; DEFICIT gives up a restoring feeder that waits, idles the cursor and takes the first shed step;
REGULATING stops the step timing and starts the restore hold from IDLE; RUNAWAY ends a hold. A restoring feeder whose claim
the Allowance Unit has cancelled first is left to its ending report (log 30), and one whose due event was taken first is ON:
its carried report, if still on its way, is taken as its own row gives before anything else (log 41). -/
def Obligations.StationChangeAtTheFeeders : Prop :=
  ∀ (r : StateReport) (s : State), s.held = false →
    let i : Instr := .feederStateReport r
    let a := s.arrive i
    let idled (t : State) : State := { t with fdr := { t.fdr with cursor := .idle } }
    let waits (k : Fin 12) : Prop := (s.feeder k).state = .waiting ∨ (s.feeder k).state = .pending
    let connected (k : Fin 12) : Prop :=
      waits k ∧ (s.claim (feederClaim k)).state = .carried ∧ .feederCarriedReport k ∈ s.transit
    (r.entered = .warming → exec i s = .next a)
      ∧ (r.entered = .regulating →
          exec i s =
            .next
              { a with
                fdr :=
                  { s.fdr with
                    step := .stopped
                    cursor :=
                      if s.fdr.cursor = .idle then .hold (s.clock + 100 * s.set.tables.thresholds.restoreHold)
                      else s.fdr.cursor } })
      ∧ (r.entered = .runaway →
          ((∃ t : Nat, s.fdr.cursor = .hold t) → exec i s = .next (idled a))
            ∧ ((∀ t : Nat, s.fdr.cursor ≠ .hold t) → exec i s = .next a))
      ∧ (r.entered = .deficit →
          (∀ k : Fin 12, s.fdr.cursor = .restoring k → connected k →
              ∃ u : State,
                exec (.feederCarriedReport k) a = .next u ∧ (u.feeder k).state = .on
                  ∧ exec i s = .next (State.shedStep (idled u)))
            ∧ (∀ k : Fin 12, s.fdr.cursor = .restoring k → waits k → ¬ connected k →
                .feederEndingReport k .cancelled ∉ s.transit →
                exec i s =
                  .next (State.shedStep (idled
                    { a with
                      transit := a.transit ++ [.endRequest (feederClaim k) .cancelled]
                      fdr :=
                        { s.fdr with
                          feeders := s.fdr.feeders.set k { s.feeder k with state := .shed, restoring := false } }
                      links := (s.addNotice .l3 .feeder).links })))
            ∧ ((∀ k : Fin 12, s.fdr.cursor = .restoring k →
                  ¬ connected k ∧ (¬ waits k ∨ .feederEndingReport k .cancelled ∈ s.transit)) →
                exec i s = .next (State.shedStep (idled a))))
      ∧ (r.entered = .black →
          Completes i s fun t =>
            t.fdr.cursor = .idle ∧ t.fdr.step = .stopped ∧ t.transit = a.transit
              ∧ (∀ k : Fin 12,
                  let f := s.feeder k
                  let active : Prop := f.state = .on ∨ f.state = .waiting ∨ f.state = .pending ∨ f.state = .shed
                  (t.feeder k).close = false ∧ (t.feeder k).restoring = false ∧ (t.feeder k).history = f.history
                    ∧ (active → (t.feeder k).state = if (s.feederConfig k).autoRestore then .shed else .off)
                    ∧ (¬ active → (t.feeder k).state = f.state))
              ∧ ((∃ k : Fin 12, (t.feeder k).state ≠ (s.feeder k).state) →
                  t.links = (s.addNotice .l3 .feeder).links)
              ∧ ((∀ k : Fin 12, (t.feeder k).state = (s.feeder k).state) → t.links = s.links)
              ∧ t = { a with fdr := t.fdr, links := t.links })

/-- R110 to R112, R129: the contactor checks: an ON feeder that has not followed in 0.5 s is MISMATCH, one that reads open
after it had followed is DROPPED, a contact that reads closed for 0.5 s while driven open is WELDED; and a fault opens the
contactor, ends the claim with FAULT where one is held, and is told to L3. That the expiry of a timing that does not run does
nothing is log 20, that a feedback change during a reset only keeps the level of the pin is log 21, and that a feeder still ON
can be found WELDED, with an end request, is log 39. -/
def Obligations.FeederContactorChecks : Prop :=
  ∀ (k : Fin 12) (s : State),
    let f := s.feeder k
    let faulted (base : State) (kind : FeederFault) : State :=
      State.syncFeeders
        { base with
          transit :=
            base.transit
              ++ if f.state = .on ∨ f.state = .waiting ∨ f.state = .pending then [.endRequest (feederClaim k) .fault]
                 else []
          fdr :=
            { s.fdr with
              feeders :=
                s.fdr.feeders.set k
                  { f with
                    state := .fault kind, close := false, restoring := false, follow := .stopped, stuck := .stopped }
              cursor :=
                if s.fdr.cursor = .restoring k then
                  .stagger (base.clock + 10 * s.set.tables.thresholds.stagger)
                else s.fdr.cursor }
          links := (s.addNotice .l3 .feeder).links }
    (∀ since : Nat, s.held = false → f.follow = .running since →
        let base : State := { s with now := max s.now ((since + 50) * 10000) }
        (f.state = .on → s.pins.fb[k] = false → exec (.followTimingExpiry k) s = .next (faulted base .mismatch))
          ∧ (f.state ≠ .on ∨ s.pins.fb[k] = true →
              exec (.followTimingExpiry k) s =
                .next
                  { base with
                    fdr := { s.fdr with feeders := s.fdr.feeders.set k { f with follow := .complete since } } }))
      ∧ (∀ since : Nat, s.held = false → f.stuck = .running since → f.state.isFault = false →
          exec (.stuckTimingExpiry k) s =
            .next (faulted { s with now := max s.now ((since + 50) * 10000) } .welded))
      ∧ (s.held = false → (∀ since : Nat, f.follow ≠ .running since) → exec (.followTimingExpiry k) s = .next s)
      ∧ (s.held = false → (∀ since : Nat, f.stuck ≠ .running since) → exec (.stuckTimingExpiry k) s = .next s)
      ∧ ∀ closed : Bool,
          let base : State := { s with pins := { s.pins with fb := s.pins.fb.set k closed } }
          let dropped : Prop :=
            s.pins.fb[k] = true ∧ closed = false ∧ f.state = .on ∧ s.feederDriven k = true ∧ f.follow.isComplete = true
          (s.held = true → exec (.feederFeedbackChange k closed) s = .next base)
            ∧ (s.held = false → dropped → exec (.feederFeedbackChange k closed) s = .next (faulted base .dropped))
            ∧ (s.held = false → ¬ dropped → exec (.feederFeedbackChange k closed) s = .next base.syncFeeders)

/-- R110, R145: how the contactor timings are judged: a feeder's follow timing runs while its driven level is closed and its
stuck timing while it is open with the contact closed; a disagreement timing of the saw while the driven level and the
feedback differ; a timing that goes on keeps its start; none runs in FAULT. Nothing else changes. -/
def Obligations.ContactorTimingsFollowTheDrivenLevels : Prop :=
  ∀ s : State,
    let judged (t : Timing) (c : Bool) : Timing := if c then (if t = .stopped then .running s.clock else t) else .stopped
    let differs (t : Option Nat) (driven closed : Bool) : Option Nat :=
      if s.saw.state.isFault ∨ driven = closed then none else some (t.getD s.clock)
    (∀ k : Fin 12,
        let f := s.feeder k
        s.sync.feeder k =
          { f with
            follow := if f.state.isFault then .stopped else judged f.follow (s.feederDriven k)
            stuck := if f.state.isFault then .stopped else judged f.stuck (!s.feederDriven k && s.pins.fb[k]) }
        ∧ s.syncFeeders.feeder k = s.sync.feeder k)
      ∧ s.sync =
          { s with
            fdr := { s.fdr with feeders := s.sync.fdr.feeders }
            saw :=
              { s.saw with
                lineDisagree := differs s.saw.lineDisagree s.lineDriven s.pins.lineFb
                starDisagree := differs s.saw.starDisagree s.starDriven s.pins.starFb
                deltaDisagree := differs s.saw.deltaDisagree s.deltaDriven s.pins.deltaFb } }
      ∧ s.syncFeeders = { s with fdr := { s.fdr with feeders := s.syncFeeders.fdr.feeders } }
      ∧ s.syncSaw = { s with saw := s.sync.saw }

/-! ### Saw Sequencer -/

/-- R49, R137, R140, R142, R144, R146: the seven saw orders are taken from L2 alone, each by the saw's state: SAW START makes
claim 4 and SAW FEED and SAW RETURN claim 5; SAW STOP runs the stop sequence; SAW HOLD and SAW RESUME open and close the
feed; SAW CLEAR FAULT leads to STOPPED, where the limits are judged at once. That SAW
is then added for a limit pair still active is the model's choice (log 33). -/
def Obligations.SawOrdersByState : Prop :=
  ∀ s : State, s.held = false →
    let st := s.saw.state
    let tb := s.set.tables.saw
    let refused (i : Instr) (code : Byte) (status : Status) : Prop := AnsweredOnly i .l2 code status s
    (∀ l : Link, l ≠ .l2 →
        AnsweredOnly (.sawStart l) l 0x50 .notYourField s ∧ AnsweredOnly (.sawStop l) l 0x51 .notYourField s
          ∧ AnsweredOnly (.sawFeed l) l 0x52 .notYourField s ∧ AnsweredOnly (.sawReturn l) l 0x53 .notYourField s
          ∧ AnsweredOnly (.sawHold l) l 0x54 .notYourField s ∧ AnsweredOnly (.sawResume l) l 0x55 .notYourField s
          ∧ AnsweredOnly (.sawClearFault l) l 0x56 .notYourField s)
      ∧ (let status := s.claimRequestStatus 4 tb.start.startSurge (some tb.start.runAmount)
         (st ≠ .stopped ∨ s.saw.bladeQuiet = false → refused (.sawStart .l2) 0x50 .busy)
           ∧ (st = .stopped → s.saw.bladeQuiet = true → status ≠ .ok → refused (.sawStart .l2) 0x50 status)
           ∧ (st = .stopped → s.saw.bladeQuiet = true → status = .ok →
               exec (.sawStart .l2) s =
                 .next ((sawEntering ((s.arrive (.sawStart .l2)).acceptClaim 4 tb.start.startSurge
                   (some tb.start.runAmount) none tb.start.startLead none .saw 0) .startWait).answer .l2 0x50 .ok)))
      ∧ (let a := s.arrive (.sawStop .l2)
         let o : Ending := if st = .startWait then .withdrawn else .released
         (sawTargetActive .stop st = true →
             exec (.sawStop .l2) s =
               .next (((sawEntering (stopSent a o) (stopState a)).syncSaw).answer .l2 0x51 .ok))
           ∧ (sawTargetActive .stop st = false → refused (.sawStop .l2) 0x51 .wrongState))
      ∧ (∀ d : Direction,
          let i : Instr := if d = .forward then .sawFeed .l2 else .sawReturn .l2
          let code : Byte := if d = .forward then 0x52 else 0x53
          let amount : Nat := if d = .forward then tb.feed.feedAmount else tb.feed.returnAmount
          let atEnd : Bool := if d = .forward then s.pins.fwdEnd else s.pins.retEnd
          let ready : Prop := st = .run ∨ ∃ e : Direction, st = .feedHold .shed e
          let status := s.claimRequestStatus 5 amount none
          (¬ ready ∨ atEnd = true → refused i code .wrongState)
            ∧ (ready → atEnd = false → status ≠ .ok → refused i code status)
            ∧ (ready → atEnd = false → status = .ok →
                exec i s =
                  .next ((sawEntering ((s.arrive i).acceptClaim 5 amount none none tb.feed.feedLead none .saw
                    (if d = .forward then 1 else 2)) (.feedWait d)).answer .l2 code .ok)))
      ∧ (∀ d : Direction,
          let moving : SawState := if d = .forward then .feeding else .returning
          (st = moving →
              exec (.sawHold .l2) s =
                .next (((sawEntering (s.arrive (.sawHold .l2)) (.feedHold .manual d)).syncSaw).answer .l2 0x54 .ok))
            ∧ (st = .feedHold .manual d →
                exec (.sawResume .l2) s =
                  .next (((sawEntering (s.arrive (.sawResume .l2)) moving).syncSaw).answer .l2 0x55 .ok)))
      ∧ (st ≠ .feeding → st ≠ .returning → refused (.sawHold .l2) 0x54 .wrongState)
      ∧ ((∀ d : Direction, st ≠ .feedHold .manual d) → refused (.sawResume .l2) 0x55 .wrongState)
      ∧ (let clears : Prop := st.isFault = true ∧ s.pins.estop = false ∧ s.saw.bladeQuiet = true
         let u := (sawEntering (s.arrive (.sawClearFault .l2)) .stopped).syncSaw
         (clears →
             exec (.sawClearFault .l2) s =
               .next (State.answer
                 (if s.pins.fwdEnd && s.pins.retEnd then sawFaulting u .limit else u) .l2 0x56 .ok))
           ∧ (¬ clears → refused (.sawClearFault .l2) 0x56 .wrongState))

/-- R138, R141, R147, R148: what the saw does at the reports of its claims, at entry to BLACK, at a shed request and at the
loss of L2, by its state on arrival; in every other state they have no effect. That a report of an earlier claim is taken by
the saw's state too is the model's choice (log 40). -/
def Obligations.SawReportsByState : Prop :=
  ∀ s : State, s.held = false →
    let st := s.saw.state
    let fed : Prop := st = .feeding ∨ st = .returning ∨ ∃ d : Direction, st = .feedHold .overload d ∨ st = .feedHold .manual d
    let waiting : Prop := ∃ d : Direction, st = .feedWait d
    let moved (i : Instr) (st' : SawState) : Prop := exec i s = .next (sawMoving (s.arrive i) st')
    let movedEnding (i : Instr) (n : Fin 24) (o : Ending) (st' : SawState) : Prop :=
      exec i s = .next (sawMoving { s.arrive i with transit := (s.arrive i).transit ++ [.endRequest n o] } st')
    let idle (i : Instr) : Prop := exec i s = .next (s.arrive i)
    (∀ c : SawClaim, idle (.sawAdmissionReport c))
      ∧ (let i : Instr := .sawCarriedReport .motor
         let t := sawNoticed (s.arrive i) .star
         (st = .startWait →
             exec i s =
               .next (State.syncSaw
                 { t with
                   saw := { t.saw with starTime := some (s.clock + 10 * s.set.tables.saw.start.starTimeMax) } }))
           ∧ (st ≠ .startWait → idle i))
      ∧ (let i : Instr := .sawCarriedReport .carriage
         (st = .feedWait .forward → s.pins.fwdEnd = false → moved i .feeding)
           ∧ (st = .feedWait .back → s.pins.retEnd = false → moved i .returning)
           ∧ (st = .feedWait .forward → s.pins.fwdEnd = true → movedEnding i 5 .released .run)
           ∧ (st = .feedWait .back → s.pins.retEnd = true → movedEnding i 5 .released .run)
           ∧ (¬ waiting → idle i))
      ∧ (∀ o : Ending,
          let i : Instr := .sawEndingReport .motor o
          (st = .startWait → o = .expired ∨ o = .cancelled → moved i .stopped)
            ∧ (st.motorOn = true → o = .cancelled → moved i (sawAtRest s))
            ∧ (¬ (st = .startWait ∧ (o = .expired ∨ o = .cancelled)) → ¬ (st.motorOn = true ∧ o = .cancelled) → idle i))
      ∧ (∀ o : Ending,
          let i : Instr := .sawEndingReport .carriage o
          let acts : Prop := waiting ∧ (o = .expired ∨ o = .cancelled) ∨ fed ∧ o = .cancelled
          (acts → moved i .run) ∧ (¬ acts → idle i))
      ∧ (∀ r : StateReport,
          let i : Instr := .sawStateReport r
          (r.entered = .black → st = .startWait → moved i .stopped)
            ∧ (r.entered = .black → st.motorOn = true → moved i (sawAtRest s))
            ∧ (r.entered ≠ .black ∨ st ≠ .startWait ∧ st.motorOn = false → idle i))
      ∧ (let i : Instr := .shedRequest .feedHold
         (waiting → movedEnding i 5 .shed .run)
           ∧ (∀ d : Direction, fed → st.direction = some d → movedEnding i 5 .shed (.feedHold .shed d))
           ∧ (¬ waiting → ¬ fed → idle i))
      ∧ (let i : Instr := .shedRequest .stop
         let a := s.arrive i
         (sawTargetActive .stop st = true → exec i s = .next (sawMoving (stopSent a .shed) (stopState a)))
           ∧ (sawTargetActive .stop st = false → idle i))
      ∧ ∀ l : Link,
          let i : Instr := .linkLossReportSaw l
          let a := s.arrive i
          (l = .l2 → sawTargetActive .stop st = true → exec i s = .next (sawMoving (stopSent a .linkLost) (stopState a)))
            ∧ (l ≠ .l2 ∨ sawTargetActive .stop st = false → idle i)

/-- R135, R138, R139, R143 to R145: the blade's pulses, windows and quiet timing, and the star-time, dead-time, overload and
resume timings. The expiry of one that does not run does nothing (log 20). At the star-time expiry a window end at the
changeover speed that has come by then leads to CHANGEOVER as the speed of the last one does (log 35). -/
def Obligations.SawBladeAndTimings : Prop :=
  ∀ s : State, s.held = false →
    let st := s.saw.state
    let tb := s.set.tables.saw
    let at_ (t : Nat) : State := { s with now := max s.now (t * 10000) }
    let changeover (t : State) : State :=
      let u := sawNoticed t .changeover
      State.syncSaw { u with saw := { u.saw with deadTime := some (t.clock + tb.start.deadTime) } }
    exec .bladePulse s =
        .next
          { s with
            saw :=
              { s.saw with pulses := s.saw.pulses + 1, bladeQuiet := false, quietDeadline := s.clock + 200 } }
      ∧ (let speed := min (s.saw.pulses * 400 / tb.start.ratedPulseRate) 150
         let u : State :=
           { at_ s.saw.windowEnd with
             saw := { s.saw with speed := speed, pulses := 0, windowEnd := s.saw.windowEnd + 25 } }
         let run := if speed < tb.start.stallLevel then s.saw.stallRun + 1 else 0
         (st = .star → tb.start.changeoverSpeed ≤ speed → exec .bladeWindowEnd s = .next (changeover u))
           ∧ (st.stallWatched = true → 3 ≤ run → exec .bladeWindowEnd s = .next (sawFaulting u .stall))
           ∧ (st.stallWatched = true → run < 3 →
               exec .bladeWindowEnd s = .next { u with saw := { u.saw with stallRun := run } })
           ∧ (st.stallWatched = false → ¬ (st = .star ∧ tb.start.changeoverSpeed ≤ speed) →
               exec .bladeWindowEnd s = .next u))
      ∧ (let u : State := { at_ s.saw.quietDeadline with saw := { s.saw with bladeQuiet := true } }
         (s.saw.bladeQuiet = false → st ≠ .stopping → exec .bladeQuietExpiry s = .next u)
           ∧ (s.saw.bladeQuiet = false → st = .stopping →
               exec .bladeQuietExpiry s =
                 .next (sawNoticed u .stopped))
           ∧ (s.saw.bladeQuiet = true → exec .bladeQuietExpiry s = .next s))
      ∧ (∀ t : Nat, s.saw.starTime = some t →
          let windowToo : Prop :=
            s.saw.windowEnd ≤ (at_ t).clock
              ∧ tb.start.changeoverSpeed ≤ min (s.saw.pulses * 400 / tb.start.ratedPulseRate) 150
          (tb.start.startStallLevel ≤ s.saw.speed ∨ windowToo → exec .starTimeExpiry s = .next (changeover (at_ t)))
            ∧ (s.saw.speed < tb.start.startStallLevel → ¬ windowToo →
                exec .starTimeExpiry s = .next (sawFaulting (at_ t) .startStall)))
      ∧ (∀ t : Nat, s.saw.deadTime = some t →
          let u : State := { at_ t with saw := { s.saw with deadTime := none } }
          (s.pins.starFb = true → exec .deadTimeExpiry s = .next u)
            ∧ (s.pins.starFb = false →
                exec .deadTimeExpiry s =
                  .next (sawMoving { u with transit := s.transit ++ [.surgeEndRequest] } .run)))
      ∧ (∀ t : Nat, s.saw.overload = some t →
          exec .overloadTimingExpiry s = .next (sawMoving (at_ t) (.feedHold .overload .forward)))
      ∧ (∀ t : Nat, s.saw.resume = some t → exec .resumeTimingExpiry s = .next (sawMoving (at_ t) .feeding))
      ∧ (s.saw.starTime = none → exec .starTimeExpiry s = .next s)
      ∧ (s.saw.deadTime = none → exec .deadTimeExpiry s = .next s)
      ∧ (s.saw.overload = none → exec .overloadTimingExpiry s = .next s)
      ∧ (s.saw.resume = none → exec .resumeTimingExpiry s = .next s)
      ∧ s.judgeOverload =
          { s with
            saw :=
              { s.saw with
                overload :=
                  if st = .feeding then
                    if (tb.start.runAmount + tb.feed.feedAmount) * (100 + tb.feed.overloadMargin) / 100 < s.meas.ps then
                      some (s.saw.overload.getD (s.clock + 10 * tb.feed.overloadTime))
                    else none
                  else s.saw.overload
                resume :=
                  if st.inOverloadHold then
                    if s.meas.ps < tb.start.runAmount + tb.feed.resumeLevel * tb.feed.feedAmount / 100 then
                      some (s.saw.resume.getD (s.clock + 10 * tb.feed.resumeTime))
                    else none
                  else s.saw.resume } }

/-- R139, R141, R145, R146: what the saw does at a feedback change, a disagreement of 0.5 s, a limit and ESTOP; while a reset
is held only the level of the pin is kept, and in FAULT no further fault is found. That two active limits are judged before
the end of the feed is the model's reading (log 15), as are the levels kept during a reset (log 21) and the expiry of a
disagreement timing that does not run, which does nothing (log 20). -/
def Obligations.SawInputsAndFaults : Prop :=
  ∀ s : State,
    let st := s.saw.state
    (∀ (c : MotorContactor) (closed : Bool),
        let i : Instr := .sawFeedbackChange c closed
        let u : State := { s with pins := s.pins.setFb c closed }
        let closesDelta : Prop := st = .changeover ∧ s.saw.deadTime = none ∧ c = .star ∧ closed = false
        (s.held = true → exec i s = .next u)
          ∧ (s.held = false → closesDelta →
              exec i s = .next (sawMoving { u with transit := s.transit ++ [.surgeEndRequest] } .run))
          ∧ (s.held = false → ¬ closesDelta → exec i s = .next u.syncSaw))
      ∧ (∀ c : MotorContactor, s.held = false →
          (∀ since : Nat, s.saw.disagree c = some since → st.isFault = false →
              exec (.disagreementTimingExpiry c) s =
                .next (sawFaulting { s with now := max s.now ((since + 50) * 10000) } .contactor))
            ∧ (s.saw.disagree c = none ∨ st.isFault = true → exec (.disagreementTimingExpiry c) s = .next s))
      ∧ (∀ (w : LimitSwitch) (active : Bool),
          let i : Instr := .limitChange w active
          let u : State := { s with pins := s.pins.setLimit w active }
          let both : Prop := u.pins.fwdEnd = true ∧ u.pins.retEnd = true
          let ends : Prop :=
            active = true
              ∧ (w = .fwdEnd
                    ∧ (st = .feeding ∨ st = .feedHold .overload .forward ∨ st = .feedHold .manual .forward)
                  ∨ w = .retEnd
                    ∧ (st = .returning ∨ st = .feedHold .overload .back ∨ st = .feedHold .manual .back))
          (s.held = true → exec i s = .next u)
            ∧ (s.held = false → both → st.isFault = false → exec i s = .next (sawFaulting u .limit))
            ∧ (s.held = false → both → st.isFault = true → exec i s = .next u)
            ∧ (s.held = false → ¬ both → ends →
                exec i s = .next (sawMoving { u with transit := s.transit ++ [.endRequest 5 .released] } .run))
            ∧ (s.held = false → ¬ both → ¬ ends → exec i s = .next (if active then u.syncSaw else u)))
      ∧ ∀ active : Bool,
          let u : State := { s with pins := { s.pins with estop := active } }
          (s.held = false → active = true → st.isFault = false → exec (.estopChange active) s = .next (sawFaulting u .estop))
            ∧ (s.held = true ∨ active = false ∨ st.isFault = true → exec (.estopChange active) s = .next u)

/-! ### Measurement Unit -/

/-- R152 to R154, R157: the figures of a cycle from its samples, in whole millivolts and milliamperes (log 3). A posting goes
to the saw's overload test, the three captures and the discrepancy flag, whose timings are judged by 25 % and 10 % of the
capacity. At entry to BLACK the figures become 0, the discrepancy timings stop and each running capture ends VOID; another
report only tells the state; the divergence timing sets the discrepancy flag and the agreement timing clears it. That a
timing stays complete after its expiry is the model's reading (log 24), and one that does not run has no expiry (log 20). -/
def Obligations.MeasurementReportsAndTimings : Prop :=
  (∀ (first : Sample) (rest : List Sample),
      let total (f : Sample → Int) : Nat := ((first :: rest).map f).sum.toNat
      let lu (n : Nat) : Nat := min (n / (10000000 * (rest.length + 1))) 9999
      generatorFigure first rest = lu (total fun x => x.va * x.ia + x.vb * x.ib + x.vc * x.ic)
        ∧ sawFigure first rest = lu (3 * total fun x => x.va * x.isaw)
        ∧ ballastFigure first rest = lu (3 * total fun x => x.va * x.ibal))
  ∧ (∀ s : State,
      (∀ pg ps pb : Nat,
          let posted : State := { s with meas := { s.meas with pg := pg, ps := ps, pb := pb } }
          s.post pg ps pb =
            ((((posted.judgeOverload).capturePosting .l1).capturePosting .l2).capturePosting .l3).judgeDiscrepancy)
        ∧ (s.meas.lastReport.state = .black → s.judgeDiscrepancy = s)
        ∧ (s.meas.lastReport.state ≠ .black →
            let apart : Nat := if s.meas.pb ≤ s.bc then s.bc - s.meas.pb else s.meas.pb - s.bc
            s.judgeDiscrepancy =
              { s with
                meas :=
                  { s.meas with
                    divergence := judgedTiming s.meas.divergence (decide (25 * s.capacity < 100 * apart)) s.clock
                    agreement :=
                      judgedTiming s.meas.agreement
                        (if s.capacity = 0 then decide (s.meas.pb = 0) else decide (100 * apart < 10 * s.capacity))
                        s.clock } }))
  ∧ ∀ s : State, s.held = false →
    (∀ r : StateReport,
        let i : Instr := .measurementStateReport r
        let told : LastReport := { state := r.entered, reasons := r.reasons }
        (r.entered ≠ .black →
            exec i s = .next { s.arrive i with meas := { s.meas with lastReport := told } })
          ∧ (r.entered = .black →
              Completes i s fun t =>
                t.meas.pg = 0 ∧ t.meas.ps = 0 ∧ t.meas.pb = 0 ∧ t.meas.divergence = .stopped
                  ∧ t.meas.agreement = .stopped ∧ t.meas.discrepancy = s.meas.discrepancy ∧ t.meas.lastReport = told
                  ∧ (∀ l : Link, s.meas.captures.get l = none →
                      t.meas.snapshots.get l = s.meas.snapshots.get l ∧ t.meas.captures.get l = none
                        ∧ t.link l = s.link l)
                  ∧ (∀ (l : Link) (c : Capture), s.meas.captures.get l = some c →
                      t.meas.captures.get l = none ∧ t.link l = (s.addNotice l .snapshot).link l
                        ∧ t.meas.snapshots.get l =
                          { filtered := c.filtered / c.count, pg := c.pg / c.count, pb := c.pb / c.count
                            ps := c.ps / c.count, d := s.alw.d, bands := s.alw.bands, h := 0, w := 0, s := 0
                            station := .black, void := true, ready := true })
                  ∧ t = { s.arrive i with meas := t.meas, links := t.links }))
      ∧ (∀ since : Nat, s.meas.divergence = .running since →
          exec .divergenceTimingExpiry s =
            .next
              { s with
                now := max s.now ((since + 500) * 10000)
                meas :=
                  { s.meas with
                    divergence := .complete since
                    discrepancy := true
                    agreement := if s.meas.discrepancy then s.meas.agreement else .stopped } })
      ∧ (∀ since : Nat, s.meas.agreement = .running since →
          exec .agreementTimingExpiry s =
            .next
              { s with
                now := max s.now ((since + 500) * 10000)
                meas := { s.meas with agreement := .complete since, discrepancy := false } })
      ∧ ((∀ since : Nat, s.meas.divergence ≠ .running since) → exec .divergenceTimingExpiry s = .next s)
      ∧ ((∀ since : Nat, s.meas.agreement ≠ .running since) → exec .agreementTimingExpiry s = .next s)

/-- R155 to R158: TAKE SNAPSHOT starts the link's capture and clears READY; a posting joins every running capture, and the
tenth completes it with the means, the declaration, the committed sums and the state; READ SNAPSHOT reads a READY record
once, in the order of its layout. A valid cycle posts to the captures (ValidCycle, MeasurementReportsAndTimings). -/
def Obligations.SnapshotsAreTakenAndReadOnce : Prop :=
  ∀ (l : Link) (s : State),
    (s.held = false →
        ((s.meas.captures.get l).isSome = true → AnsweredOnly (.takeSnapshot l) l 0x60 .busy s)
          ∧ (s.meas.captures.get l = none → s.meas.lastReport.state = .black →
              AnsweredOnly (.takeSnapshot l) l 0x60 .stationBlack s)
          ∧ (s.meas.captures.get l = none → s.meas.lastReport.state ≠ .black →
              exec (.takeSnapshot l) s =
                .next (State.answer
                  { s.arrive (.takeSnapshot l) with
                    meas :=
                      { s.meas with
                        snapshots := s.meas.snapshots.put l { s.meas.snapshots.get l with ready := false }
                        captures :=
                          s.meas.captures.put l (some { count := 0, filtered := 0, pg := 0, pb := 0, ps := 0 }) } }
                  l 0x60 .ok))
          ∧ ((s.meas.snapshots.get l).ready = true →
              exec (.readSnapshot l) s =
                .next (State.reply
                  { s.arrive (.readSnapshot l) with
                    meas :=
                      { s.meas with
                        snapshots := s.meas.snapshots.put l { s.meas.snapshots.get l with ready := false } } }
                  l 0x61 .ok (snapshotBytes (s.meas.snapshots.get l))))
          ∧ ((s.meas.snapshots.get l).ready = false → AnsweredOnly (.readSnapshot l) l 0x61 .wrongState s))
      ∧ (∀ r : Snapshot,
          snapshotBytes r =
            fieldBytes
              [(2, r.filtered), (2, r.pg), (2, r.pb), (2, r.ps), (2, r.d), (2, r.bands.h), (2, r.bands.w), (2, r.bands.c),
               (2, r.h), (2, r.w), (2, r.s), (1, stationCode r.station), (1, r.void.toNat)])
      ∧ (s.meas.captures.get l = none → s.capturePosting l = s)
      ∧ ∀ c : Capture, s.meas.captures.get l = some c →
          let n := c.count + 1
          let f := c.filtered + s.filtered.getD 0
          let pg := c.pg + s.meas.pg
          let pb := c.pb + s.meas.pb
          let ps := c.ps + s.meas.ps
          (n < 10 →
              s.capturePosting l =
                { s with
                  meas :=
                    { s.meas with
                      captures :=
                        s.meas.captures.put l (some { count := n, filtered := f, pg := pg, pb := pb, ps := ps }) } })
            ∧ (10 ≤ n →
                s.capturePosting l =
                  { s with
                    links := (s.addNotice l .snapshot).links
                    meas :=
                      { s.meas with
                        captures := s.meas.captures.put l none
                        snapshots :=
                          s.meas.snapshots.put l
                            { filtered := f / n, pg := pg / n, pb := pb / n, ps := ps / n, d := s.alw.d
                              bands := s.alw.bands, h := s.hSum, w := s.wSum, s := s.sSum
                              station := s.meas.lastReport.state, void := false, ready := true } } })

/-! ### Station Links and Settings Unit -/

/-- R163: READ NOTICES returns the set and empties it, and ATTN is released; SET NOTICE MASK replaces the mask and leaves the
set, and ATTN is judged by the new mask. -/
def Obligations.NoticesAreReadAndMasked : Prop :=
  ∀ (l : Link) (mask : NoticeSet) (s : State), s.held = false →
    let emptied : State := (s.arrive (.readNotices l)).onLink l fun c => { c with notices := 0 }
    let masked : State := (s.arrive (.setNoticeMask l mask)).onLink l fun c => { c with mask := mask }
    exec (.readNotices l) s =
        .next (emptied.reply l 0x01 .ok (u16 (s.link l).notices.toNat))
      ∧ (emptied.reply l 0x01 .ok (u16 (s.link l).notices.toNat)).attn l = false
      ∧ exec (.setNoticeMask l mask) s = .next (masked.answer l 0x02 .ok)
      ∧ (masked.answer l 0x02 .ok).attn l = decide ((s.link l).notices &&& mask ≠ 0)

/-- R20, R38, R39, R57, R82, R90, R91, R97, R117, R151, R161, R170, R171, R174: NULL and the reads of a claim, a feeder, the
saw, the station, the reset cause and a settings record change nothing but the reply, which holds the record as it stands;
the layouts of the records, field by field in order with every code, and of the settings records. A change of KEY is sampled
at once; that it is not sampled while a reset is held is log 21. The water headroom takes Bc as log 29 reads R37, an absent
filtered frequency is 0, and a record out of range is refused before the proposal is looked at (log 36). -/
def Obligations.ReadsAndTheKeySample : Prop :=
  (∀ (l : Link) (s : State), s.held = false →
      let read (i : Instr) (code : Byte) (data : List Byte) : Prop :=
        exec i s = .next ((s.arrive i).reply l code .ok data)
      AnsweredOnly (.null l) l 0x00 .ok s
        ∧ (read (.readStation l) 0x08 s.stationRecord ∧ s.stationRecord.length = 35)
        ∧ (read (.readSaw l) 0x57 s.sawRecord ∧ s.sawRecord.length = 22)
        ∧ (∀ k : Fin 12, read (.readFeeder l (k.val + 1)) 0x43 (s.feederRecord k) ∧ (s.feederRecord k).length = 19)
        ∧ (∀ n : Fin 24, read (.readClaim l n.val) 0x23 (s.claimRecord n) ∧ (s.claimRecord n).length = 24)
        ∧ (∀ n : Nat, 23 < n → AnsweredOnly (.readClaim l n) l 0x23 .badOperand s)
        ∧ read (.readResetCause l) 0x07 (u8 (if s.cause = .powerOn then 0 else 1)))
    ∧ (∀ s : State,
        let b (x : Bool) : Nat × Nat := (1, x.toNat)
        s.stationRecord =
            fieldBytes
              [(1, stationCode s.reg.station), (1, s.reg.reasons.frequency.toNat + 2 * s.reg.reasons.budget.toNat),
               (2, s.filtered.getD 0), (2, s.alw.d), b s.alw.stale, (2, s.alw.bands.h), (2, s.alw.bands.w),
               (2, s.alw.bands.c), (2, s.need), (2, s.hSum), (2, s.wSum), (2, s.sSum), (2, s.reg.bd), (2, s.bc),
               (2, s.meas.pb), (2, s.headroom), b s.meas.discrepancy, b s.reg.tripLatch, (1, keyCode s.set.key),
               (1, s.alw.queue.length), (1, s.alw.line.length), b s.reg.quiet]
          ∧ (∀ n : Fin 24,
              let c := s.claim n
              let moment : Option Nat := c.waitDeadline.or (c.dueTime.or c.surgeEnd)
              s.claimRecord n =
                fieldBytes
                  [(1, n.val), (1, if n.val < 4 then 1 else if n.val < 10 then 2 else 3), (1, claimStateCode c.state),
                   (2, c.amount), (2, c.runAmount.getD 0xFFFF), (1, (c.surgeEnded.map Bool.toNat).getD 0xFF),
                   (2, c.surgeTime.getD 0xFFFF), (1, c.leadTime), (2, c.waitLimit.getD 0xFFFF),
                   (1, bindingCode c.binding), (1, c.tag), (2, (moment.map fun t => t - s.clock).getD 0xFFFF),
                   (1, endingCode c.last), (2, c.committed), (2, s.ownPortion n), (2, s.commonPortion n)])
          ∧ (∀ k : Fin 12,
              let f := s.feeder k
              let c := s.set.tables.feeders[k]
              let elapsed (i : Nat) : Nat × Nat :=
                (2, (f.history[i]?.map fun t => min ((s.clock - t) / 100) 65534).getD 0xFFFF)
              s.feederRecord k =
                fieldBytes
                  [(2, c.rating), (1, c.rank), (1, classCode c.cls), b c.autoRestore, (1, c.leadTime),
                   (1, feederStateCode f.state), b f.restoring, (1, feederFaultCode f.state), (1, f.history.length),
                   elapsed 0, elapsed 1, elapsed 2, b f.close, b (s.feederDriven k), b s.pins.fb[k]])
          ∧ (let st := s.saw.state
             let c := s.saw.commands
             s.sawRecord =
               fieldBytes
                 [(1, sawStateCode st), (1, holdReasonCode st), (1, directionCode st.direction), (1, sawFaultCode st),
                  (1, s.saw.speed), b s.saw.bladeQuiet, b c.line, b s.lineDriven, b c.star, b s.starDriven, b c.delta,
                  b s.deltaDriven, b c.feedFwd, b s.fwdDriven, b c.feedRet, b s.retDriven, b s.pins.lineFb,
                  b s.pins.starFb, b s.pins.deltaFb, b s.pins.fwdEnd, b s.pins.retEnd, b s.pins.estop]))
    ∧ ([StationState.black, .warming, .regulating, .deficit, .runaway].map stationCode = [0, 1, 2, 3, 4]
        ∧ [ClaimState.free, .waiting, .pending, .carried].map claimStateCode = [0, 1, 2, 3]
        ∧ [Ending.noEnding, .withdrawn, .released, .expired, .cancelled, .shed, .forced, .linkLost, .fault].map endingCode
          = [0, 1, 2, 3, 4, 5, 6, 7, 8]
        ∧ bindingCode .nothing = 0 ∧ (∀ x : Fin 6, bindingCode (.aux x) = 1 + x.val)
        ∧ (∀ k : Fin 12, bindingCode (.feeder k) = 0x11 + k.val) ∧ bindingCode .saw = 0x20
        ∧ [FeederState.off, .waiting, .pending, .on, .shed, .locked, .fault .mismatch, .fault .dropped, .fault .welded].map
            (fun f => (feederStateCode f, feederFaultCode f))
          = [(0, 0xFF), (1, 0xFF), (2, 0xFF), (3, 0xFF), (4, 0xFF), (5, 0xFF), (6, 1), (6, 2), (6, 3)]
        ∧ (let saw (f : SawState) : List Nat :=
             [sawStateCode f, holdReasonCode f, directionCode f.direction, sawFaultCode f]
           let way : Direction → Nat
             | .forward => 1
             | .back => 2
           saw .stopped = [0, 0xFF, 0xFF, 0xFF] ∧ saw .startWait = [1, 0xFF, 0xFF, 0xFF]
             ∧ saw .star = [2, 0xFF, 0xFF, 0xFF] ∧ saw .changeover = [3, 0xFF, 0xFF, 0xFF]
             ∧ saw .run = [4, 0xFF, 0xFF, 0xFF] ∧ (∀ d : Direction, saw (.feedWait d) = [5, 0xFF, way d, 0xFF])
             ∧ saw .feeding = [6, 0xFF, 1, 0xFF] ∧ saw .returning = [7, 0xFF, 2, 0xFF]
             ∧ (∀ d : Direction, saw (.feedHold .overload d) = [8, 1, way d, 0xFF]
                 ∧ saw (.feedHold .manual d) = [8, 2, way d, 0xFF] ∧ saw (.feedHold .shed d) = [8, 3, way d, 0xFF])
             ∧ saw .stopping = [9, 0xFF, 0xFF, 0xFF]
             ∧ [SawFault.stall, .startStall, .contactor, .estop, .limit].map (fun k => saw (.fault k))
               = [[10, 0xFF, 0xFF, 1], [10, 0xFF, 0xFF, 2], [10, 0xFF, 0xFF, 3], [10, 0xFF, 0xFF, 4],
                  [10, 0xFF, 0xFF, 5]])
        ∧ [FeederClass.ordinary, .essential].map classCode = [0, 1] ∧ [Key.keyRemote, .keyLocal].map keyCode = [0, 1]
        ∧ [Link.l1, .l2, .l3].map linkCode = [1, 2, 3]
        ∧ targetCode none = 0 ∧ (∀ k : Fin 12, targetCode (some (.feeder k)) = 1 + k.val)
        ∧ targetCode (some (.saw .feedHold)) = 0x10 ∧ targetCode (some (.saw .stop)) = 0x11)
    ∧ ((∀ t : ChannelsTable,
          tableBytes (.channels t) =
            [fieldBytes [(2, t.rating[0])], fieldBytes [(2, t.rating[1])], fieldBytes [(2, t.rating[2])],
             fieldBytes [(2, t.rating[3])], fieldBytes [(2, t.reserveFloor), (1, t.loopGain)]])
        ∧ (∀ t : SawTable,
            tableBytes (.saw t) =
              [fieldBytes
                 [(2, t.start.startSurge), (2, t.start.runAmount), (1, t.start.startLead), (1, t.start.starTimeMax),
                  (1, t.start.changeoverSpeed), (1, t.start.startStallLevel), (1, t.start.deadTime),
                  (2, t.start.ratedPulseRate), (1, t.start.stallLevel)],
               fieldBytes
                 [(2, t.feed.feedAmount), (2, t.feed.returnAmount), (1, t.feed.feedLead), (1, t.feed.overloadMargin),
                  (1, t.feed.overloadTime), (1, t.feed.resumeLevel), (1, t.feed.resumeTime)]])
        ∧ (∀ (t : Vector FeederConfig 12) (k : Fin 12),
            (tableBytes (.feeders t)).length = 12
              ∧ recordBytes (.feeders t) (k.val + 1) =
                fieldBytes
                  [(2, t[k].rating), (1, t[k].rank), (1, classCode t[k].cls), (1, t[k].autoRestore.toNat),
                   (1, t[k].leadTime)])
        ∧ (∀ t : BandsTable, tableBytes (.bands t) = [fieldBytes [(2, t.hres), (2, t.wres)]])
        ∧ (∀ (t : ShedOrderTable) (j : Fin 16),
            (tableBytes (.shedOrder t)).length = 16
              ∧ recordBytes (.shedOrder t) (j.val + 1) = fieldBytes [(1, targetCode t[j])])
        ∧ ∀ t : ThresholdsTable,
            tableBytes (.thresholds t) =
              [fieldBytes
                [(2, t.shedThreshold), (1, t.shedDelay), (2, t.fastThreshold), (1, t.fastDelay), (2, t.recoveryLevel),
                 (1, t.recoveryTime), (2, t.runawayLevel), (1, t.runawayDelay), (2, t.runawayExit), (2, t.tripLevel),
                 (1, t.tripDelay), (1, t.shedInterval), (2, t.restoreHold), (2, t.stagger), (1, t.warmUp),
                 (1, t.lockCount * 64 + t.lockWindow)]])
    ∧ (∀ s : State,
        (∀ (l : Link) (t : TableId) (r : Nat), s.held = false →
            let i (c : CopyId) : Instr := .readTable l t r c
            let out : Prop := r = 0 ∨ recordCount t < r
            (out → ∀ c : CopyId, AnsweredOnly (i c) l 0x30 .badOperand s)
              ∧ (¬ out →
                  exec (i .committed) s =
                    .next ((s.arrive (i .committed)).reply l 0x30 .ok (0 :: recordBytes (s.set.tables.copy t) r)))
              ∧ (¬ out → sharedOf t = none → AnsweredOnly (i .proposed) l 0x30 .noProposal s)
              ∧ ∀ sh : SharedId, sharedOf t = some sh → ¬ out →
                  (s.set.proposal sh = none → AnsweredOnly (i .proposed) l 0x30 .noProposal s)
                    ∧ ∀ p : Proposal, s.set.proposal sh = some p →
                        exec (i .proposed) s =
                          .next ((s.arrive (i .proposed)).reply l 0x30 .ok
                            (BitVec.ofNat 8 (linkCode p.proposer) :: recordBytes p.copy r)))
          ∧ ∀ k : Key,
              exec (.keyChange k) s =
                .next
                  { s with
                    pins := { s.pins with key := k }
                    set := { s.set with key := if s.held then s.set.key else k } })

/-- R58: the split READ CLAIM shows: each group's own band is given out in ascending claim number, each claim receiving the
lesser of its committed amount and what remains; a supply claim draws wholly on the common band, a FREE or WAITING claim
shows 0 and 0, and the common portions of a group add up to its part of the common need. -/
def Obligations.ClaimSplitAddsUpToTheNeed : Prop :=
  ∀ s : State,
    let given (n : Fin 24) (g : Group) : Nat := ((g.claims.filter fun m => m.val < n.val).map s.ownPortion).sum
    (∀ n : Fin 24, s.ownPortion n + s.commonPortion n = (s.claim n).committed)
      ∧ (∀ n ∈ Group.hamlet.claims, s.ownPortion n = min (s.claim n).committed (s.alw.bands.h - given n .hamlet))
      ∧ (∀ n ∈ Group.saw.claims, s.ownPortion n = min (s.claim n).committed (s.alw.bands.w - given n .saw))
      ∧ (∀ n ∈ Group.supply.claims, s.ownPortion n = 0)
      ∧ (∀ n : Fin 24, (s.claim n).state = .free ∨ (s.claim n).state = .waiting →
          s.ownPortion n = 0 ∧ s.commonPortion n = 0)
      ∧ (Group.hamlet.claims.map s.commonPortion).sum = s.hSum - s.alw.bands.h
      ∧ (Group.saw.claims.map s.commonPortion).sum = s.wSum - s.alw.bands.w
      ∧ (Group.supply.claims.map s.commonPortion).sum = s.sSum

/-- R94 to R96, R99: CONFIRM from a link other than the proposer commits the proposal, or discards it where a BANDS proposal
no longer fits the claims; REJECT and the expiry discard it; in each case the proposer is told. -/
def Obligations.ProposalsAreConfirmedOrDiscarded : Prop :=
  ∀ s : State, s.held = false →
    let gone (base : State) (sh : SharedId) (p : Proposal) : State :=
      { base with set := (s.setProposal sh none).set, links := (s.addNotice p.proposer .settings).links }
    (∀ (l : Link) (t : TableId),
        let con : Instr := .confirm l t
        let rej : Instr := .reject l t
        let both (st : Status) : Prop := AnsweredOnly con l 0x31 st s ∧ AnsweredOnly rej l 0x32 st s
        (sharedOf t = none → both .badOperand)
          ∧ ∀ sh : SharedId, sharedOf t = some sh →
              (s.set.proposal sh = none → both .noProposal)
                ∧ ∀ p : Proposal, s.set.proposal sh = some p →
                    (p.proposer = l → both .sameLink)
                      ∧ (p.proposer ≠ l →
                          exec rej s = .next ((gone (s.arrive rej) sh p).answer l 0x32 .ok)
                            ∧ (s.committedFits p.copy = true →
                                exec con s = .next (((gone (s.arrive con) sh p).commit p.copy).answer l 0x31 .ok))
                            ∧ (s.committedFits p.copy = false →
                                exec con s = .next ((gone (s.arrive con) sh p).answer l 0x31 .committedExceeds))))
      ∧ (∀ (sh : SharedId) (p : Proposal), s.set.proposal sh = some p →
          exec (.proposalExpiry sh) s = .next (gone { s with now := max s.now (p.expiry * 10000) } sh p))
      ∧ (∀ sh : SharedId, s.set.proposal sh = none → exec (.proposalExpiry sh) s = .next s)
      ∧ ∀ t : BandsTable,
          let h := min t.hres s.alw.d
          let w := min t.wres (s.alw.d - h)
          s.committedFits (.bands t) = true ↔ (s.hSum - h) + (s.wSum - w) + s.sSum ≤ s.alw.d - h - w

/-- R34, R92, R93, R98 to R100, R103, R104, R132, R149, R165: LOAD DATA writes a record into the staging copy at the pointer;
the last record completes the load, which is refused, committed or proposed, and closes the window; and what a commit brings
with it. A staged table is read back exactly where it is the bytes of a table in the ranges and orders of its chapter, and
its owner's live state allows it exactly as its chapter says. -/
def Obligations.LoadsAreStagedAndTaken : Prop :=
  ∀ s : State,
    (∀ (l : Link) (bytes : List Byte), s.held = false →
        let i : Instr := .loadData l bytes
        let windowed (w : Option Window) : State := (s.arrive i).onLink l fun c => { c with window := w }
        ((s.link l).window = none → AnsweredOnly i l 0x04 .noWindow s)
          ∧ ∀ w : Window, (s.link l).window = some w →
              let r := w.range
              let staging := w.staging.set (r.pointer - 1) bytes
              let fits : Prop := bytes.length = recordSize r.table r.pointer
              (¬ fits → AnsweredOnly i l 0x04 .badOperand s)
                ∧ (fits → r.pointer < r.last →
                    exec i s =
                      .next ((windowed (some { range := { r with pointer := r.pointer + 1 }, staging := staging })).answer
                        l 0x04 .ok))
                ∧ (fits → r.last ≤ r.pointer →
                    let taken := (windowed none).takeLoad l r.table staging
                    exec i s = .next (taken.1.answer l 0x04 taken.2)))
      ∧ (∀ (t : TableId) (staging : List (List Byte)) (c : TableCopy),
          tableFrom t staging = some c ↔ c.id = t ∧ TableSound c ∧ tableBytes c = staging)
      ∧ (∀ c : TableCopy, s.liveStateAllows c = true ↔ LiveStateFits s c)
      ∧ (∀ (l : Link) (t : TableId) (staging : List (List Byte)),
          (tableFrom t staging = none → s.takeLoad l t staging = (s, .badRecord))
            ∧ ∀ c : TableCopy, tableFrom t staging = some c →
                (s.liveStateAllows c = false → s.takeLoad l t staging = (s, .badRecord))
                  ∧ (s.liveStateAllows c = true → sharedOf t = none → s.takeLoad l t staging = (s.commit c, .ok))
                  ∧ ∀ sh : SharedId, s.liveStateAllows c = true → sharedOf t = some sh →
                      (s.set.key = .keyLocal → s.committedFits c = true → s.takeLoad l t staging = (s.commit c, .ok))
                        ∧ (s.set.key = .keyLocal → s.committedFits c = false →
                            s.takeLoad l t staging = (s, .committedExceeds))
                        ∧ (s.set.key = .keyRemote →
                            s.takeLoad l t staging =
                              ({ s with
                                 set :=
                                   (s.setProposal sh
                                     (some { copy := c, proposer := l, expiry := s.clock + 500 })).set
                                 links := (s.addNotices (otherLinks l) .settings).links }, .ok)))
      ∧ ∀ c : TableCopy,
          let u : State := { s with set := { s.set with tables := s.set.tables.store c } }
          let banded := u.recomputeBands
          (c.id = .channels → s.commit c = if s.reg.station = .black then u.fullBallast else u)
            ∧ (c.id = .bands →
                s.commit c = if banded.alw.bands = s.alw.bands then banded else banded.budgetCheck.consider)
            ∧ (c.id ≠ .channels → c.id ≠ .bands → s.commit c = u)

/-- R93, R164, R166: OPEN WINDOW is checked and then opens a window with a staging copy of the committed table; on a shared
table every other window on it is pre-empted and its proposal discarded, each with its notices. -/
def Obligations.OpenWindowClearsTheWay : Prop :=
  ∀ (l : Link) (t : TableId) (first last : Nat) (s : State), s.held = false →
    let i : Instr := .openWindow l t first last
    let others : Prop := ∃ m : Link, tableOwner t = some m ∧ m ≠ l
    let out : Prop := first = 0 ∨ recordCount t < last ∨ last < first
    (others → AnsweredOnly i l 0x03 .notYourTable s)
      ∧ (¬ others → out → AnsweredOnly i l 0x03 .badOperand s)
      ∧ (¬ others → ¬ out →
          Completes i s fun u =>
            u.link l =
                { s.link l with
                  window :=
                    some
                      { range := { table := t, first := first, last := last, pointer := first }
                        staging := tableBytes (s.set.tables.copy t) }
                  buffer := some { code := 0x03, status := .ok, data := [] } }
              ∧ (sharedOf t = none →
                  u.set = s.set ∧ ∀ m : Link, m ≠ l → u.link m = s.link m)
              ∧ (∀ sh : SharedId, sharedOf t = some sh →
                  u.set = (s.setProposal sh none).set
                    ∧ ∀ m : Link, m ≠ l →
                        let c := s.link m
                        let preempted : Bool := c.window.any fun w => decide (w.range.table = t)
                        let proposer : Bool := (s.set.proposal sh).any fun p => decide (p.proposer = m)
                        let bystander : Bool := (s.set.proposal sh).any fun p => decide (p.proposer ≠ m)
                        u.link m =
                          { c with
                            window := if preempted then none else c.window
                            broken := c.broken || preempted || proposer
                            notices :=
                              c.notices ||| (if preempted || proposer then Notice.broken.bit else 0)
                                ||| if bystander then Notice.settings.bit else 0 })
              ∧ u = { s.arrive i with set := u.set, links := u.links })

/-- R15, R162, R167 to R169: SUPERVISE sets the period and the remaining time; at its expiry an ACTIVE link is LOST, the
other links are told and the loss is reported, to the Allowance Unit before the saw (the model's order, log 38). The expiry of
a remaining time that does not run, on a link that is LOST or not supervised, does nothing (log 20). READ LINK answers the
link's state and window as its last valid frame found them (an older frame's where none brought the order, log 12) and the rest
as it stands, with the link state's code a free value (log 16), and clears BROKEN; and the report of a station change adds
STATION, and CLOSE_GATE to L1 at entry to RUNAWAY. -/
def Obligations.SupervisionAndLinkReports : Prop :=
  ∀ (l : Link) (s : State), s.held = false →
    let c := s.link l
    (∀ p : Nat,
        (p < 5 ∨ 255 < p → AnsweredOnly (.supervise l p) l 0x05 .badOperand s)
          ∧ (5 ≤ p → p ≤ 255 →
              exec (.supervise l p) s =
                .next (((s.arrive (.supervise l p)).onLink l fun c =>
                  { c with
                    supervision :=
                      some { period := p, deadline := if c.lost then none else some (s.clock + 10 * p) } }).answer l 0x05
                  .ok)))
      ∧ (∀ p d : Nat, c.lost = false → c.supervision = some { period := p, deadline := some d } →
          Completes (.supervisionExpiry l) s fun t =>
            t.link l = { c with lost := true, supervision := some { period := p, deadline := none } }
              ∧ (∀ m : Link, m ≠ l → t.link m = (s.addNotice m .link).link m)
              ∧ t =
                { s with
                  now := max s.now (d * 10000)
                  transit := s.transit ++ [.linkLossReportAllowance l, .linkLossReportSaw l]
                  links := t.links })
      ∧ (c.lost = true ∨ c.supervision.bind Supervision.deadline = none → exec (.supervisionExpiry l) s = .next s)
      ∧ (exec (.readLink l) s =
            .next (((s.arrive (.readLink l)).onLink l fun c => { c with broken := false }).reply l 0x06 .ok
              (s.linkRecord l))
          ∧ (s.linkRecord l).length = 14
          ∧ s.linkRecord l =
            Config.linkStateCode c.atFrame.lost ::
              fieldBytes
                [(1, c.supervision.isSome.toNat), (1, (c.supervision.map Supervision.period).getD 0),
                 (2, ((c.supervision.bind Supervision.deadline).map fun t => t - s.clock).getD 0), (1, c.discarded),
                 (1, c.broken.toNat), (2, c.mask.toNat), (1, c.atFrame.window.isSome.toNat),
                 (1, (c.atFrame.window.map fun w => tableCode w.table).getD 0),
                 (1, (c.atFrame.window.map WindowRange.first).getD 0),
                 (1, (c.atFrame.window.map WindowRange.last).getD 0),
                 (1, (c.atFrame.window.map WindowRange.pointer).getD 0)]
          ∧ [TableId.channels, .saw, .feeders, .bands, .shedOrder, .thresholds].map tableCode = [1, 2, 3, 4, 5, 6])
      ∧ ∀ r : StateReport,
          exec (.linkStateReport l r) s =
            .next ((s.arrive (.linkStateReport l r)).onLink l fun c =>
              { c with
                notices :=
                  c.notices ||| Notice.station.bit
                    ||| if l = .l1 ∧ r.entered = .runaway then Notice.closeGate.bit else 0 })

/-! ### Resets -/

/-- R19, R32, R45, R60, R83, R89, R101, R116, R126, R150, R155, R168, R171, R172: a power-on reset and a panel reset put
every block in its reset state, the one with the default tables and a clear TRIP latch, the other keeping both; every output
is open, every heater fires and Bd is the capacity while they are held. At the release KEY is sampled, supervision is set by
the strap, the reset cause is recorded, the contactor timings of contacts that read closed start, the saw starts afresh, and
ESTOP and the limits are judged. The model's choices: messages between blocks are lost at a reset (log 1), ESTOP is judged
before the limits (log 15), a release with no reset held does nothing (log 20), and the strap is an operand (log 27). -/
def Obligations.ResetsAndTheirRelease : Prop :=
  ∀ s : State,
    let inReset (t : State) (tables : Tables) (trip rose : Bool) : Prop :=
      t =
          { s with
            transit := [], held := true, supplyRose := rose, links := t.links
            reg := .initial tables trip, alw := State.reset.alw, fdr := .initial tables, saw := .initial s.clock
            meas := State.reset.meas
            set :=
              { tables := tables, bandsProposal := none, shedOrderProposal := none, thresholdsProposal := none
                key := s.set.key } }
        ∧ (∀ l : Link, t.link l = { State.reset.link l with selectLow := (s.link l).selectLow } ∧ t.attn l = false)
        ∧ (∀ i : Fin 4, t.balHigh i = false) ∧ (∀ n : Fin 24, t.carryEnable n = false)
        ∧ t.reg.station = .black ∧ t.reg.reasons = .empty ∧ t.reg.tripLatch = trip
        ∧ t.reg.ratings = tables.channels.rating ∧ t.reg.bd = t.capacity ∧ t.capacity = tables.channels.rating.toList.sum
        ∧ t.reg.levels = #v[64, 64, 64, 64] ∧ t.reg.counts = #v[0, 0, 0, 0]
        ∧ t.reg.conducting = #v[true, true, true, true] ∧ t.reg.history = [] ∧ t.reg.validRun = 0 ∧ t.reg.discardRun = 0
        ∧ t.reg.lastCrossing = none ∧ t.reg.quiet = false
        ∧ (∀ k : Fin 12,
            t.feeder k =
              { state := if tables.feeders[k].rating ≠ 0 ∧ tables.feeders[k].autoRestore = true then .shed else .off
                close := false, restoring := false, history := [], follow := .stopped, stuck := .stopped })
        ∧ t.fdr.cursor = .idle ∧ t.fdr.step = .stopped ∧ t.saw.state = .stopped ∧ t.saw.commands = .allOff
    Completes .powerOnReset s (fun t => inReset t .default false true)
      ∧ Completes .panelReset s (fun t => inReset t s.set.tables s.reg.tripLatch s.supplyRose)
      ∧ ∀ strap : Bool,
          (s.held = false → exec (.resetRelease strap) s = .next s)
            ∧ (s.held = true →
                Completes (.resetRelease strap) s fun t =>
                  t.held = false ∧ t.supplyRose = false ∧ t.cause = (if s.supplyRose then .powerOn else .panel)
                    ∧ t.set =
                      { tables := s.set.tables, bandsProposal := none, shedOrderProposal := none
                        thresholdsProposal := none, key := s.pins.key }
                    ∧ (∀ l : Link,
                        let supervision : Option Supervision :=
                          if strap then some { period := 20, deadline := some (s.clock + 200) } else none
                        ∃ notices : NoticeSet,
                          t.link l =
                              { State.reset.link l with
                                supervision := supervision, selectLow := (s.link l).selectLow, notices := notices }
                            ∧ (l ≠ .l2 → notices = 0))
                    ∧ (s.pins.estop = true → t.saw.state = .fault .estop)
                    ∧ (s.pins.estop = false → s.pins.fwdEnd = true → s.pins.retEnd = true →
                        t.saw.state = .fault .limit)
                    ∧ (s.pins.estop = false → s.pins.fwdEnd = false ∨ s.pins.retEnd = false → t.saw.state = .stopped)
                    ∧ (∀ k : Fin 12,
                        t.feeder k =
                            { s.feeder k with follow := (t.feeder k).follow, stuck := (t.feeder k).stuck }
                          ∧ ((s.feeder k).state.isFault = false → (s.feeder k).stuck = .stopped →
                              (s.feeder k).close = false → s.pins.fb[k] = true →
                              (t.feeder k).stuck = .running s.clock))
                    ∧ t.saw.commands = .allOff ∧ t.saw.windowEnd = s.clock + 25 ∧ t.saw.bladeQuiet = false
                    ∧ t.saw.quietDeadline = s.clock + 200
                    ∧ t =
                      { s with
                        held := false, supplyRose := false, cause := t.cause, set := t.set, saw := t.saw, fdr := t.fdr
                        links := t.links, transit := t.transit }
                    ∧ (let supervision : Option Supervision :=
                         if strap then some { period := 20, deadline := some (s.clock + 200) } else none
                       let link (c : LinkContext) : LinkContext :=
                         { State.reset.links.l1 with supervision := supervision, selectLow := c.selectLow }
                       let begun : State :=
                         State.sync
                           { s with
                             held := false, supplyRose := false, cause := t.cause, set := t.set
                             links := { l1 := link s.links.l1, l2 := link s.links.l2, l3 := link s.links.l3 }
                             saw :=
                               { State.reset.saw with windowEnd := s.clock + 25, quietDeadline := s.clock + 200 } }
                       t =
                         if s.pins.estop then sawFaulting begun .estop
                         else if s.pins.fwdEnd && s.pins.retEnd then sawFaulting begun .limit
                         else begun))
end

