-- ==== Sys2Proof/Laws/State.lean ====
section
/-! SUPPORT. What each shared operation of Machine/Ops.lean leaves as it was: one lemma for each field of State, so that no
proof unfolds a record update to see that a field is untouched. -/

namespace Sys2Proof.Machine

/-- Two states with the same fields are the same state. -/
theorem state_eq {s t : State} (pending : s.pending = t.pending) (transit : s.transit = t.transit) (now : s.now = t.now)
    (held : s.held = t.held) (supplyRose : s.supplyRose = t.supplyRose) (cause : s.cause = t.cause) (reg : s.reg = t.reg)
    (alw : s.alw = t.alw) (fdr : s.fdr = t.fdr) (saw : s.saw = t.saw) (meas : s.meas = t.meas) (set : s.set = t.set)
    (links : s.links = t.links) (pins : s.pins = t.pins) : s = t := by
  cases s; cases t; simp_all

variable (s : State)

/-! ### send changes: transit -/

@[simp] theorem send_pending (m : Instr) : (s.send m).pending = s.pending := rfl
@[simp] theorem send_now (m : Instr) : (s.send m).now = s.now := rfl
@[simp] theorem send_held (m : Instr) : (s.send m).held = s.held := rfl
@[simp] theorem send_supplyRose (m : Instr) : (s.send m).supplyRose = s.supplyRose := rfl
@[simp] theorem send_cause (m : Instr) : (s.send m).cause = s.cause := rfl
@[simp] theorem send_reg (m : Instr) : (s.send m).reg = s.reg := rfl
@[simp] theorem send_alw (m : Instr) : (s.send m).alw = s.alw := rfl
@[simp] theorem send_fdr (m : Instr) : (s.send m).fdr = s.fdr := rfl
@[simp] theorem send_saw (m : Instr) : (s.send m).saw = s.saw := rfl
@[simp] theorem send_meas (m : Instr) : (s.send m).meas = s.meas := rfl
@[simp] theorem send_set (m : Instr) : (s.send m).set = s.set := rfl
@[simp] theorem send_links (m : Instr) : (s.send m).links = s.links := rfl
@[simp] theorem send_pins (m : Instr) : (s.send m).pins = s.pins := rfl

/-! ### sendAll changes: transit -/

@[simp] theorem sendAll_pending (ms : List Instr) : (s.sendAll ms).pending = s.pending := rfl
@[simp] theorem sendAll_now (ms : List Instr) : (s.sendAll ms).now = s.now := rfl
@[simp] theorem sendAll_held (ms : List Instr) : (s.sendAll ms).held = s.held := rfl
@[simp] theorem sendAll_supplyRose (ms : List Instr) : (s.sendAll ms).supplyRose = s.supplyRose := rfl
@[simp] theorem sendAll_cause (ms : List Instr) : (s.sendAll ms).cause = s.cause := rfl
@[simp] theorem sendAll_reg (ms : List Instr) : (s.sendAll ms).reg = s.reg := rfl
@[simp] theorem sendAll_alw (ms : List Instr) : (s.sendAll ms).alw = s.alw := rfl
@[simp] theorem sendAll_fdr (ms : List Instr) : (s.sendAll ms).fdr = s.fdr := rfl
@[simp] theorem sendAll_saw (ms : List Instr) : (s.sendAll ms).saw = s.saw := rfl
@[simp] theorem sendAll_meas (ms : List Instr) : (s.sendAll ms).meas = s.meas := rfl
@[simp] theorem sendAll_set (ms : List Instr) : (s.sendAll ms).set = s.set := rfl
@[simp] theorem sendAll_links (ms : List Instr) : (s.sendAll ms).links = s.links := rfl
@[simp] theorem sendAll_pins (ms : List Instr) : (s.sendAll ms).pins = s.pins := rfl

/-! ### arrive changes: transit -/

@[simp] theorem arrive_pending (m : Instr) : (s.arrive m).pending = s.pending := rfl
@[simp] theorem arrive_now (m : Instr) : (s.arrive m).now = s.now := rfl
@[simp] theorem arrive_held (m : Instr) : (s.arrive m).held = s.held := rfl
@[simp] theorem arrive_supplyRose (m : Instr) : (s.arrive m).supplyRose = s.supplyRose := rfl
@[simp] theorem arrive_cause (m : Instr) : (s.arrive m).cause = s.cause := rfl
@[simp] theorem arrive_reg (m : Instr) : (s.arrive m).reg = s.reg := rfl
@[simp] theorem arrive_alw (m : Instr) : (s.arrive m).alw = s.alw := rfl
@[simp] theorem arrive_fdr (m : Instr) : (s.arrive m).fdr = s.fdr := rfl
@[simp] theorem arrive_saw (m : Instr) : (s.arrive m).saw = s.saw := rfl
@[simp] theorem arrive_meas (m : Instr) : (s.arrive m).meas = s.meas := rfl
@[simp] theorem arrive_set (m : Instr) : (s.arrive m).set = s.set := rfl
@[simp] theorem arrive_links (m : Instr) : (s.arrive m).links = s.links := rfl
@[simp] theorem arrive_pins (m : Instr) : (s.arrive m).pins = s.pins := rfl

/-! ### reach changes: now -/

@[simp] theorem reach_pending (t : Nat) : (s.reach t).pending = s.pending := rfl
@[simp] theorem reach_transit (t : Nat) : (s.reach t).transit = s.transit := rfl
@[simp] theorem reach_held (t : Nat) : (s.reach t).held = s.held := rfl
@[simp] theorem reach_supplyRose (t : Nat) : (s.reach t).supplyRose = s.supplyRose := rfl
@[simp] theorem reach_cause (t : Nat) : (s.reach t).cause = s.cause := rfl
@[simp] theorem reach_reg (t : Nat) : (s.reach t).reg = s.reg := rfl
@[simp] theorem reach_alw (t : Nat) : (s.reach t).alw = s.alw := rfl
@[simp] theorem reach_fdr (t : Nat) : (s.reach t).fdr = s.fdr := rfl
@[simp] theorem reach_saw (t : Nat) : (s.reach t).saw = s.saw := rfl
@[simp] theorem reach_meas (t : Nat) : (s.reach t).meas = s.meas := rfl
@[simp] theorem reach_set (t : Nat) : (s.reach t).set = s.set := rfl
@[simp] theorem reach_links (t : Nat) : (s.reach t).links = s.links := rfl
@[simp] theorem reach_pins (t : Nat) : (s.reach t).pins = s.pins := rfl

/-! ### reachTick changes: now -/

@[simp] theorem reachTick_pending (t : Nat) : (s.reachTick t).pending = s.pending := rfl
@[simp] theorem reachTick_transit (t : Nat) : (s.reachTick t).transit = s.transit := rfl
@[simp] theorem reachTick_held (t : Nat) : (s.reachTick t).held = s.held := rfl
@[simp] theorem reachTick_supplyRose (t : Nat) : (s.reachTick t).supplyRose = s.supplyRose := rfl
@[simp] theorem reachTick_cause (t : Nat) : (s.reachTick t).cause = s.cause := rfl
@[simp] theorem reachTick_reg (t : Nat) : (s.reachTick t).reg = s.reg := rfl
@[simp] theorem reachTick_alw (t : Nat) : (s.reachTick t).alw = s.alw := rfl
@[simp] theorem reachTick_fdr (t : Nat) : (s.reachTick t).fdr = s.fdr := rfl
@[simp] theorem reachTick_saw (t : Nat) : (s.reachTick t).saw = s.saw := rfl
@[simp] theorem reachTick_meas (t : Nat) : (s.reachTick t).meas = s.meas := rfl
@[simp] theorem reachTick_set (t : Nat) : (s.reachTick t).set = s.set := rfl
@[simp] theorem reachTick_links (t : Nat) : (s.reachTick t).links = s.links := rfl
@[simp] theorem reachTick_pins (t : Nat) : (s.reachTick t).pins = s.pins := rfl

/-! ### onLink changes: links -/

@[simp] theorem onLink_pending (l : Link) (f : LinkContext → LinkContext) : (s.onLink l f).pending = s.pending := rfl
@[simp] theorem onLink_transit (l : Link) (f : LinkContext → LinkContext) : (s.onLink l f).transit = s.transit := rfl
@[simp] theorem onLink_now (l : Link) (f : LinkContext → LinkContext) : (s.onLink l f).now = s.now := rfl
@[simp] theorem onLink_held (l : Link) (f : LinkContext → LinkContext) : (s.onLink l f).held = s.held := rfl
@[simp] theorem onLink_supplyRose (l : Link) (f : LinkContext → LinkContext) : (s.onLink l f).supplyRose = s.supplyRose := rfl
@[simp] theorem onLink_cause (l : Link) (f : LinkContext → LinkContext) : (s.onLink l f).cause = s.cause := rfl
@[simp] theorem onLink_reg (l : Link) (f : LinkContext → LinkContext) : (s.onLink l f).reg = s.reg := rfl
@[simp] theorem onLink_alw (l : Link) (f : LinkContext → LinkContext) : (s.onLink l f).alw = s.alw := rfl
@[simp] theorem onLink_fdr (l : Link) (f : LinkContext → LinkContext) : (s.onLink l f).fdr = s.fdr := rfl
@[simp] theorem onLink_saw (l : Link) (f : LinkContext → LinkContext) : (s.onLink l f).saw = s.saw := rfl
@[simp] theorem onLink_meas (l : Link) (f : LinkContext → LinkContext) : (s.onLink l f).meas = s.meas := rfl
@[simp] theorem onLink_set (l : Link) (f : LinkContext → LinkContext) : (s.onLink l f).set = s.set := rfl
@[simp] theorem onLink_pins (l : Link) (f : LinkContext → LinkContext) : (s.onLink l f).pins = s.pins := rfl

/-! ### addNotice changes: links -/

@[simp] theorem addNotice_pending (l : Link) (k : Notice) : (s.addNotice l k).pending = s.pending := rfl
@[simp] theorem addNotice_transit (l : Link) (k : Notice) : (s.addNotice l k).transit = s.transit := rfl
@[simp] theorem addNotice_now (l : Link) (k : Notice) : (s.addNotice l k).now = s.now := rfl
@[simp] theorem addNotice_held (l : Link) (k : Notice) : (s.addNotice l k).held = s.held := rfl
@[simp] theorem addNotice_supplyRose (l : Link) (k : Notice) : (s.addNotice l k).supplyRose = s.supplyRose := rfl
@[simp] theorem addNotice_cause (l : Link) (k : Notice) : (s.addNotice l k).cause = s.cause := rfl
@[simp] theorem addNotice_reg (l : Link) (k : Notice) : (s.addNotice l k).reg = s.reg := rfl
@[simp] theorem addNotice_alw (l : Link) (k : Notice) : (s.addNotice l k).alw = s.alw := rfl
@[simp] theorem addNotice_fdr (l : Link) (k : Notice) : (s.addNotice l k).fdr = s.fdr := rfl
@[simp] theorem addNotice_saw (l : Link) (k : Notice) : (s.addNotice l k).saw = s.saw := rfl
@[simp] theorem addNotice_meas (l : Link) (k : Notice) : (s.addNotice l k).meas = s.meas := rfl
@[simp] theorem addNotice_set (l : Link) (k : Notice) : (s.addNotice l k).set = s.set := rfl
@[simp] theorem addNotice_pins (l : Link) (k : Notice) : (s.addNotice l k).pins = s.pins := rfl

/-! ### reply changes: links -/

@[simp] theorem reply_pending (l : Link) (c : Byte) (st : Status) (d : List Byte) : (s.reply l c st d).pending = s.pending := rfl
@[simp] theorem reply_transit (l : Link) (c : Byte) (st : Status) (d : List Byte) : (s.reply l c st d).transit = s.transit := rfl
@[simp] theorem reply_now (l : Link) (c : Byte) (st : Status) (d : List Byte) : (s.reply l c st d).now = s.now := rfl
@[simp] theorem reply_held (l : Link) (c : Byte) (st : Status) (d : List Byte) : (s.reply l c st d).held = s.held := rfl
@[simp] theorem reply_supplyRose (l : Link) (c : Byte) (st : Status) (d : List Byte) : (s.reply l c st d).supplyRose = s.supplyRose := rfl
@[simp] theorem reply_cause (l : Link) (c : Byte) (st : Status) (d : List Byte) : (s.reply l c st d).cause = s.cause := rfl
@[simp] theorem reply_reg (l : Link) (c : Byte) (st : Status) (d : List Byte) : (s.reply l c st d).reg = s.reg := rfl
@[simp] theorem reply_alw (l : Link) (c : Byte) (st : Status) (d : List Byte) : (s.reply l c st d).alw = s.alw := rfl
@[simp] theorem reply_fdr (l : Link) (c : Byte) (st : Status) (d : List Byte) : (s.reply l c st d).fdr = s.fdr := rfl
@[simp] theorem reply_saw (l : Link) (c : Byte) (st : Status) (d : List Byte) : (s.reply l c st d).saw = s.saw := rfl
@[simp] theorem reply_meas (l : Link) (c : Byte) (st : Status) (d : List Byte) : (s.reply l c st d).meas = s.meas := rfl
@[simp] theorem reply_set (l : Link) (c : Byte) (st : Status) (d : List Byte) : (s.reply l c st d).set = s.set := rfl
@[simp] theorem reply_pins (l : Link) (c : Byte) (st : Status) (d : List Byte) : (s.reply l c st d).pins = s.pins := rfl

/-! ### answer changes: links -/

@[simp] theorem answer_pending (l : Link) (c : Byte) (st : Status) : (s.answer l c st).pending = s.pending := rfl
@[simp] theorem answer_transit (l : Link) (c : Byte) (st : Status) : (s.answer l c st).transit = s.transit := rfl
@[simp] theorem answer_now (l : Link) (c : Byte) (st : Status) : (s.answer l c st).now = s.now := rfl
@[simp] theorem answer_held (l : Link) (c : Byte) (st : Status) : (s.answer l c st).held = s.held := rfl
@[simp] theorem answer_supplyRose (l : Link) (c : Byte) (st : Status) : (s.answer l c st).supplyRose = s.supplyRose := rfl
@[simp] theorem answer_cause (l : Link) (c : Byte) (st : Status) : (s.answer l c st).cause = s.cause := rfl
@[simp] theorem answer_reg (l : Link) (c : Byte) (st : Status) : (s.answer l c st).reg = s.reg := rfl
@[simp] theorem answer_alw (l : Link) (c : Byte) (st : Status) : (s.answer l c st).alw = s.alw := rfl
@[simp] theorem answer_fdr (l : Link) (c : Byte) (st : Status) : (s.answer l c st).fdr = s.fdr := rfl
@[simp] theorem answer_saw (l : Link) (c : Byte) (st : Status) : (s.answer l c st).saw = s.saw := rfl
@[simp] theorem answer_meas (l : Link) (c : Byte) (st : Status) : (s.answer l c st).meas = s.meas := rfl
@[simp] theorem answer_set (l : Link) (c : Byte) (st : Status) : (s.answer l c st).set = s.set := rfl
@[simp] theorem answer_pins (l : Link) (c : Byte) (st : Status) : (s.answer l c st).pins = s.pins := rfl

/-! ### judgeTimings changes: reg -/

@[simp] theorem judgeTimings_pending : (s.judgeTimings).pending = s.pending := rfl
@[simp] theorem judgeTimings_transit : (s.judgeTimings).transit = s.transit := rfl
@[simp] theorem judgeTimings_now : (s.judgeTimings).now = s.now := rfl
@[simp] theorem judgeTimings_held : (s.judgeTimings).held = s.held := rfl
@[simp] theorem judgeTimings_supplyRose : (s.judgeTimings).supplyRose = s.supplyRose := rfl
@[simp] theorem judgeTimings_cause : (s.judgeTimings).cause = s.cause := rfl
@[simp] theorem judgeTimings_alw : (s.judgeTimings).alw = s.alw := rfl
@[simp] theorem judgeTimings_fdr : (s.judgeTimings).fdr = s.fdr := rfl
@[simp] theorem judgeTimings_saw : (s.judgeTimings).saw = s.saw := rfl
@[simp] theorem judgeTimings_meas : (s.judgeTimings).meas = s.meas := rfl
@[simp] theorem judgeTimings_set : (s.judgeTimings).set = s.set := rfl
@[simp] theorem judgeTimings_links : (s.judgeTimings).links = s.links := rfl
@[simp] theorem judgeTimings_pins : (s.judgeTimings).pins = s.pins := rfl

/-! ### judgeQuiet changes: reg -/

@[simp] theorem judgeQuiet_pending : (s.judgeQuiet).pending = s.pending := rfl
@[simp] theorem judgeQuiet_transit : (s.judgeQuiet).transit = s.transit := rfl
@[simp] theorem judgeQuiet_now : (s.judgeQuiet).now = s.now := rfl
@[simp] theorem judgeQuiet_held : (s.judgeQuiet).held = s.held := rfl
@[simp] theorem judgeQuiet_supplyRose : (s.judgeQuiet).supplyRose = s.supplyRose := rfl
@[simp] theorem judgeQuiet_cause : (s.judgeQuiet).cause = s.cause := rfl
@[simp] theorem judgeQuiet_alw : (s.judgeQuiet).alw = s.alw := rfl
@[simp] theorem judgeQuiet_fdr : (s.judgeQuiet).fdr = s.fdr := rfl
@[simp] theorem judgeQuiet_saw : (s.judgeQuiet).saw = s.saw := rfl
@[simp] theorem judgeQuiet_meas : (s.judgeQuiet).meas = s.meas := rfl
@[simp] theorem judgeQuiet_set : (s.judgeQuiet).set = s.set := rfl
@[simp] theorem judgeQuiet_links : (s.judgeQuiet).links = s.links := rfl
@[simp] theorem judgeQuiet_pins : (s.judgeQuiet).pins = s.pins := rfl

/-! ### setDemand changes: reg -/

@[simp] theorem setDemand_pending (x : Int) : (s.setDemand x).pending = s.pending := rfl
@[simp] theorem setDemand_transit (x : Int) : (s.setDemand x).transit = s.transit := rfl
@[simp] theorem setDemand_now (x : Int) : (s.setDemand x).now = s.now := rfl
@[simp] theorem setDemand_held (x : Int) : (s.setDemand x).held = s.held := rfl
@[simp] theorem setDemand_supplyRose (x : Int) : (s.setDemand x).supplyRose = s.supplyRose := rfl
@[simp] theorem setDemand_cause (x : Int) : (s.setDemand x).cause = s.cause := rfl
@[simp] theorem setDemand_alw (x : Int) : (s.setDemand x).alw = s.alw := rfl
@[simp] theorem setDemand_fdr (x : Int) : (s.setDemand x).fdr = s.fdr := rfl
@[simp] theorem setDemand_saw (x : Int) : (s.setDemand x).saw = s.saw := rfl
@[simp] theorem setDemand_meas (x : Int) : (s.setDemand x).meas = s.meas := rfl
@[simp] theorem setDemand_set (x : Int) : (s.setDemand x).set = s.set := rfl
@[simp] theorem setDemand_links (x : Int) : (s.setDemand x).links = s.links := rfl
@[simp] theorem setDemand_pins (x : Int) : (s.setDemand x).pins = s.pins := rfl

/-! ### fullBallast changes: reg -/

@[simp] theorem fullBallast_pending : (s.fullBallast).pending = s.pending := rfl
@[simp] theorem fullBallast_transit : (s.fullBallast).transit = s.transit := rfl
@[simp] theorem fullBallast_now : (s.fullBallast).now = s.now := rfl
@[simp] theorem fullBallast_held : (s.fullBallast).held = s.held := rfl
@[simp] theorem fullBallast_supplyRose : (s.fullBallast).supplyRose = s.supplyRose := rfl
@[simp] theorem fullBallast_cause : (s.fullBallast).cause = s.cause := rfl
@[simp] theorem fullBallast_alw : (s.fullBallast).alw = s.alw := rfl
@[simp] theorem fullBallast_fdr : (s.fullBallast).fdr = s.fdr := rfl
@[simp] theorem fullBallast_saw : (s.fullBallast).saw = s.saw := rfl
@[simp] theorem fullBallast_meas : (s.fullBallast).meas = s.meas := rfl
@[simp] theorem fullBallast_set : (s.fullBallast).set = s.set := rfl
@[simp] theorem fullBallast_links : (s.fullBallast).links = s.links := rfl
@[simp] theorem fullBallast_pins : (s.fullBallast).pins = s.pins := rfl

/-! ### fireStep changes: reg -/

@[simp] theorem fireStep_pending : (s.fireStep).pending = s.pending := rfl
@[simp] theorem fireStep_transit : (s.fireStep).transit = s.transit := rfl
@[simp] theorem fireStep_now : (s.fireStep).now = s.now := rfl
@[simp] theorem fireStep_held : (s.fireStep).held = s.held := rfl
@[simp] theorem fireStep_supplyRose : (s.fireStep).supplyRose = s.supplyRose := rfl
@[simp] theorem fireStep_cause : (s.fireStep).cause = s.cause := rfl
@[simp] theorem fireStep_alw : (s.fireStep).alw = s.alw := rfl
@[simp] theorem fireStep_fdr : (s.fireStep).fdr = s.fdr := rfl
@[simp] theorem fireStep_saw : (s.fireStep).saw = s.saw := rfl
@[simp] theorem fireStep_meas : (s.fireStep).meas = s.meas := rfl
@[simp] theorem fireStep_set : (s.fireStep).set = s.set := rfl
@[simp] theorem fireStep_links : (s.fireStep).links = s.links := rfl
@[simp] theorem fireStep_pins : (s.fireStep).pins = s.pins := rfl

/-! ### enterStation changes: reg, transit -/

@[simp] theorem enterStation_pending (st : StationState) (r : Reasons) : (s.enterStation st r).pending = s.pending := rfl
@[simp] theorem enterStation_now (st : StationState) (r : Reasons) : (s.enterStation st r).now = s.now := rfl
@[simp] theorem enterStation_held (st : StationState) (r : Reasons) : (s.enterStation st r).held = s.held := rfl
@[simp] theorem enterStation_supplyRose (st : StationState) (r : Reasons) : (s.enterStation st r).supplyRose = s.supplyRose := rfl
@[simp] theorem enterStation_cause (st : StationState) (r : Reasons) : (s.enterStation st r).cause = s.cause := rfl
@[simp] theorem enterStation_alw (st : StationState) (r : Reasons) : (s.enterStation st r).alw = s.alw := rfl
@[simp] theorem enterStation_fdr (st : StationState) (r : Reasons) : (s.enterStation st r).fdr = s.fdr := rfl
@[simp] theorem enterStation_saw (st : StationState) (r : Reasons) : (s.enterStation st r).saw = s.saw := rfl
@[simp] theorem enterStation_meas (st : StationState) (r : Reasons) : (s.enterStation st r).meas = s.meas := rfl
@[simp] theorem enterStation_set (st : StationState) (r : Reasons) : (s.enterStation st r).set = s.set := rfl
@[simp] theorem enterStation_links (st : StationState) (r : Reasons) : (s.enterStation st r).links = s.links := rfl
@[simp] theorem enterStation_pins (st : StationState) (r : Reasons) : (s.enterStation st r).pins = s.pins := rfl

/-! ### setClaim changes: alw -/

@[simp] theorem setClaim_pending (n : Fin 24) (c : Claim) : (s.setClaim n c).pending = s.pending := rfl
@[simp] theorem setClaim_transit (n : Fin 24) (c : Claim) : (s.setClaim n c).transit = s.transit := rfl
@[simp] theorem setClaim_now (n : Fin 24) (c : Claim) : (s.setClaim n c).now = s.now := rfl
@[simp] theorem setClaim_held (n : Fin 24) (c : Claim) : (s.setClaim n c).held = s.held := rfl
@[simp] theorem setClaim_supplyRose (n : Fin 24) (c : Claim) : (s.setClaim n c).supplyRose = s.supplyRose := rfl
@[simp] theorem setClaim_cause (n : Fin 24) (c : Claim) : (s.setClaim n c).cause = s.cause := rfl
@[simp] theorem setClaim_reg (n : Fin 24) (c : Claim) : (s.setClaim n c).reg = s.reg := rfl
@[simp] theorem setClaim_fdr (n : Fin 24) (c : Claim) : (s.setClaim n c).fdr = s.fdr := rfl
@[simp] theorem setClaim_saw (n : Fin 24) (c : Claim) : (s.setClaim n c).saw = s.saw := rfl
@[simp] theorem setClaim_meas (n : Fin 24) (c : Claim) : (s.setClaim n c).meas = s.meas := rfl
@[simp] theorem setClaim_set (n : Fin 24) (c : Claim) : (s.setClaim n c).set = s.set := rfl
@[simp] theorem setClaim_links (n : Fin 24) (c : Claim) : (s.setClaim n c).links = s.links := rfl
@[simp] theorem setClaim_pins (n : Fin 24) (c : Claim) : (s.setClaim n c).pins = s.pins := rfl

/-! ### recomputeBands changes: alw -/

@[simp] theorem recomputeBands_pending : (s.recomputeBands).pending = s.pending := rfl
@[simp] theorem recomputeBands_transit : (s.recomputeBands).transit = s.transit := rfl
@[simp] theorem recomputeBands_now : (s.recomputeBands).now = s.now := rfl
@[simp] theorem recomputeBands_held : (s.recomputeBands).held = s.held := rfl
@[simp] theorem recomputeBands_supplyRose : (s.recomputeBands).supplyRose = s.supplyRose := rfl
@[simp] theorem recomputeBands_cause : (s.recomputeBands).cause = s.cause := rfl
@[simp] theorem recomputeBands_reg : (s.recomputeBands).reg = s.reg := rfl
@[simp] theorem recomputeBands_fdr : (s.recomputeBands).fdr = s.fdr := rfl
@[simp] theorem recomputeBands_saw : (s.recomputeBands).saw = s.saw := rfl
@[simp] theorem recomputeBands_meas : (s.recomputeBands).meas = s.meas := rfl
@[simp] theorem recomputeBands_set : (s.recomputeBands).set = s.set := rfl
@[simp] theorem recomputeBands_links : (s.recomputeBands).links = s.links := rfl
@[simp] theorem recomputeBands_pins : (s.recomputeBands).pins = s.pins := rfl

/-! ### syncFeeders changes: fdr -/

@[simp] theorem syncFeeders_pending : (s.syncFeeders).pending = s.pending := rfl
@[simp] theorem syncFeeders_transit : (s.syncFeeders).transit = s.transit := rfl
@[simp] theorem syncFeeders_now : (s.syncFeeders).now = s.now := rfl
@[simp] theorem syncFeeders_held : (s.syncFeeders).held = s.held := rfl
@[simp] theorem syncFeeders_supplyRose : (s.syncFeeders).supplyRose = s.supplyRose := rfl
@[simp] theorem syncFeeders_cause : (s.syncFeeders).cause = s.cause := rfl
@[simp] theorem syncFeeders_reg : (s.syncFeeders).reg = s.reg := rfl
@[simp] theorem syncFeeders_alw : (s.syncFeeders).alw = s.alw := rfl
@[simp] theorem syncFeeders_saw : (s.syncFeeders).saw = s.saw := rfl
@[simp] theorem syncFeeders_meas : (s.syncFeeders).meas = s.meas := rfl
@[simp] theorem syncFeeders_set : (s.syncFeeders).set = s.set := rfl
@[simp] theorem syncFeeders_links : (s.syncFeeders).links = s.links := rfl
@[simp] theorem syncFeeders_pins : (s.syncFeeders).pins = s.pins := rfl

/-! ### syncSaw changes: saw -/

@[simp] theorem syncSaw_pending : (s.syncSaw).pending = s.pending := rfl
@[simp] theorem syncSaw_transit : (s.syncSaw).transit = s.transit := rfl
@[simp] theorem syncSaw_now : (s.syncSaw).now = s.now := rfl
@[simp] theorem syncSaw_held : (s.syncSaw).held = s.held := rfl
@[simp] theorem syncSaw_supplyRose : (s.syncSaw).supplyRose = s.supplyRose := rfl
@[simp] theorem syncSaw_cause : (s.syncSaw).cause = s.cause := rfl
@[simp] theorem syncSaw_reg : (s.syncSaw).reg = s.reg := rfl
@[simp] theorem syncSaw_alw : (s.syncSaw).alw = s.alw := rfl
@[simp] theorem syncSaw_fdr : (s.syncSaw).fdr = s.fdr := rfl
@[simp] theorem syncSaw_meas : (s.syncSaw).meas = s.meas := rfl
@[simp] theorem syncSaw_set : (s.syncSaw).set = s.set := rfl
@[simp] theorem syncSaw_links : (s.syncSaw).links = s.links := rfl
@[simp] theorem syncSaw_pins : (s.syncSaw).pins = s.pins := rfl

/-! ### sync changes: fdr, saw -/

@[simp] theorem sync_pending : (s.sync).pending = s.pending := rfl
@[simp] theorem sync_transit : (s.sync).transit = s.transit := rfl
@[simp] theorem sync_now : (s.sync).now = s.now := rfl
@[simp] theorem sync_held : (s.sync).held = s.held := rfl
@[simp] theorem sync_supplyRose : (s.sync).supplyRose = s.supplyRose := rfl
@[simp] theorem sync_cause : (s.sync).cause = s.cause := rfl
@[simp] theorem sync_reg : (s.sync).reg = s.reg := rfl
@[simp] theorem sync_alw : (s.sync).alw = s.alw := rfl
@[simp] theorem sync_meas : (s.sync).meas = s.meas := rfl
@[simp] theorem sync_set : (s.sync).set = s.set := rfl
@[simp] theorem sync_links : (s.sync).links = s.links := rfl
@[simp] theorem sync_pins : (s.sync).pins = s.pins := rfl

/-! ### takeRatings changes: reg -/

@[simp] theorem takeRatings_pending : (s.takeRatings).pending = s.pending := by
  unfold State.takeRatings; split <;> rfl
@[simp] theorem takeRatings_transit : (s.takeRatings).transit = s.transit := by
  unfold State.takeRatings; split <;> rfl
@[simp] theorem takeRatings_now : (s.takeRatings).now = s.now := by
  unfold State.takeRatings; split <;> rfl
@[simp] theorem takeRatings_held : (s.takeRatings).held = s.held := by
  unfold State.takeRatings; split <;> rfl
@[simp] theorem takeRatings_supplyRose : (s.takeRatings).supplyRose = s.supplyRose := by
  unfold State.takeRatings; split <;> rfl
@[simp] theorem takeRatings_cause : (s.takeRatings).cause = s.cause := by
  unfold State.takeRatings; split <;> rfl
@[simp] theorem takeRatings_alw : (s.takeRatings).alw = s.alw := by
  unfold State.takeRatings; split <;> rfl
@[simp] theorem takeRatings_fdr : (s.takeRatings).fdr = s.fdr := by
  unfold State.takeRatings; split <;> rfl
@[simp] theorem takeRatings_saw : (s.takeRatings).saw = s.saw := by
  unfold State.takeRatings; split <;> rfl
@[simp] theorem takeRatings_meas : (s.takeRatings).meas = s.meas := by
  unfold State.takeRatings; split <;> rfl
@[simp] theorem takeRatings_set : (s.takeRatings).set = s.set := by
  unfold State.takeRatings; split <;> rfl
@[simp] theorem takeRatings_links : (s.takeRatings).links = s.links := by
  unfold State.takeRatings; split <;> rfl
@[simp] theorem takeRatings_pins : (s.takeRatings).pins = s.pins := by
  unfold State.takeRatings; split <;> rfl

/-! ### raiseFrequency changes: reg, transit -/

@[simp] theorem raiseFrequency_pending : (s.raiseFrequency).pending = s.pending := by
  unfold State.raiseFrequency; split <;> rfl
@[simp] theorem raiseFrequency_now : (s.raiseFrequency).now = s.now := by
  unfold State.raiseFrequency; split <;> rfl
@[simp] theorem raiseFrequency_held : (s.raiseFrequency).held = s.held := by
  unfold State.raiseFrequency; split <;> rfl
@[simp] theorem raiseFrequency_supplyRose : (s.raiseFrequency).supplyRose = s.supplyRose := by
  unfold State.raiseFrequency; split <;> rfl
@[simp] theorem raiseFrequency_cause : (s.raiseFrequency).cause = s.cause := by
  unfold State.raiseFrequency; split <;> rfl
@[simp] theorem raiseFrequency_alw : (s.raiseFrequency).alw = s.alw := by
  unfold State.raiseFrequency; split <;> rfl
@[simp] theorem raiseFrequency_fdr : (s.raiseFrequency).fdr = s.fdr := by
  unfold State.raiseFrequency; split <;> rfl
@[simp] theorem raiseFrequency_saw : (s.raiseFrequency).saw = s.saw := by
  unfold State.raiseFrequency; split <;> rfl
@[simp] theorem raiseFrequency_meas : (s.raiseFrequency).meas = s.meas := by
  unfold State.raiseFrequency; split <;> rfl
@[simp] theorem raiseFrequency_set : (s.raiseFrequency).set = s.set := by
  unfold State.raiseFrequency; split <;> rfl
@[simp] theorem raiseFrequency_links : (s.raiseFrequency).links = s.links := by
  unfold State.raiseFrequency; split <;> rfl
@[simp] theorem raiseFrequency_pins : (s.raiseFrequency).pins = s.pins := by
  unfold State.raiseFrequency; split <;> rfl

/-! ### leaveDeficit changes: reg, transit -/

@[simp] theorem leaveDeficit_pending : (s.leaveDeficit).pending = s.pending := by
  unfold State.leaveDeficit; split <;> rfl
@[simp] theorem leaveDeficit_now : (s.leaveDeficit).now = s.now := by
  unfold State.leaveDeficit; split <;> rfl
@[simp] theorem leaveDeficit_held : (s.leaveDeficit).held = s.held := by
  unfold State.leaveDeficit; split <;> rfl
@[simp] theorem leaveDeficit_supplyRose : (s.leaveDeficit).supplyRose = s.supplyRose := by
  unfold State.leaveDeficit; split <;> rfl
@[simp] theorem leaveDeficit_cause : (s.leaveDeficit).cause = s.cause := by
  unfold State.leaveDeficit; split <;> rfl
@[simp] theorem leaveDeficit_alw : (s.leaveDeficit).alw = s.alw := by
  unfold State.leaveDeficit; split <;> rfl
@[simp] theorem leaveDeficit_fdr : (s.leaveDeficit).fdr = s.fdr := by
  unfold State.leaveDeficit; split <;> rfl
@[simp] theorem leaveDeficit_saw : (s.leaveDeficit).saw = s.saw := by
  unfold State.leaveDeficit; split <;> rfl
@[simp] theorem leaveDeficit_meas : (s.leaveDeficit).meas = s.meas := by
  unfold State.leaveDeficit; split <;> rfl
@[simp] theorem leaveDeficit_set : (s.leaveDeficit).set = s.set := by
  unfold State.leaveDeficit; split <;> rfl
@[simp] theorem leaveDeficit_links : (s.leaveDeficit).links = s.links := by
  unfold State.leaveDeficit; split <;> rfl
@[simp] theorem leaveDeficit_pins : (s.leaveDeficit).pins = s.pins := by
  unfold State.leaveDeficit; split <;> rfl

/-! ### setTrip changes: reg, links -/

@[simp] theorem setTrip_pending : (s.setTrip).pending = s.pending := by
  unfold State.setTrip; split <;> rfl
@[simp] theorem setTrip_transit : (s.setTrip).transit = s.transit := by
  unfold State.setTrip; split <;> rfl
@[simp] theorem setTrip_now : (s.setTrip).now = s.now := by
  unfold State.setTrip; split <;> rfl
@[simp] theorem setTrip_held : (s.setTrip).held = s.held := by
  unfold State.setTrip; split <;> rfl
@[simp] theorem setTrip_supplyRose : (s.setTrip).supplyRose = s.supplyRose := by
  unfold State.setTrip; split <;> rfl
@[simp] theorem setTrip_cause : (s.setTrip).cause = s.cause := by
  unfold State.setTrip; split <;> rfl
@[simp] theorem setTrip_alw : (s.setTrip).alw = s.alw := by
  unfold State.setTrip; split <;> rfl
@[simp] theorem setTrip_fdr : (s.setTrip).fdr = s.fdr := by
  unfold State.setTrip; split <;> rfl
@[simp] theorem setTrip_saw : (s.setTrip).saw = s.saw := by
  unfold State.setTrip; split <;> rfl
@[simp] theorem setTrip_meas : (s.setTrip).meas = s.meas := by
  unfold State.setTrip; split <;> rfl
@[simp] theorem setTrip_set : (s.setTrip).set = s.set := by
  unfold State.setTrip; split <;> rfl
@[simp] theorem setTrip_pins : (s.setTrip).pins = s.pins := by
  unfold State.setTrip; split <;> rfl

/-! ### removeMark changes: alw, transit -/

@[simp] theorem removeMark_pending (n : Fin 24) : (s.removeMark n).pending = s.pending := by
  unfold State.removeMark; dsimp only; split <;> rfl
@[simp] theorem removeMark_now (n : Fin 24) : (s.removeMark n).now = s.now := by
  unfold State.removeMark; dsimp only; split <;> rfl
@[simp] theorem removeMark_held (n : Fin 24) : (s.removeMark n).held = s.held := by
  unfold State.removeMark; dsimp only; split <;> rfl
@[simp] theorem removeMark_supplyRose (n : Fin 24) : (s.removeMark n).supplyRose = s.supplyRose := by
  unfold State.removeMark; dsimp only; split <;> rfl
@[simp] theorem removeMark_cause (n : Fin 24) : (s.removeMark n).cause = s.cause := by
  unfold State.removeMark; dsimp only; split <;> rfl
@[simp] theorem removeMark_reg (n : Fin 24) : (s.removeMark n).reg = s.reg := by
  unfold State.removeMark; dsimp only; split <;> rfl
@[simp] theorem removeMark_fdr (n : Fin 24) : (s.removeMark n).fdr = s.fdr := by
  unfold State.removeMark; dsimp only; split <;> rfl
@[simp] theorem removeMark_saw (n : Fin 24) : (s.removeMark n).saw = s.saw := by
  unfold State.removeMark; dsimp only; split <;> rfl
@[simp] theorem removeMark_meas (n : Fin 24) : (s.removeMark n).meas = s.meas := by
  unfold State.removeMark; dsimp only; split <;> rfl
@[simp] theorem removeMark_set (n : Fin 24) : (s.removeMark n).set = s.set := by
  unfold State.removeMark; dsimp only; split <;> rfl
@[simp] theorem removeMark_links (n : Fin 24) : (s.removeMark n).links = s.links := by
  unfold State.removeMark; dsimp only; split <;> rfl
@[simp] theorem removeMark_pins (n : Fin 24) : (s.removeMark n).pins = s.pins := by
  unfold State.removeMark; dsimp only; split <;> rfl

/-! ### letGo changes: alw, transit, links -/

@[simp] theorem letGo_pending (n : Fin 24) (o : Ending) : (s.letGo n o).pending = s.pending := by
  unfold State.letGo; dsimp only; split <;> (try split) <;> simp
@[simp] theorem letGo_now (n : Fin 24) (o : Ending) : (s.letGo n o).now = s.now := by
  unfold State.letGo; dsimp only; split <;> (try split) <;> simp
@[simp] theorem letGo_held (n : Fin 24) (o : Ending) : (s.letGo n o).held = s.held := by
  unfold State.letGo; dsimp only; split <;> (try split) <;> simp
@[simp] theorem letGo_supplyRose (n : Fin 24) (o : Ending) : (s.letGo n o).supplyRose = s.supplyRose := by
  unfold State.letGo; dsimp only; split <;> (try split) <;> simp
@[simp] theorem letGo_cause (n : Fin 24) (o : Ending) : (s.letGo n o).cause = s.cause := by
  unfold State.letGo; dsimp only; split <;> (try split) <;> simp
@[simp] theorem letGo_reg (n : Fin 24) (o : Ending) : (s.letGo n o).reg = s.reg := by
  unfold State.letGo; dsimp only; split <;> (try split) <;> simp
@[simp] theorem letGo_fdr (n : Fin 24) (o : Ending) : (s.letGo n o).fdr = s.fdr := by
  unfold State.letGo; dsimp only; split <;> (try split) <;> simp
@[simp] theorem letGo_saw (n : Fin 24) (o : Ending) : (s.letGo n o).saw = s.saw := by
  unfold State.letGo; dsimp only; split <;> (try split) <;> simp
@[simp] theorem letGo_meas (n : Fin 24) (o : Ending) : (s.letGo n o).meas = s.meas := by
  unfold State.letGo; dsimp only; split <;> (try split) <;> simp
@[simp] theorem letGo_set (n : Fin 24) (o : Ending) : (s.letGo n o).set = s.set := by
  unfold State.letGo; dsimp only; split <;> (try split) <;> simp
@[simp] theorem letGo_pins (n : Fin 24) (o : Ending) : (s.letGo n o).pins = s.pins := by
  unfold State.letGo; dsimp only; split <;> (try split) <;> simp

/-! ### budgetCheck changes: alw, transit -/

@[simp] theorem budgetCheck_pending : (s.budgetCheck).pending = s.pending := by
  unfold State.budgetCheck; split <;> split <;> rfl
@[simp] theorem budgetCheck_now : (s.budgetCheck).now = s.now := by
  unfold State.budgetCheck; split <;> split <;> rfl
@[simp] theorem budgetCheck_held : (s.budgetCheck).held = s.held := by
  unfold State.budgetCheck; split <;> split <;> rfl
@[simp] theorem budgetCheck_supplyRose : (s.budgetCheck).supplyRose = s.supplyRose := by
  unfold State.budgetCheck; split <;> split <;> rfl
@[simp] theorem budgetCheck_cause : (s.budgetCheck).cause = s.cause := by
  unfold State.budgetCheck; split <;> split <;> rfl
@[simp] theorem budgetCheck_reg : (s.budgetCheck).reg = s.reg := by
  unfold State.budgetCheck; split <;> split <;> rfl
@[simp] theorem budgetCheck_fdr : (s.budgetCheck).fdr = s.fdr := by
  unfold State.budgetCheck; split <;> split <;> rfl
@[simp] theorem budgetCheck_saw : (s.budgetCheck).saw = s.saw := by
  unfold State.budgetCheck; split <;> split <;> rfl
@[simp] theorem budgetCheck_meas : (s.budgetCheck).meas = s.meas := by
  unfold State.budgetCheck; split <;> split <;> rfl
@[simp] theorem budgetCheck_set : (s.budgetCheck).set = s.set := by
  unfold State.budgetCheck; split <;> split <;> rfl
@[simp] theorem budgetCheck_links : (s.budgetCheck).links = s.links := by
  unfold State.budgetCheck; split <;> split <;> rfl
@[simp] theorem budgetCheck_pins : (s.budgetCheck).pins = s.pins := by
  unfold State.budgetCheck; split <;> split <;> rfl

/-! ### budgetCheckInDeficit changes: alw, transit -/

@[simp] theorem budgetCheckInDeficit_pending : (s.budgetCheckInDeficit).pending = s.pending := by
  unfold State.budgetCheckInDeficit; split <;> simp
@[simp] theorem budgetCheckInDeficit_now : (s.budgetCheckInDeficit).now = s.now := by
  unfold State.budgetCheckInDeficit; split <;> simp
@[simp] theorem budgetCheckInDeficit_held : (s.budgetCheckInDeficit).held = s.held := by
  unfold State.budgetCheckInDeficit; split <;> simp
@[simp] theorem budgetCheckInDeficit_supplyRose : (s.budgetCheckInDeficit).supplyRose = s.supplyRose := by
  unfold State.budgetCheckInDeficit; split <;> simp
@[simp] theorem budgetCheckInDeficit_cause : (s.budgetCheckInDeficit).cause = s.cause := by
  unfold State.budgetCheckInDeficit; split <;> simp
@[simp] theorem budgetCheckInDeficit_reg : (s.budgetCheckInDeficit).reg = s.reg := by
  unfold State.budgetCheckInDeficit; split <;> simp
@[simp] theorem budgetCheckInDeficit_fdr : (s.budgetCheckInDeficit).fdr = s.fdr := by
  unfold State.budgetCheckInDeficit; split <;> simp
@[simp] theorem budgetCheckInDeficit_saw : (s.budgetCheckInDeficit).saw = s.saw := by
  unfold State.budgetCheckInDeficit; split <;> simp
@[simp] theorem budgetCheckInDeficit_meas : (s.budgetCheckInDeficit).meas = s.meas := by
  unfold State.budgetCheckInDeficit; split <;> simp
@[simp] theorem budgetCheckInDeficit_set : (s.budgetCheckInDeficit).set = s.set := by
  unfold State.budgetCheckInDeficit; split <;> simp
@[simp] theorem budgetCheckInDeficit_links : (s.budgetCheckInDeficit).links = s.links := by
  unfold State.budgetCheckInDeficit; split <;> simp
@[simp] theorem budgetCheckInDeficit_pins : (s.budgetCheckInDeficit).pins = s.pins := by
  unfold State.budgetCheckInDeficit; split <;> simp

/-! ### admitHead changes: alw, transit -/

@[simp] theorem admitHead_pending (n : Fin 24) (rest : List (Fin 24)) : (s.admitHead n rest).pending = s.pending := by
  unfold State.admitHead; dsimp only; split <;> rfl
@[simp] theorem admitHead_now (n : Fin 24) (rest : List (Fin 24)) : (s.admitHead n rest).now = s.now := by
  unfold State.admitHead; dsimp only; split <;> rfl
@[simp] theorem admitHead_held (n : Fin 24) (rest : List (Fin 24)) : (s.admitHead n rest).held = s.held := by
  unfold State.admitHead; dsimp only; split <;> rfl
@[simp] theorem admitHead_supplyRose (n : Fin 24) (rest : List (Fin 24)) : (s.admitHead n rest).supplyRose = s.supplyRose := by
  unfold State.admitHead; dsimp only; split <;> rfl
@[simp] theorem admitHead_cause (n : Fin 24) (rest : List (Fin 24)) : (s.admitHead n rest).cause = s.cause := by
  unfold State.admitHead; dsimp only; split <;> rfl
@[simp] theorem admitHead_reg (n : Fin 24) (rest : List (Fin 24)) : (s.admitHead n rest).reg = s.reg := by
  unfold State.admitHead; dsimp only; split <;> rfl
@[simp] theorem admitHead_fdr (n : Fin 24) (rest : List (Fin 24)) : (s.admitHead n rest).fdr = s.fdr := by
  unfold State.admitHead; dsimp only; split <;> rfl
@[simp] theorem admitHead_saw (n : Fin 24) (rest : List (Fin 24)) : (s.admitHead n rest).saw = s.saw := by
  unfold State.admitHead; dsimp only; split <;> rfl
@[simp] theorem admitHead_meas (n : Fin 24) (rest : List (Fin 24)) : (s.admitHead n rest).meas = s.meas := by
  unfold State.admitHead; dsimp only; split <;> rfl
@[simp] theorem admitHead_set (n : Fin 24) (rest : List (Fin 24)) : (s.admitHead n rest).set = s.set := by
  unfold State.admitHead; dsimp only; split <;> rfl
@[simp] theorem admitHead_links (n : Fin 24) (rest : List (Fin 24)) : (s.admitHead n rest).links = s.links := by
  unfold State.admitHead; dsimp only; split <;> rfl
@[simp] theorem admitHead_pins (n : Fin 24) (rest : List (Fin 24)) : (s.admitHead n rest).pins = s.pins := by
  unfold State.admitHead; dsimp only; split <;> rfl

/-! ### consider changes: alw, transit -/

theorem considerChain_pending (k : Nat) (s : State) : (State.considerChain k s).pending = s.pending := by
  induction k generalizing s with
  | zero => rfl
  | succ k ih =>
    unfold State.considerChain
    split
    · rfl
    · split
      · rw [ih]; simp
      · rfl

@[simp] theorem consider_pending : (s.consider).pending = s.pending := by
  exact considerChain_pending _ s
theorem considerChain_now (k : Nat) (s : State) : (State.considerChain k s).now = s.now := by
  induction k generalizing s with
  | zero => rfl
  | succ k ih =>
    unfold State.considerChain
    split
    · rfl
    · split
      · rw [ih]; simp
      · rfl

@[simp] theorem consider_now : (s.consider).now = s.now := by
  exact considerChain_now _ s
theorem considerChain_held (k : Nat) (s : State) : (State.considerChain k s).held = s.held := by
  induction k generalizing s with
  | zero => rfl
  | succ k ih =>
    unfold State.considerChain
    split
    · rfl
    · split
      · rw [ih]; simp
      · rfl

@[simp] theorem consider_held : (s.consider).held = s.held := by
  exact considerChain_held _ s
theorem considerChain_supplyRose (k : Nat) (s : State) : (State.considerChain k s).supplyRose = s.supplyRose := by
  induction k generalizing s with
  | zero => rfl
  | succ k ih =>
    unfold State.considerChain
    split
    · rfl
    · split
      · rw [ih]; simp
      · rfl

@[simp] theorem consider_supplyRose : (s.consider).supplyRose = s.supplyRose := by
  exact considerChain_supplyRose _ s
theorem considerChain_cause (k : Nat) (s : State) : (State.considerChain k s).cause = s.cause := by
  induction k generalizing s with
  | zero => rfl
  | succ k ih =>
    unfold State.considerChain
    split
    · rfl
    · split
      · rw [ih]; simp
      · rfl

@[simp] theorem consider_cause : (s.consider).cause = s.cause := by
  exact considerChain_cause _ s
theorem considerChain_reg (k : Nat) (s : State) : (State.considerChain k s).reg = s.reg := by
  induction k generalizing s with
  | zero => rfl
  | succ k ih =>
    unfold State.considerChain
    split
    · rfl
    · split
      · rw [ih]; simp
      · rfl

@[simp] theorem consider_reg : (s.consider).reg = s.reg := by
  exact considerChain_reg _ s
theorem considerChain_fdr (k : Nat) (s : State) : (State.considerChain k s).fdr = s.fdr := by
  induction k generalizing s with
  | zero => rfl
  | succ k ih =>
    unfold State.considerChain
    split
    · rfl
    · split
      · rw [ih]; simp
      · rfl

@[simp] theorem consider_fdr : (s.consider).fdr = s.fdr := by
  exact considerChain_fdr _ s
theorem considerChain_saw (k : Nat) (s : State) : (State.considerChain k s).saw = s.saw := by
  induction k generalizing s with
  | zero => rfl
  | succ k ih =>
    unfold State.considerChain
    split
    · rfl
    · split
      · rw [ih]; simp
      · rfl

@[simp] theorem consider_saw : (s.consider).saw = s.saw := by
  exact considerChain_saw _ s
theorem considerChain_meas (k : Nat) (s : State) : (State.considerChain k s).meas = s.meas := by
  induction k generalizing s with
  | zero => rfl
  | succ k ih =>
    unfold State.considerChain
    split
    · rfl
    · split
      · rw [ih]; simp
      · rfl

@[simp] theorem consider_meas : (s.consider).meas = s.meas := by
  exact considerChain_meas _ s
theorem considerChain_set (k : Nat) (s : State) : (State.considerChain k s).set = s.set := by
  induction k generalizing s with
  | zero => rfl
  | succ k ih =>
    unfold State.considerChain
    split
    · rfl
    · split
      · rw [ih]; simp
      · rfl

@[simp] theorem consider_set : (s.consider).set = s.set := by
  exact considerChain_set _ s
theorem considerChain_links (k : Nat) (s : State) : (State.considerChain k s).links = s.links := by
  induction k generalizing s with
  | zero => rfl
  | succ k ih =>
    unfold State.considerChain
    split
    · rfl
    · split
      · rw [ih]; simp
      · rfl

@[simp] theorem consider_links : (s.consider).links = s.links := by
  exact considerChain_links _ s
theorem considerChain_pins (k : Nat) (s : State) : (State.considerChain k s).pins = s.pins := by
  induction k generalizing s with
  | zero => rfl
  | succ k ih =>
    unfold State.considerChain
    split
    · rfl
    · split
      · rw [ih]; simp
      · rfl

@[simp] theorem consider_pins : (s.consider).pins = s.pins := by
  exact considerChain_pins _ s

/-! ### afterRelease changes: alw, transit -/

@[simp] theorem afterRelease_pending (c : ClaimState) (b : Bool) : (s.afterRelease c b).pending = s.pending := by
  unfold State.afterRelease; split <;> (try split) <;> simp
@[simp] theorem afterRelease_now (c : ClaimState) (b : Bool) : (s.afterRelease c b).now = s.now := by
  unfold State.afterRelease; split <;> (try split) <;> simp
@[simp] theorem afterRelease_held (c : ClaimState) (b : Bool) : (s.afterRelease c b).held = s.held := by
  unfold State.afterRelease; split <;> (try split) <;> simp
@[simp] theorem afterRelease_supplyRose (c : ClaimState) (b : Bool) : (s.afterRelease c b).supplyRose = s.supplyRose := by
  unfold State.afterRelease; split <;> (try split) <;> simp
@[simp] theorem afterRelease_cause (c : ClaimState) (b : Bool) : (s.afterRelease c b).cause = s.cause := by
  unfold State.afterRelease; split <;> (try split) <;> simp
@[simp] theorem afterRelease_reg (c : ClaimState) (b : Bool) : (s.afterRelease c b).reg = s.reg := by
  unfold State.afterRelease; split <;> (try split) <;> simp
@[simp] theorem afterRelease_fdr (c : ClaimState) (b : Bool) : (s.afterRelease c b).fdr = s.fdr := by
  unfold State.afterRelease; split <;> (try split) <;> simp
@[simp] theorem afterRelease_saw (c : ClaimState) (b : Bool) : (s.afterRelease c b).saw = s.saw := by
  unfold State.afterRelease; split <;> (try split) <;> simp
@[simp] theorem afterRelease_meas (c : ClaimState) (b : Bool) : (s.afterRelease c b).meas = s.meas := by
  unfold State.afterRelease; split <;> (try split) <;> simp
@[simp] theorem afterRelease_set (c : ClaimState) (b : Bool) : (s.afterRelease c b).set = s.set := by
  unfold State.afterRelease; split <;> (try split) <;> simp
@[simp] theorem afterRelease_links (c : ClaimState) (b : Bool) : (s.afterRelease c b).links = s.links := by
  unfold State.afterRelease; split <;> (try split) <;> simp
@[simp] theorem afterRelease_pins (c : ClaimState) (b : Bool) : (s.afterRelease c b).pins = s.pins := by
  unfold State.afterRelease; split <;> (try split) <;> simp

/-! ### endClaim changes: alw, transit, links -/

@[simp] theorem endClaim_pending (n : Fin 24) (o : Ending) : (s.endClaim n o).pending = s.pending := by
  simp [State.endClaim]
@[simp] theorem endClaim_now (n : Fin 24) (o : Ending) : (s.endClaim n o).now = s.now := by
  simp [State.endClaim]
@[simp] theorem endClaim_held (n : Fin 24) (o : Ending) : (s.endClaim n o).held = s.held := by
  simp [State.endClaim]
@[simp] theorem endClaim_supplyRose (n : Fin 24) (o : Ending) : (s.endClaim n o).supplyRose = s.supplyRose := by
  simp [State.endClaim]
@[simp] theorem endClaim_cause (n : Fin 24) (o : Ending) : (s.endClaim n o).cause = s.cause := by
  simp [State.endClaim]
@[simp] theorem endClaim_reg (n : Fin 24) (o : Ending) : (s.endClaim n o).reg = s.reg := by
  simp [State.endClaim]
@[simp] theorem endClaim_fdr (n : Fin 24) (o : Ending) : (s.endClaim n o).fdr = s.fdr := by
  simp [State.endClaim]
@[simp] theorem endClaim_saw (n : Fin 24) (o : Ending) : (s.endClaim n o).saw = s.saw := by
  simp [State.endClaim]
@[simp] theorem endClaim_meas (n : Fin 24) (o : Ending) : (s.endClaim n o).meas = s.meas := by
  simp [State.endClaim]
@[simp] theorem endClaim_set (n : Fin 24) (o : Ending) : (s.endClaim n o).set = s.set := by
  simp [State.endClaim]
@[simp] theorem endClaim_pins (n : Fin 24) (o : Ending) : (s.endClaim n o).pins = s.pins := by
  simp [State.endClaim]

/-! ### endSurge changes: alw, transit -/

@[simp] theorem endSurge_pending (n : Fin 24) : (s.endSurge n).pending = s.pending := by
  simp [State.endSurge]
@[simp] theorem endSurge_now (n : Fin 24) : (s.endSurge n).now = s.now := by
  simp [State.endSurge]
@[simp] theorem endSurge_held (n : Fin 24) : (s.endSurge n).held = s.held := by
  simp [State.endSurge]
@[simp] theorem endSurge_supplyRose (n : Fin 24) : (s.endSurge n).supplyRose = s.supplyRose := by
  simp [State.endSurge]
@[simp] theorem endSurge_cause (n : Fin 24) : (s.endSurge n).cause = s.cause := by
  simp [State.endSurge]
@[simp] theorem endSurge_reg (n : Fin 24) : (s.endSurge n).reg = s.reg := by
  simp [State.endSurge]
@[simp] theorem endSurge_fdr (n : Fin 24) : (s.endSurge n).fdr = s.fdr := by
  simp [State.endSurge]
@[simp] theorem endSurge_saw (n : Fin 24) : (s.endSurge n).saw = s.saw := by
  simp [State.endSurge]
@[simp] theorem endSurge_meas (n : Fin 24) : (s.endSurge n).meas = s.meas := by
  simp [State.endSurge]
@[simp] theorem endSurge_set (n : Fin 24) : (s.endSurge n).set = s.set := by
  simp [State.endSurge]
@[simp] theorem endSurge_links (n : Fin 24) : (s.endSurge n).links = s.links := by
  simp [State.endSurge]
@[simp] theorem endSurge_pins (n : Fin 24) : (s.endSurge n).pins = s.pins := by
  simp [State.endSurge]

/-! ### Link contexts -/

@[simp] theorem get_put {α : Type} (p : PerLink α) (l : Link) (a : α) : (p.put l a).get l = a := by cases l <;> rfl

theorem get_put_of_ne {α : Type} (p : PerLink α) {l m : Link} (a : α) (h : m ≠ l) : (p.put l a).get m = p.get m := by
  cases l <;> cases m <;> first | rfl | exact absurd rfl h

@[simp] theorem put_put {α : Type} (p : PerLink α) (l : Link) (a b : α) : (p.put l a).put l b = p.put l b := by
  cases l <;> rfl

@[simp] theorem put_get {α : Type} (p : PerLink α) (l : Link) : p.put l (p.get l) = p := by cases l <;> rfl

@[simp] theorem onLink_link (l : Link) (f : LinkContext → LinkContext) : (s.onLink l f).link l = f (s.link l) := by
  simp [State.onLink, State.link]

theorem onLink_link_of_ne {l m : Link} (f : LinkContext → LinkContext) (h : m ≠ l) : (s.onLink l f).link m = s.link m :=
  get_put_of_ne _ _ h

/-! ### The claim records -/

@[simp] theorem setClaim_claim (n : Fin 24) (c : Claim) : (s.setClaim n c).claim n = c := by
  simp [State.setClaim, State.claim]

theorem setClaim_claim_of_ne {n m : Fin 24} (c : Claim) (h : m ≠ n) : (s.setClaim n c).claim m = s.claim m := by
  have : n.val ≠ m.val := fun e => h (Fin.ext e.symm)
  simp [State.setClaim, State.claim, this]

@[simp] theorem setClaim_queue (n : Fin 24) (c : Claim) : (s.setClaim n c).alw.queue = s.alw.queue := rfl
@[simp] theorem setClaim_line (n : Fin 24) (c : Claim) : (s.setClaim n c).alw.line = s.alw.line := rfl
@[simp] theorem send_claim (m : Instr) (n : Fin 24) : (s.send m).claim n = s.claim n := rfl
@[simp] theorem sendAll_claim (ms : List Instr) (n : Fin 24) : (s.sendAll ms).claim n = s.claim n := rfl
@[simp] theorem arrive_claim (m : Instr) (n : Fin 24) : (s.arrive m).claim n = s.claim n := rfl
@[simp] theorem onLink_claim (l : Link) (f : LinkContext → LinkContext) (n : Fin 24) :
    (s.onLink l f).claim n = s.claim n := rfl

end Sys2Proof.Machine
end

