-- ==== Sys2Proof/Laws/Allowance.lean ====
section
/-! SUPPORT. What each operation of the Allowance Unit does, said once: letting a claim go, considering the head, placing a
mark, naming a claim in a link's field; and how a command runs while no reset is held. -/

namespace Sys2Proof.Machine

variable (s : State)

/-! ### A command while no reset is held -/

theorem whenReleased_running {s : State} {effect : State → State} (h : s.held = false) :
    whenReleased s effect = .next (effect s) := by simp [whenReleased, h]

theorem whenReleased_arrive_running {s : State} {i : Instr} {effect : State → State} (h : s.held = false) :
    whenReleased (s.arrive i) effect = .next (effect (s.arrive i)) := by simp [whenReleased, h]

theorem whenReleased_held {s : State} {effect : State → State} (h : s.held = true) : whenReleased s effect = .next s := by
  simp [whenReleased, h]

@[simp] theorem arrive_claim_eq (i : Instr) (n : Fin 24) : (s.arrive i).claim n = s.claim n := rfl
@[simp] theorem arrive_feeder (i : Instr) (k : Fin 12) : (s.arrive i).feeder k = s.feeder k := rfl
@[simp] theorem arrive_feederConfig (i : Instr) (k : Fin 12) : (s.arrive i).feederConfig k = s.feederConfig k := rfl
@[simp] theorem arrive_link (i : Instr) (l : Link) : (s.arrive i).link l = s.link l := rfl
@[simp] theorem arrive_clock (i : Instr) : (s.arrive i).clock = s.clock := rfl
@[simp] theorem arrive_reported (i : Instr) : (s.arrive i).reported = s.reported := rfl

/-! ### What is on its way, when a message arrives -/

theorem any_erase {p : Instr → Bool} {i : Instr} (h : p i = false) (l : List Instr) : (l.erase i).any p = l.any p := by
  induction l with
  | nil => rfl
  | cons x xs ih =>
    by_cases e : x = i
    · subst e; simp [h]
    · rw [List.erase_cons_tail (by simpa using e)]; simp [ih]

/-- An end request for a claim awaits exactly while one is on its way. -/
theorem endAwaits_iff (n : Fin 24) : s.endAwaits n = true ↔ ∃ o : Ending, .endRequest n o ∈ s.transit := by
  simp only [State.endAwaits, List.any_eq_true]
  constructor
  · rintro ⟨i, hi, h⟩
    split at h
    · next m o => exact ⟨o, (of_decide_eq_true h) ▸ hi⟩
    · exact absurd h (by simp)
  · rintro ⟨o, h⟩
    exact ⟨_, h, by simp⟩

/-- A cancellation awaits exactly while the ending report that tells it is on its way. -/
theorem cancellationAwaits_iff (k : Fin 12) : s.cancellationAwaits k = true ↔ .feederEndingReport k .cancelled ∈ s.transit :=
  decide_eq_true_iff

/-- An arrival that is no end request leaves those on their way. -/
theorem arrive_endAwaits {i : Instr} (h : ∀ (m : Fin 24) (o : Ending), i ≠ .endRequest m o) (n : Fin 24) :
    (s.arrive i).endAwaits n = s.endAwaits n := by
  refine any_erase ?_ _
  split
  · next m o => exact absurd rfl (h m o)
  · rfl

/-- An arrival that is no cancellation told to a feeder leaves those on their way. -/
theorem arrive_cancellationAwaits {i : Instr} (k : Fin 12) (h : i ≠ .feederEndingReport k .cancelled) :
    (s.arrive i).cancellationAwaits k = s.cancellationAwaits k := by
  simp only [State.cancellationAwaits, State.arrive, List.mem_erase_of_ne h.symm]

/-- An arrival that is no end request leaves the status of a claim request. -/
theorem arrive_claimRequestStatus {i : Instr} (h : ∀ (m : Fin 24) (o : Ending), i ≠ .endRequest m o) (n : Fin 24)
    (a : Nat) (r : Option Nat) : (s.arrive i).claimRequestStatus n a r = s.claimRequestStatus n a r := by
  unfold State.claimRequestStatus
  rw [arrive_endAwaits s h]
  rfl

/-- A message that is no feed-forward step leaves the demand. -/
theorem stepDemand_other {i : Instr} (h : isFeedForward i = false) (capacity bd : Nat) : stepDemand capacity bd i = bd := by
  cases i <;> first | rfl | exact absurd h (by simp [isFeedForward])

theorem foldl_stepDemand_other {l : List Instr} (h : ∀ i ∈ l, isFeedForward i = false) (capacity : Nat) :
    ∀ bd : Nat, l.foldl (stepDemand capacity) bd = bd := by
  induction l with
  | nil => intro bd; rfl
  | cons x xs ih =>
    intro bd
    rw [List.foldl_cons, stepDemand_other (h x (by simp)), ih fun i hi => h i (by simp [hi])]

/-- An arrival that is no feed-forward step leaves the demand that is due. -/
theorem arrive_demandDue {i : Instr} (h : isFeedForward i = false) : (s.arrive i).demandDue = s.demandDue := by
  show (s.transit.erase i).foldl (stepDemand s.capacity) s.reg.bd = s.transit.foldl (stepDemand s.capacity) s.reg.bd
  generalize s.reg.bd = bd
  induction s.transit generalizing bd with
  | nil => rfl
  | cons x xs ih =>
    by_cases e : x = i
    · subst e; simp [stepDemand_other h]
    · rw [List.erase_cons_tail (by simpa using e)]; exact ih _

/-- The oldest feed-forward step on its way comes first in the demand that is due. -/
theorem demandDue_first {before after : List Instr} {i : Instr} (h : s.transit = before ++ i :: after)
    (none_ : ∀ j ∈ before, isFeedForward j = false) :
    s.demandDue = (before ++ after).foldl (stepDemand s.capacity) (stepDemand s.capacity s.reg.bd i) := by
  simp [State.demandDue, h, List.foldl_append, foldl_stepDemand_other none_]

/-- With no feed-forward step on its way the water test takes Bc as it stands. -/
theorem waterBc_settled (h : s.transit.any isFeedForward = false) : s.waterBc = s.bc := by simp [State.waterBc, h]

/-- With one on its way, outside BLACK, it takes the Bc of the demand that is due. -/
theorem waterBc_due (h : s.transit.any isFeedForward = true) (hb : s.reg.station ≠ .black) :
    s.waterBc = computedBallast (levelsFor s.demandDue s.reg.ratings) s.reg.ratings := by simp [State.waterBc, h, hb]

/-! ### A mark cancelled at entry to DEFICIT (R78, R125) -/

/-- The end request of a shed step taken before finds the mark first. -/
theorem cancelMark_shed {n : Fin 24} (h : .endRequest n .shed ∈ s.transit) :
    s.cancelMark n = (s.arrive (.endRequest n .shed)).letGo n .shed := if_pos h

theorem cancelMark_cancelled {n : Fin 24} (h : .endRequest n .shed ∉ s.transit) : s.cancelMark n = s.cancelClaim n :=
  if_neg h

/-! ### Numbers -/

theorem claimInField_none {l : Link} {k : Nat} (h : ∀ m ∈ freeClaims l, m.val ≠ k) : claimInField l k = none := by
  simp only [claimInField, List.find?_eq_none]
  intro m hm
  simp [h m hm]

theorem claimInField_some {l : Link} {k : Nat} {n : Fin 24} (hn : n ∈ freeClaims l) (e : n.val = k) :
    claimInField l k = some n := by
  subst e
  cases l <;> simp only [freeClaims, List.mem_cons, List.not_mem_nil, or_false] at hn <;>
    rcases hn with rfl | rfl | rfl | rfl <;> rfl

/-! ### Letting a claim go -/

theorem letGo_free {n : Fin 24} (o : Ending) (h : (s.claim n).state = .free) : s.letGo n o = s := by
  simp [State.letGo, h]

theorem removeMark_alw (n : Fin 24) :
    (s.removeMark n).alw = { s.alw with line := s.alw.line.filter fun m => m.claim ≠ n } := by
  unfold State.removeMark; dsimp only; split <;> rfl

theorem letGo_alw {n : Fin 24} (o : Ending) (h : (s.claim n).state ≠ .free) :
    (s.letGo n o).alw =
      { s.alw with
        claims := s.alw.claims.set n ((s.claim n).freed o)
        queue := if (s.claim n).state = .waiting then s.alw.queue.erase n else s.alw.queue
        line := if (s.claim n).state = .pending then s.alw.line.filter (fun m => m.claim ≠ n) else s.alw.line } := by
  rcases hc : (s.claim n).state
  · exact absurd hc h
  all_goals
    unfold State.letGo
    simp only [hc]
    split <;> simp [State.setClaim, State.addNotice, State.onLink, State.send, removeMark_alw]

theorem letGo_claim {n : Fin 24} (o : Ending) (h : (s.claim n).state ≠ .free) :
    (s.letGo n o).claim n = (s.claim n).freed o := by
  simp [State.claim, letGo_alw s o h]

theorem letGo_claim_of_ne {n m : Fin 24} (o : Ending) (hm : m ≠ n) : (s.letGo n o).claim m = s.claim m := by
  by_cases h : (s.claim n).state = .free
  · rw [letGo_free s o h]
  · have e : n.val ≠ m.val := fun e => hm (Fin.ext e.symm)
    simp [State.claim, letGo_alw s o h, e]

theorem letGo_reported (n : Fin 24) (o : Ending) : (s.letGo n o).reported = s.reported := by
  by_cases h : (s.claim n).state = .free
  · rw [letGo_free s o h]
  · simp [State.reported, letGo_alw s o h]

/-! ### Considering the head -/

theorem consider_nil (h : s.alw.queue = []) : s.consider = s := by simp [State.consider, h, State.considerChain]

theorem consider_stays {n : Fin 24} {rest : List (Fin 24)} (h : s.alw.queue = n :: rest) (hp : s.headPasses n = false) :
    s.consider = s := by simp [State.consider, h, State.considerChain, hp]

theorem admitHead_queue (n : Fin 24) (rest : List (Fin 24)) : (s.admitHead n rest).alw.queue = rest := by
  unfold State.admitHead; dsimp only; split <;> rfl

theorem consider_admits {n : Fin 24} {rest : List (Fin 24)} (h : s.alw.queue = n :: rest) (hp : s.headPasses n = true) :
    s.consider = (s.admitHead n rest).consider := by
  simp [State.consider, h, State.considerChain, hp, admitHead_queue]

/-- What a consideration keeps: whatever an admission of a head that passes keeps. -/
theorem consider_induction {P : State → Prop}
    (admitted : ∀ (t : State) (n : Fin 24) (rest : List (Fin 24)), t.alw.queue = n :: rest → t.headPasses n = true → P t →
      P (t.admitHead n rest)) (h : P s) : P s.consider := by
  have key : ∀ (fuel : Nat) (t : State), P t → P (State.considerChain fuel t) := by
    intro fuel
    induction fuel with
    | zero => intro t ht; exact ht
    | succ fuel ih =>
      intro t ht
      unfold State.considerChain
      split
      · exact ht
      · next n rest hq =>
        split
        · next hp => exact ih _ (admitted t n rest hq hp ht)
        · exact ht
  exact key _ _ h

/-! ### Placing a mark (R71) -/

/-- Marks in order of due time, no two less than the step guard apart. -/
abbrev Guarded (line : List Mark) : Prop := line.Pairwise fun a b => a.due + Config.stepGuard ≤ b.due

/-- A due time that is the step guard or more from every mark. -/
abbrev ApartFrom (line : List Mark) (t : Nat) : Prop :=
  ∀ m ∈ line, m.due + Config.stepGuard ≤ t ∨ t + Config.stepGuard ≤ m.due

theorem placeMark_cons (c : Nat) (m : Mark) (ms : List Mark) :
    placeMark c (m :: ms) =
      placeMark
        (if m.due < c + Config.stepGuard ∧ c < m.due + Config.stepGuard then m.due + Config.stepGuard else c) ms := rfl

theorem placeMark_spec (line : List Mark) : ∀ c : Nat, Guarded line →
    c ≤ placeMark c line ∧ ApartFrom line (placeMark c line)
      ∧ (∀ t, c ≤ t → ApartFrom line t → placeMark c line ≤ t)
      ∧ placeMark c line ≤ c + (2 * Config.stepGuard - 1) * line.length := by
  induction line with
  | nil => intro c _; exact ⟨le_refl _, fun _ h => absurd h (by simp), fun _ h _ => h, by simp [placeMark]⟩
  | cons x xs ih =>
    intro c hp
    obtain ⟨c', hc'⟩ : ∃ c', c' =
        if x.due < c + Config.stepGuard ∧ c < x.due + Config.stepGuard then x.due + Config.stepGuard else c := ⟨_, rfl⟩
    rw [placeMark_cons, ← hc']
    have hmove : x.due < c + 25 ∧ c < x.due + 25 ∧ c' = x.due + 25 ∨ ¬ (x.due < c + 25 ∧ c < x.due + 25) ∧ c' = c := by
      by_cases h : x.due < c + Config.stepGuard ∧ c < x.due + Config.stepGuard
      · exact Or.inl ⟨h.1, h.2, by rw [hc', if_pos h]; rfl⟩
      · exact Or.inr ⟨h, by rw [hc', if_neg h]⟩
    clear hc'
    simp only [Guarded, ApartFrom, List.pairwise_cons, Config.stepGuard] at hp ih ⊢
    obtain ⟨a1, a2, a3, a4⟩ := ih c' hp.2
    have hcc : c ≤ c' ∧ c' ≤ c + 49 := by omega
    have hx : x.due + 25 ≤ c' ∨ c' = c ∧ c + 25 ≤ x.due := by omega
    refine ⟨by omega, ?_, ?_, by simp only [List.length_cons]; omega⟩
    · intro m hm
      rcases List.mem_cons.1 hm with rfl | hm
      · rcases hx with hx | ⟨h1, h2⟩
        · left; omega
        · right
          have : placeMark c' xs ≤ c := a3 c (by omega) fun k hk => Or.inr (by have := hp.1 k hk; omega)
          omega
      · exact a2 m hm
    · intro t ht hap
      refine a3 t ?_ fun k hk => hap k (List.mem_cons_of_mem _ hk)
      have := hap x (by simp)
      omega

theorem insertMark_perm (m : Mark) : ∀ line : List Mark, (insertMark m line).Perm (m :: line)
  | [] => List.Perm.refl _
  | x :: xs => by
    unfold insertMark
    split
    · exact List.Perm.refl _
    · exact ((insertMark_perm m xs).cons x).trans (List.Perm.swap _ _ _)

end Sys2Proof.Machine
end

