-- ==== Sys2Proof/Laws/Feeders.lean ====
section
/-! SUPPORT. What the Feeder Controller's operations leave as it was. -/

namespace Sys2Proof.Machine

variable (s : State)

/-! ### acceptClaim changes: alw, transit -/

@[simp] theorem acceptClaim_pending (n : Fin 24) (a : Nat) (r t : Option Nat) (ld : Nat) (w : Option Nat) (b : Binding) (g : Nat) : (s.acceptClaim n a r t ld w b g).pending = s.pending := by
  unfold State.acceptClaim; dsimp only; split <;> simp
@[simp] theorem acceptClaim_now (n : Fin 24) (a : Nat) (r t : Option Nat) (ld : Nat) (w : Option Nat) (b : Binding) (g : Nat) : (s.acceptClaim n a r t ld w b g).now = s.now := by
  unfold State.acceptClaim; dsimp only; split <;> simp
@[simp] theorem acceptClaim_held (n : Fin 24) (a : Nat) (r t : Option Nat) (ld : Nat) (w : Option Nat) (b : Binding) (g : Nat) : (s.acceptClaim n a r t ld w b g).held = s.held := by
  unfold State.acceptClaim; dsimp only; split <;> simp
@[simp] theorem acceptClaim_supplyRose (n : Fin 24) (a : Nat) (r t : Option Nat) (ld : Nat) (w : Option Nat) (b : Binding) (g : Nat) : (s.acceptClaim n a r t ld w b g).supplyRose = s.supplyRose := by
  unfold State.acceptClaim; dsimp only; split <;> simp
@[simp] theorem acceptClaim_cause (n : Fin 24) (a : Nat) (r t : Option Nat) (ld : Nat) (w : Option Nat) (b : Binding) (g : Nat) : (s.acceptClaim n a r t ld w b g).cause = s.cause := by
  unfold State.acceptClaim; dsimp only; split <;> simp
@[simp] theorem acceptClaim_reg (n : Fin 24) (a : Nat) (r t : Option Nat) (ld : Nat) (w : Option Nat) (b : Binding) (g : Nat) : (s.acceptClaim n a r t ld w b g).reg = s.reg := by
  unfold State.acceptClaim; dsimp only; split <;> simp
@[simp] theorem acceptClaim_fdr (n : Fin 24) (a : Nat) (r t : Option Nat) (ld : Nat) (w : Option Nat) (b : Binding) (g : Nat) : (s.acceptClaim n a r t ld w b g).fdr = s.fdr := by
  unfold State.acceptClaim; dsimp only; split <;> simp
@[simp] theorem acceptClaim_saw (n : Fin 24) (a : Nat) (r t : Option Nat) (ld : Nat) (w : Option Nat) (b : Binding) (g : Nat) : (s.acceptClaim n a r t ld w b g).saw = s.saw := by
  unfold State.acceptClaim; dsimp only; split <;> simp
@[simp] theorem acceptClaim_meas (n : Fin 24) (a : Nat) (r t : Option Nat) (ld : Nat) (w : Option Nat) (b : Binding) (g : Nat) : (s.acceptClaim n a r t ld w b g).meas = s.meas := by
  unfold State.acceptClaim; dsimp only; split <;> simp
@[simp] theorem acceptClaim_set (n : Fin 24) (a : Nat) (r t : Option Nat) (ld : Nat) (w : Option Nat) (b : Binding) (g : Nat) : (s.acceptClaim n a r t ld w b g).set = s.set := by
  unfold State.acceptClaim; dsimp only; split <;> simp
@[simp] theorem acceptClaim_links (n : Fin 24) (a : Nat) (r t : Option Nat) (ld : Nat) (w : Option Nat) (b : Binding) (g : Nat) : (s.acceptClaim n a r t ld w b g).links = s.links := by
  unfold State.acceptClaim; dsimp only; split <;> simp
@[simp] theorem acceptClaim_pins (n : Fin 24) (a : Nat) (r t : Option Nat) (ld : Nat) (w : Option Nat) (b : Binding) (g : Nat) : (s.acceptClaim n a r t ld w b g).pins = s.pins := by
  unfold State.acceptClaim; dsimp only; split <;> simp

/-! ### setFeeder changes: fdr -/

@[simp] theorem setFeeder_pending (k : Fin 12) (f : Feeder) : (s.setFeeder k f).pending = s.pending := rfl
@[simp] theorem setFeeder_transit (k : Fin 12) (f : Feeder) : (s.setFeeder k f).transit = s.transit := rfl
@[simp] theorem setFeeder_now (k : Fin 12) (f : Feeder) : (s.setFeeder k f).now = s.now := rfl
@[simp] theorem setFeeder_held (k : Fin 12) (f : Feeder) : (s.setFeeder k f).held = s.held := rfl
@[simp] theorem setFeeder_supplyRose (k : Fin 12) (f : Feeder) : (s.setFeeder k f).supplyRose = s.supplyRose := rfl
@[simp] theorem setFeeder_cause (k : Fin 12) (f : Feeder) : (s.setFeeder k f).cause = s.cause := rfl
@[simp] theorem setFeeder_reg (k : Fin 12) (f : Feeder) : (s.setFeeder k f).reg = s.reg := rfl
@[simp] theorem setFeeder_alw (k : Fin 12) (f : Feeder) : (s.setFeeder k f).alw = s.alw := rfl
@[simp] theorem setFeeder_saw (k : Fin 12) (f : Feeder) : (s.setFeeder k f).saw = s.saw := rfl
@[simp] theorem setFeeder_meas (k : Fin 12) (f : Feeder) : (s.setFeeder k f).meas = s.meas := rfl
@[simp] theorem setFeeder_set (k : Fin 12) (f : Feeder) : (s.setFeeder k f).set = s.set := rfl
@[simp] theorem setFeeder_links (k : Fin 12) (f : Feeder) : (s.setFeeder k f).links = s.links := rfl
@[simp] theorem setFeeder_pins (k : Fin 12) (f : Feeder) : (s.setFeeder k f).pins = s.pins := rfl

/-! ### setCursor changes: fdr -/

@[simp] theorem setCursor_pending (c : Cursor) : (s.setCursor c).pending = s.pending := rfl
@[simp] theorem setCursor_transit (c : Cursor) : (s.setCursor c).transit = s.transit := rfl
@[simp] theorem setCursor_now (c : Cursor) : (s.setCursor c).now = s.now := rfl
@[simp] theorem setCursor_held (c : Cursor) : (s.setCursor c).held = s.held := rfl
@[simp] theorem setCursor_supplyRose (c : Cursor) : (s.setCursor c).supplyRose = s.supplyRose := rfl
@[simp] theorem setCursor_cause (c : Cursor) : (s.setCursor c).cause = s.cause := rfl
@[simp] theorem setCursor_reg (c : Cursor) : (s.setCursor c).reg = s.reg := rfl
@[simp] theorem setCursor_alw (c : Cursor) : (s.setCursor c).alw = s.alw := rfl
@[simp] theorem setCursor_saw (c : Cursor) : (s.setCursor c).saw = s.saw := rfl
@[simp] theorem setCursor_meas (c : Cursor) : (s.setCursor c).meas = s.meas := rfl
@[simp] theorem setCursor_set (c : Cursor) : (s.setCursor c).set = s.set := rfl
@[simp] theorem setCursor_links (c : Cursor) : (s.setCursor c).links = s.links := rfl
@[simp] theorem setCursor_pins (c : Cursor) : (s.setCursor c).pins = s.pins := rfl

/-! ### startStagger changes: fdr -/

@[simp] theorem startStagger_pending : (s.startStagger).pending = s.pending := rfl
@[simp] theorem startStagger_transit : (s.startStagger).transit = s.transit := rfl
@[simp] theorem startStagger_now : (s.startStagger).now = s.now := rfl
@[simp] theorem startStagger_held : (s.startStagger).held = s.held := rfl
@[simp] theorem startStagger_supplyRose : (s.startStagger).supplyRose = s.supplyRose := rfl
@[simp] theorem startStagger_cause : (s.startStagger).cause = s.cause := rfl
@[simp] theorem startStagger_reg : (s.startStagger).reg = s.reg := rfl
@[simp] theorem startStagger_alw : (s.startStagger).alw = s.alw := rfl
@[simp] theorem startStagger_saw : (s.startStagger).saw = s.saw := rfl
@[simp] theorem startStagger_meas : (s.startStagger).meas = s.meas := rfl
@[simp] theorem startStagger_set : (s.startStagger).set = s.set := rfl
@[simp] theorem startStagger_links : (s.startStagger).links = s.links := rfl
@[simp] theorem startStagger_pins : (s.startStagger).pins = s.pins := rfl

/-! ### releaseCursor changes: fdr -/

@[simp] theorem releaseCursor_pending (k : Fin 12) : (s.releaseCursor k).pending = s.pending := by
  unfold State.releaseCursor; split <;> rfl
@[simp] theorem releaseCursor_transit (k : Fin 12) : (s.releaseCursor k).transit = s.transit := by
  unfold State.releaseCursor; split <;> rfl
@[simp] theorem releaseCursor_now (k : Fin 12) : (s.releaseCursor k).now = s.now := by
  unfold State.releaseCursor; split <;> rfl
@[simp] theorem releaseCursor_held (k : Fin 12) : (s.releaseCursor k).held = s.held := by
  unfold State.releaseCursor; split <;> rfl
@[simp] theorem releaseCursor_supplyRose (k : Fin 12) : (s.releaseCursor k).supplyRose = s.supplyRose := by
  unfold State.releaseCursor; split <;> rfl
@[simp] theorem releaseCursor_cause (k : Fin 12) : (s.releaseCursor k).cause = s.cause := by
  unfold State.releaseCursor; split <;> rfl
@[simp] theorem releaseCursor_reg (k : Fin 12) : (s.releaseCursor k).reg = s.reg := by
  unfold State.releaseCursor; split <;> rfl
@[simp] theorem releaseCursor_alw (k : Fin 12) : (s.releaseCursor k).alw = s.alw := by
  unfold State.releaseCursor; split <;> rfl
@[simp] theorem releaseCursor_saw (k : Fin 12) : (s.releaseCursor k).saw = s.saw := by
  unfold State.releaseCursor; split <;> rfl
@[simp] theorem releaseCursor_meas (k : Fin 12) : (s.releaseCursor k).meas = s.meas := by
  unfold State.releaseCursor; split <;> rfl
@[simp] theorem releaseCursor_set (k : Fin 12) : (s.releaseCursor k).set = s.set := by
  unfold State.releaseCursor; split <;> rfl
@[simp] theorem releaseCursor_links (k : Fin 12) : (s.releaseCursor k).links = s.links := by
  unfold State.releaseCursor; split <;> rfl
@[simp] theorem releaseCursor_pins (k : Fin 12) : (s.releaseCursor k).pins = s.pins := by
  unfold State.releaseCursor; split <;> rfl

/-! ### requestFeeder changes: alw, transit -/

@[simp] theorem requestFeeder_pending (k : Fin 12) : ((s.requestFeeder k).1).pending = s.pending := by
  unfold State.requestFeeder; dsimp only; split <;> simp
@[simp] theorem requestFeeder_now (k : Fin 12) : ((s.requestFeeder k).1).now = s.now := by
  unfold State.requestFeeder; dsimp only; split <;> simp
@[simp] theorem requestFeeder_held (k : Fin 12) : ((s.requestFeeder k).1).held = s.held := by
  unfold State.requestFeeder; dsimp only; split <;> simp
@[simp] theorem requestFeeder_supplyRose (k : Fin 12) : ((s.requestFeeder k).1).supplyRose = s.supplyRose := by
  unfold State.requestFeeder; dsimp only; split <;> simp
@[simp] theorem requestFeeder_cause (k : Fin 12) : ((s.requestFeeder k).1).cause = s.cause := by
  unfold State.requestFeeder; dsimp only; split <;> simp
@[simp] theorem requestFeeder_reg (k : Fin 12) : ((s.requestFeeder k).1).reg = s.reg := by
  unfold State.requestFeeder; dsimp only; split <;> simp
@[simp] theorem requestFeeder_fdr (k : Fin 12) : ((s.requestFeeder k).1).fdr = s.fdr := by
  unfold State.requestFeeder; dsimp only; split <;> simp
@[simp] theorem requestFeeder_saw (k : Fin 12) : ((s.requestFeeder k).1).saw = s.saw := by
  unfold State.requestFeeder; dsimp only; split <;> simp
@[simp] theorem requestFeeder_meas (k : Fin 12) : ((s.requestFeeder k).1).meas = s.meas := by
  unfold State.requestFeeder; dsimp only; split <;> simp
@[simp] theorem requestFeeder_set (k : Fin 12) : ((s.requestFeeder k).1).set = s.set := by
  unfold State.requestFeeder; dsimp only; split <;> simp
@[simp] theorem requestFeeder_links (k : Fin 12) : ((s.requestFeeder k).1).links = s.links := by
  unfold State.requestFeeder; dsimp only; split <;> simp
@[simp] theorem requestFeeder_pins (k : Fin 12) : ((s.requestFeeder k).1).pins = s.pins := by
  unfold State.requestFeeder; dsimp only; split <;> simp

/-! ### faultFeeder changes: transit, fdr, links -/

@[simp] theorem faultFeeder_pending (k : Fin 12) (e : FeederFault) : (s.faultFeeder k e).pending = s.pending := by
  unfold State.faultFeeder; dsimp only; split <;> simp
@[simp] theorem faultFeeder_now (k : Fin 12) (e : FeederFault) : (s.faultFeeder k e).now = s.now := by
  unfold State.faultFeeder; dsimp only; split <;> simp
@[simp] theorem faultFeeder_held (k : Fin 12) (e : FeederFault) : (s.faultFeeder k e).held = s.held := by
  unfold State.faultFeeder; dsimp only; split <;> simp
@[simp] theorem faultFeeder_supplyRose (k : Fin 12) (e : FeederFault) : (s.faultFeeder k e).supplyRose = s.supplyRose := by
  unfold State.faultFeeder; dsimp only; split <;> simp
@[simp] theorem faultFeeder_cause (k : Fin 12) (e : FeederFault) : (s.faultFeeder k e).cause = s.cause := by
  unfold State.faultFeeder; dsimp only; split <;> simp
@[simp] theorem faultFeeder_reg (k : Fin 12) (e : FeederFault) : (s.faultFeeder k e).reg = s.reg := by
  unfold State.faultFeeder; dsimp only; split <;> simp
@[simp] theorem faultFeeder_alw (k : Fin 12) (e : FeederFault) : (s.faultFeeder k e).alw = s.alw := by
  unfold State.faultFeeder; dsimp only; split <;> simp
@[simp] theorem faultFeeder_saw (k : Fin 12) (e : FeederFault) : (s.faultFeeder k e).saw = s.saw := by
  unfold State.faultFeeder; dsimp only; split <;> simp
@[simp] theorem faultFeeder_meas (k : Fin 12) (e : FeederFault) : (s.faultFeeder k e).meas = s.meas := by
  unfold State.faultFeeder; dsimp only; split <;> simp
@[simp] theorem faultFeeder_set (k : Fin 12) (e : FeederFault) : (s.faultFeeder k e).set = s.set := by
  unfold State.faultFeeder; dsimp only; split <;> simp
@[simp] theorem faultFeeder_pins (k : Fin 12) (e : FeederFault) : (s.faultFeeder k e).pins = s.pins := by
  unfold State.faultFeeder; dsimp only; split <;> simp

/-! ### shedFeeder changes: transit, fdr, links -/

@[simp] theorem shedFeeder_pending (k : Fin 12) : (s.shedFeeder k).pending = s.pending := by
  simp [State.shedFeeder]
@[simp] theorem shedFeeder_now (k : Fin 12) : (s.shedFeeder k).now = s.now := by
  simp [State.shedFeeder]
@[simp] theorem shedFeeder_held (k : Fin 12) : (s.shedFeeder k).held = s.held := by
  simp [State.shedFeeder]
@[simp] theorem shedFeeder_supplyRose (k : Fin 12) : (s.shedFeeder k).supplyRose = s.supplyRose := by
  simp [State.shedFeeder]
@[simp] theorem shedFeeder_cause (k : Fin 12) : (s.shedFeeder k).cause = s.cause := by
  simp [State.shedFeeder]
@[simp] theorem shedFeeder_reg (k : Fin 12) : (s.shedFeeder k).reg = s.reg := by
  simp [State.shedFeeder]
@[simp] theorem shedFeeder_alw (k : Fin 12) : (s.shedFeeder k).alw = s.alw := by
  simp [State.shedFeeder]
@[simp] theorem shedFeeder_saw (k : Fin 12) : (s.shedFeeder k).saw = s.saw := by
  simp [State.shedFeeder]
@[simp] theorem shedFeeder_meas (k : Fin 12) : (s.shedFeeder k).meas = s.meas := by
  simp [State.shedFeeder]
@[simp] theorem shedFeeder_set (k : Fin 12) : (s.shedFeeder k).set = s.set := by
  simp [State.shedFeeder]
@[simp] theorem shedFeeder_pins (k : Fin 12) : (s.shedFeeder k).pins = s.pins := by
  simp [State.shedFeeder]

/-! ### forcedRelease changes: transit -/

@[simp] theorem forcedRelease_pending : (s.forcedRelease).pending = s.pending := by
  unfold State.forcedRelease; split <;> simp
@[simp] theorem forcedRelease_now : (s.forcedRelease).now = s.now := by
  unfold State.forcedRelease; split <;> simp
@[simp] theorem forcedRelease_held : (s.forcedRelease).held = s.held := by
  unfold State.forcedRelease; split <;> simp
@[simp] theorem forcedRelease_supplyRose : (s.forcedRelease).supplyRose = s.supplyRose := by
  unfold State.forcedRelease; split <;> simp
@[simp] theorem forcedRelease_cause : (s.forcedRelease).cause = s.cause := by
  unfold State.forcedRelease; split <;> simp
@[simp] theorem forcedRelease_reg : (s.forcedRelease).reg = s.reg := by
  unfold State.forcedRelease; split <;> simp
@[simp] theorem forcedRelease_alw : (s.forcedRelease).alw = s.alw := by
  unfold State.forcedRelease; split <;> simp
@[simp] theorem forcedRelease_fdr : (s.forcedRelease).fdr = s.fdr := by
  unfold State.forcedRelease; split <;> simp
@[simp] theorem forcedRelease_saw : (s.forcedRelease).saw = s.saw := by
  unfold State.forcedRelease; split <;> simp
@[simp] theorem forcedRelease_meas : (s.forcedRelease).meas = s.meas := by
  unfold State.forcedRelease; split <;> simp
@[simp] theorem forcedRelease_set : (s.forcedRelease).set = s.set := by
  unfold State.forcedRelease; split <;> simp
@[simp] theorem forcedRelease_links : (s.forcedRelease).links = s.links := by
  unfold State.forcedRelease; split <;> simp
@[simp] theorem forcedRelease_pins : (s.forcedRelease).pins = s.pins := by
  unfold State.forcedRelease; split <;> simp

/-! ### restartStep changes: fdr -/

@[simp] theorem restartStep_pending : (s.restartStep).pending = s.pending := rfl
@[simp] theorem restartStep_transit : (s.restartStep).transit = s.transit := rfl
@[simp] theorem restartStep_now : (s.restartStep).now = s.now := rfl
@[simp] theorem restartStep_held : (s.restartStep).held = s.held := rfl
@[simp] theorem restartStep_supplyRose : (s.restartStep).supplyRose = s.supplyRose := rfl
@[simp] theorem restartStep_cause : (s.restartStep).cause = s.cause := rfl
@[simp] theorem restartStep_reg : (s.restartStep).reg = s.reg := rfl
@[simp] theorem restartStep_alw : (s.restartStep).alw = s.alw := rfl
@[simp] theorem restartStep_saw : (s.restartStep).saw = s.saw := rfl
@[simp] theorem restartStep_meas : (s.restartStep).meas = s.meas := rfl
@[simp] theorem restartStep_set : (s.restartStep).set = s.set := rfl
@[simp] theorem restartStep_links : (s.restartStep).links = s.links := rfl
@[simp] theorem restartStep_pins : (s.restartStep).pins = s.pins := rfl

/-! ### shedStep changes: transit, fdr, links -/

@[simp] theorem shedStep_pending : (s.shedStep).pending = s.pending := by
  unfold State.shedStep; dsimp only; split <;> (try split) <;> simp
@[simp] theorem shedStep_now : (s.shedStep).now = s.now := by
  unfold State.shedStep; dsimp only; split <;> (try split) <;> simp
@[simp] theorem shedStep_held : (s.shedStep).held = s.held := by
  unfold State.shedStep; dsimp only; split <;> (try split) <;> simp
@[simp] theorem shedStep_supplyRose : (s.shedStep).supplyRose = s.supplyRose := by
  unfold State.shedStep; dsimp only; split <;> (try split) <;> simp
@[simp] theorem shedStep_cause : (s.shedStep).cause = s.cause := by
  unfold State.shedStep; dsimp only; split <;> (try split) <;> simp
@[simp] theorem shedStep_reg : (s.shedStep).reg = s.reg := by
  unfold State.shedStep; dsimp only; split <;> (try split) <;> simp
@[simp] theorem shedStep_alw : (s.shedStep).alw = s.alw := by
  unfold State.shedStep; dsimp only; split <;> (try split) <;> simp
@[simp] theorem shedStep_saw : (s.shedStep).saw = s.saw := by
  unfold State.shedStep; dsimp only; split <;> (try split) <;> simp
@[simp] theorem shedStep_meas : (s.shedStep).meas = s.meas := by
  unfold State.shedStep; dsimp only; split <;> (try split) <;> simp
@[simp] theorem shedStep_set : (s.shedStep).set = s.set := by
  unfold State.shedStep; dsimp only; split <;> (try split) <;> simp
@[simp] theorem shedStep_pins : (s.shedStep).pins = s.pins := by
  unfold State.shedStep; dsimp only; split <;> (try split) <;> simp

/-! ### stepBetweenMarks changes: transit, fdr, links -/

@[simp] theorem stepBetweenMarks_pending : (s.stepBetweenMarks).pending = s.pending := by
  unfold State.stepBetweenMarks; split <;> (try split) <;> simp
@[simp] theorem stepBetweenMarks_now : (s.stepBetweenMarks).now = s.now := by
  unfold State.stepBetweenMarks; split <;> (try split) <;> simp
@[simp] theorem stepBetweenMarks_held : (s.stepBetweenMarks).held = s.held := by
  unfold State.stepBetweenMarks; split <;> (try split) <;> simp
@[simp] theorem stepBetweenMarks_supplyRose : (s.stepBetweenMarks).supplyRose = s.supplyRose := by
  unfold State.stepBetweenMarks; split <;> (try split) <;> simp
@[simp] theorem stepBetweenMarks_cause : (s.stepBetweenMarks).cause = s.cause := by
  unfold State.stepBetweenMarks; split <;> (try split) <;> simp
@[simp] theorem stepBetweenMarks_reg : (s.stepBetweenMarks).reg = s.reg := by
  unfold State.stepBetweenMarks; split <;> (try split) <;> simp
@[simp] theorem stepBetweenMarks_alw : (s.stepBetweenMarks).alw = s.alw := by
  unfold State.stepBetweenMarks; split <;> (try split) <;> simp
@[simp] theorem stepBetweenMarks_saw : (s.stepBetweenMarks).saw = s.saw := by
  unfold State.stepBetweenMarks; split <;> (try split) <;> simp
@[simp] theorem stepBetweenMarks_meas : (s.stepBetweenMarks).meas = s.meas := by
  unfold State.stepBetweenMarks; split <;> (try split) <;> simp
@[simp] theorem stepBetweenMarks_set : (s.stepBetweenMarks).set = s.set := by
  unfold State.stepBetweenMarks; split <;> (try split) <;> simp
@[simp] theorem stepBetweenMarks_pins : (s.stepBetweenMarks).pins = s.pins := by
  unfold State.stepBetweenMarks; split <;> (try split) <;> simp

/-! ### restorationChoice changes: alw, transit, fdr -/

@[simp] theorem restorationChoice_pending : (s.restorationChoice).pending = s.pending := by
  unfold State.restorationChoice; split
  · simp
  · rename_i k _
    split <;> rename_i h <;> simp [← requestFeeder_pending s k, h]
@[simp] theorem restorationChoice_now : (s.restorationChoice).now = s.now := by
  unfold State.restorationChoice; split
  · simp
  · rename_i k _
    split <;> rename_i h <;> simp [← requestFeeder_now s k, h]
@[simp] theorem restorationChoice_held : (s.restorationChoice).held = s.held := by
  unfold State.restorationChoice; split
  · simp
  · rename_i k _
    split <;> rename_i h <;> simp [← requestFeeder_held s k, h]
@[simp] theorem restorationChoice_supplyRose : (s.restorationChoice).supplyRose = s.supplyRose := by
  unfold State.restorationChoice; split
  · simp
  · rename_i k _
    split <;> rename_i h <;> simp [← requestFeeder_supplyRose s k, h]
@[simp] theorem restorationChoice_cause : (s.restorationChoice).cause = s.cause := by
  unfold State.restorationChoice; split
  · simp
  · rename_i k _
    split <;> rename_i h <;> simp [← requestFeeder_cause s k, h]
@[simp] theorem restorationChoice_reg : (s.restorationChoice).reg = s.reg := by
  unfold State.restorationChoice; split
  · simp
  · rename_i k _
    split <;> rename_i h <;> simp [← requestFeeder_reg s k, h]
@[simp] theorem restorationChoice_saw : (s.restorationChoice).saw = s.saw := by
  unfold State.restorationChoice; split
  · simp
  · rename_i k _
    split <;> rename_i h <;> simp [← requestFeeder_saw s k, h]
@[simp] theorem restorationChoice_meas : (s.restorationChoice).meas = s.meas := by
  unfold State.restorationChoice; split
  · simp
  · rename_i k _
    split <;> rename_i h <;> simp [← requestFeeder_meas s k, h]
@[simp] theorem restorationChoice_set : (s.restorationChoice).set = s.set := by
  unfold State.restorationChoice; split
  · simp
  · rename_i k _
    split <;> rename_i h <;> simp [← requestFeeder_set s k, h]
@[simp] theorem restorationChoice_links : (s.restorationChoice).links = s.links := by
  unfold State.restorationChoice; split
  · simp
  · rename_i k _
    split <;> rename_i h <;> simp [← requestFeeder_links s k, h]
@[simp] theorem restorationChoice_pins : (s.restorationChoice).pins = s.pins := by
  unfold State.restorationChoice; split
  · simp
  · rename_i k _
    split <;> rename_i h <;> simp [← requestFeeder_pins s k, h]

/-! ### cancelRestoring changes: transit, fdr, links -/

@[simp] theorem cancelRestoring_pending : (s.cancelRestoring).pending = s.pending := by
  unfold State.cancelRestoring; split
  · dsimp only; split <;> simp
  all_goals simp
@[simp] theorem cancelRestoring_now : (s.cancelRestoring).now = s.now := by
  unfold State.cancelRestoring; split
  · dsimp only; split <;> simp
  all_goals simp
@[simp] theorem cancelRestoring_held : (s.cancelRestoring).held = s.held := by
  unfold State.cancelRestoring; split
  · dsimp only; split <;> simp
  all_goals simp
@[simp] theorem cancelRestoring_supplyRose : (s.cancelRestoring).supplyRose = s.supplyRose := by
  unfold State.cancelRestoring; split
  · dsimp only; split <;> simp
  all_goals simp
@[simp] theorem cancelRestoring_cause : (s.cancelRestoring).cause = s.cause := by
  unfold State.cancelRestoring; split
  · dsimp only; split <;> simp
  all_goals simp
@[simp] theorem cancelRestoring_reg : (s.cancelRestoring).reg = s.reg := by
  unfold State.cancelRestoring; split
  · dsimp only; split <;> simp
  all_goals simp
@[simp] theorem cancelRestoring_alw : (s.cancelRestoring).alw = s.alw := by
  unfold State.cancelRestoring; split
  · dsimp only; split <;> simp
  all_goals simp
@[simp] theorem cancelRestoring_saw : (s.cancelRestoring).saw = s.saw := by
  unfold State.cancelRestoring; split
  · dsimp only; split <;> simp
  all_goals simp
@[simp] theorem cancelRestoring_meas : (s.cancelRestoring).meas = s.meas := by
  unfold State.cancelRestoring; split
  · dsimp only; split <;> simp
  all_goals simp
@[simp] theorem cancelRestoring_set : (s.cancelRestoring).set = s.set := by
  unfold State.cancelRestoring; split
  · dsimp only; split <;> simp
  all_goals simp
@[simp] theorem cancelRestoring_pins : (s.cancelRestoring).pins = s.pins := by
  unfold State.cancelRestoring; split
  · dsimp only; split <;> simp
  all_goals simp

/-! ### feedersAtBlack changes: fdr, links -/

@[simp] theorem feedersAtBlack_pending : (s.feedersAtBlack).pending = s.pending := by
  unfold State.feedersAtBlack; dsimp only; split <;> simp
@[simp] theorem feedersAtBlack_transit : (s.feedersAtBlack).transit = s.transit := by
  unfold State.feedersAtBlack; dsimp only; split <;> simp
@[simp] theorem feedersAtBlack_now : (s.feedersAtBlack).now = s.now := by
  unfold State.feedersAtBlack; dsimp only; split <;> simp
@[simp] theorem feedersAtBlack_held : (s.feedersAtBlack).held = s.held := by
  unfold State.feedersAtBlack; dsimp only; split <;> simp
@[simp] theorem feedersAtBlack_supplyRose : (s.feedersAtBlack).supplyRose = s.supplyRose := by
  unfold State.feedersAtBlack; dsimp only; split <;> simp
@[simp] theorem feedersAtBlack_cause : (s.feedersAtBlack).cause = s.cause := by
  unfold State.feedersAtBlack; dsimp only; split <;> simp
@[simp] theorem feedersAtBlack_reg : (s.feedersAtBlack).reg = s.reg := by
  unfold State.feedersAtBlack; dsimp only; split <;> simp
@[simp] theorem feedersAtBlack_alw : (s.feedersAtBlack).alw = s.alw := by
  unfold State.feedersAtBlack; dsimp only; split <;> simp
@[simp] theorem feedersAtBlack_saw : (s.feedersAtBlack).saw = s.saw := by
  unfold State.feedersAtBlack; dsimp only; split <;> simp
@[simp] theorem feedersAtBlack_meas : (s.feedersAtBlack).meas = s.meas := by
  unfold State.feedersAtBlack; dsimp only; split <;> simp
@[simp] theorem feedersAtBlack_set : (s.feedersAtBlack).set = s.set := by
  unfold State.feedersAtBlack; dsimp only; split <;> simp
@[simp] theorem feedersAtBlack_pins : (s.feedersAtBlack).pins = s.pins := by
  unfold State.feedersAtBlack; dsimp only; split <;> simp

/-! ### feederLetGo changes: alw, transit, fdr, links -/

@[simp] theorem feederLetGo_pending (k : Fin 12) (b : Bool) : (s.feederLetGo k b).pending = s.pending := by
  unfold State.feederLetGo; dsimp only; rw [syncFeeders_pending]; split <;> split <;> simp
@[simp] theorem feederLetGo_now (k : Fin 12) (b : Bool) : (s.feederLetGo k b).now = s.now := by
  unfold State.feederLetGo; dsimp only; rw [syncFeeders_now]; split <;> split <;> simp
@[simp] theorem feederLetGo_held (k : Fin 12) (b : Bool) : (s.feederLetGo k b).held = s.held := by
  unfold State.feederLetGo; dsimp only; rw [syncFeeders_held]; split <;> split <;> simp
@[simp] theorem feederLetGo_supplyRose (k : Fin 12) (b : Bool) : (s.feederLetGo k b).supplyRose = s.supplyRose := by
  unfold State.feederLetGo; dsimp only; rw [syncFeeders_supplyRose]; split <;> split <;> simp
@[simp] theorem feederLetGo_cause (k : Fin 12) (b : Bool) : (s.feederLetGo k b).cause = s.cause := by
  unfold State.feederLetGo; dsimp only; rw [syncFeeders_cause]; split <;> split <;> simp
@[simp] theorem feederLetGo_reg (k : Fin 12) (b : Bool) : (s.feederLetGo k b).reg = s.reg := by
  unfold State.feederLetGo; dsimp only; rw [syncFeeders_reg]; split <;> split <;> simp
@[simp] theorem feederLetGo_saw (k : Fin 12) (b : Bool) : (s.feederLetGo k b).saw = s.saw := by
  unfold State.feederLetGo; dsimp only; rw [syncFeeders_saw]; split <;> split <;> simp
@[simp] theorem feederLetGo_meas (k : Fin 12) (b : Bool) : (s.feederLetGo k b).meas = s.meas := by
  unfold State.feederLetGo; dsimp only; rw [syncFeeders_meas]; split <;> split <;> simp
@[simp] theorem feederLetGo_set (k : Fin 12) (b : Bool) : (s.feederLetGo k b).set = s.set := by
  unfold State.feederLetGo; dsimp only; rw [syncFeeders_set]; split <;> split <;> simp
@[simp] theorem feederLetGo_pins (k : Fin 12) (b : Bool) : (s.feederLetGo k b).pins = s.pins := by
  unfold State.feederLetGo; dsimp only; rw [syncFeeders_pins]; split <;> split <;> simp

/-! ### A restoring feeder whose due event came before the entry to DEFICIT (R81, R130) -/

theorem dueTaken_iff (s : State) (k : Fin 12) :
    s.dueTaken k = true ↔
      ((s.feeder k).state = .waiting ∨ (s.feeder k).state = .pending) ∧ (s.claim (feederClaim k)).state = .carried
        ∧ .feederCarriedReport k ∈ s.transit := by
  simp [State.dueTaken, and_assoc]

/-- Its carried report is taken first. -/
theorem takeRestored_connected {s : State} {k : Fin 12} (hc : s.fdr.cursor = .restoring k) (h : s.dueTaken k = true) :
    s.takeRestored = feederCarriedEffect k (s.arrive (.feederCarriedReport k)) := by
  simp [State.takeRestored, hc, h, State.takeReport, ((dueTaken_iff s k).1 h).2.2]

/-- With no such feeder nothing is taken first. -/
theorem takeRestored_none {s : State} (h : ∀ k : Fin 12, s.fdr.cursor = .restoring k → s.dueTaken k = false) :
    s.takeRestored = s := by
  unfold State.takeRestored
  split
  · next k hc => simp [h k hc]
  all_goals rfl

/-- A feeder connected so is no longer a restoring one that could be given up. -/
theorem cancelRestoring_none {s : State} (h : ∀ k : Fin 12, s.fdr.cursor ≠ .restoring k) : s.cancelRestoring = s := by
  unfold State.cancelRestoring
  split
  · next k hc => exact absurd hc (h k)
  all_goals rfl

end Sys2Proof.Machine
end

