-- ==== Sys2Proof/Laws/Saw.lean ====
section
/-! SUPPORT. What the operations of the Saw Sequencer and of the Measurement Unit leave as it was. -/

namespace Sys2Proof.Machine

variable (s : State)

/-! ### moveSaw changes: saw -/

@[simp] theorem moveSaw_pending (st : SawState) (c : SawCommands) : (s.moveSaw st c).pending = s.pending := rfl
@[simp] theorem moveSaw_transit (st : SawState) (c : SawCommands) : (s.moveSaw st c).transit = s.transit := rfl
@[simp] theorem moveSaw_now (st : SawState) (c : SawCommands) : (s.moveSaw st c).now = s.now := rfl
@[simp] theorem moveSaw_held (st : SawState) (c : SawCommands) : (s.moveSaw st c).held = s.held := rfl
@[simp] theorem moveSaw_supplyRose (st : SawState) (c : SawCommands) : (s.moveSaw st c).supplyRose = s.supplyRose := rfl
@[simp] theorem moveSaw_cause (st : SawState) (c : SawCommands) : (s.moveSaw st c).cause = s.cause := rfl
@[simp] theorem moveSaw_reg (st : SawState) (c : SawCommands) : (s.moveSaw st c).reg = s.reg := rfl
@[simp] theorem moveSaw_alw (st : SawState) (c : SawCommands) : (s.moveSaw st c).alw = s.alw := rfl
@[simp] theorem moveSaw_fdr (st : SawState) (c : SawCommands) : (s.moveSaw st c).fdr = s.fdr := rfl
@[simp] theorem moveSaw_meas (st : SawState) (c : SawCommands) : (s.moveSaw st c).meas = s.meas := rfl
@[simp] theorem moveSaw_set (st : SawState) (c : SawCommands) : (s.moveSaw st c).set = s.set := rfl
@[simp] theorem moveSaw_links (st : SawState) (c : SawCommands) : (s.moveSaw st c).links = s.links := rfl
@[simp] theorem moveSaw_pins (st : SawState) (c : SawCommands) : (s.moveSaw st c).pins = s.pins := rfl

/-! ### moveSawNotified changes: saw, links -/

@[simp] theorem moveSawNotified_pending (st : SawState) (c : SawCommands) : (s.moveSawNotified st c).pending = s.pending := rfl
@[simp] theorem moveSawNotified_transit (st : SawState) (c : SawCommands) : (s.moveSawNotified st c).transit = s.transit := rfl
@[simp] theorem moveSawNotified_now (st : SawState) (c : SawCommands) : (s.moveSawNotified st c).now = s.now := rfl
@[simp] theorem moveSawNotified_held (st : SawState) (c : SawCommands) : (s.moveSawNotified st c).held = s.held := rfl
@[simp] theorem moveSawNotified_supplyRose (st : SawState) (c : SawCommands) : (s.moveSawNotified st c).supplyRose = s.supplyRose := rfl
@[simp] theorem moveSawNotified_cause (st : SawState) (c : SawCommands) : (s.moveSawNotified st c).cause = s.cause := rfl
@[simp] theorem moveSawNotified_reg (st : SawState) (c : SawCommands) : (s.moveSawNotified st c).reg = s.reg := rfl
@[simp] theorem moveSawNotified_alw (st : SawState) (c : SawCommands) : (s.moveSawNotified st c).alw = s.alw := rfl
@[simp] theorem moveSawNotified_fdr (st : SawState) (c : SawCommands) : (s.moveSawNotified st c).fdr = s.fdr := rfl
@[simp] theorem moveSawNotified_meas (st : SawState) (c : SawCommands) : (s.moveSawNotified st c).meas = s.meas := rfl
@[simp] theorem moveSawNotified_set (st : SawState) (c : SawCommands) : (s.moveSawNotified st c).set = s.set := rfl
@[simp] theorem moveSawNotified_pins (st : SawState) (c : SawCommands) : (s.moveSawNotified st c).pins = s.pins := rfl

/-! ### endUnlessFree changes: transit -/

@[simp] theorem endUnlessFree_pending (n : Fin 24) (o : Ending) : (s.endUnlessFree n o).pending = s.pending := by
  unfold State.endUnlessFree; split <;> rfl
@[simp] theorem endUnlessFree_now (n : Fin 24) (o : Ending) : (s.endUnlessFree n o).now = s.now := by
  unfold State.endUnlessFree; split <;> rfl
@[simp] theorem endUnlessFree_held (n : Fin 24) (o : Ending) : (s.endUnlessFree n o).held = s.held := by
  unfold State.endUnlessFree; split <;> rfl
@[simp] theorem endUnlessFree_supplyRose (n : Fin 24) (o : Ending) : (s.endUnlessFree n o).supplyRose = s.supplyRose := by
  unfold State.endUnlessFree; split <;> rfl
@[simp] theorem endUnlessFree_cause (n : Fin 24) (o : Ending) : (s.endUnlessFree n o).cause = s.cause := by
  unfold State.endUnlessFree; split <;> rfl
@[simp] theorem endUnlessFree_reg (n : Fin 24) (o : Ending) : (s.endUnlessFree n o).reg = s.reg := by
  unfold State.endUnlessFree; split <;> rfl
@[simp] theorem endUnlessFree_alw (n : Fin 24) (o : Ending) : (s.endUnlessFree n o).alw = s.alw := by
  unfold State.endUnlessFree; split <;> rfl
@[simp] theorem endUnlessFree_fdr (n : Fin 24) (o : Ending) : (s.endUnlessFree n o).fdr = s.fdr := by
  unfold State.endUnlessFree; split <;> rfl
@[simp] theorem endUnlessFree_saw (n : Fin 24) (o : Ending) : (s.endUnlessFree n o).saw = s.saw := by
  unfold State.endUnlessFree; split <;> rfl
@[simp] theorem endUnlessFree_meas (n : Fin 24) (o : Ending) : (s.endUnlessFree n o).meas = s.meas := by
  unfold State.endUnlessFree; split <;> rfl
@[simp] theorem endUnlessFree_set (n : Fin 24) (o : Ending) : (s.endUnlessFree n o).set = s.set := by
  unfold State.endUnlessFree; split <;> rfl
@[simp] theorem endUnlessFree_links (n : Fin 24) (o : Ending) : (s.endUnlessFree n o).links = s.links := by
  unfold State.endUnlessFree; split <;> rfl
@[simp] theorem endUnlessFree_pins (n : Fin 24) (o : Ending) : (s.endUnlessFree n o).pins = s.pins := by
  unfold State.endUnlessFree; split <;> rfl

/-! ### faultSaw changes: transit, saw, links -/

@[simp] theorem faultSaw_pending (k : SawFault) : (s.faultSaw k).pending = s.pending := by
  simp [State.faultSaw]
@[simp] theorem faultSaw_now (k : SawFault) : (s.faultSaw k).now = s.now := by
  simp [State.faultSaw]
@[simp] theorem faultSaw_held (k : SawFault) : (s.faultSaw k).held = s.held := by
  simp [State.faultSaw]
@[simp] theorem faultSaw_supplyRose (k : SawFault) : (s.faultSaw k).supplyRose = s.supplyRose := by
  simp [State.faultSaw]
@[simp] theorem faultSaw_cause (k : SawFault) : (s.faultSaw k).cause = s.cause := by
  simp [State.faultSaw]
@[simp] theorem faultSaw_reg (k : SawFault) : (s.faultSaw k).reg = s.reg := by
  simp [State.faultSaw]
@[simp] theorem faultSaw_alw (k : SawFault) : (s.faultSaw k).alw = s.alw := by
  simp [State.faultSaw]
@[simp] theorem faultSaw_fdr (k : SawFault) : (s.faultSaw k).fdr = s.fdr := by
  simp [State.faultSaw]
@[simp] theorem faultSaw_meas (k : SawFault) : (s.faultSaw k).meas = s.meas := by
  simp [State.faultSaw]
@[simp] theorem faultSaw_set (k : SawFault) : (s.faultSaw k).set = s.set := by
  simp [State.faultSaw]
@[simp] theorem faultSaw_pins (k : SawFault) : (s.faultSaw k).pins = s.pins := by
  simp [State.faultSaw]

/-! ### stopRequests changes: transit -/

@[simp] theorem stopRequests_pending (o : Ending) : (s.stopRequests o).pending = s.pending := by
  unfold State.stopRequests; split <;> simp
@[simp] theorem stopRequests_now (o : Ending) : (s.stopRequests o).now = s.now := by
  unfold State.stopRequests; split <;> simp
@[simp] theorem stopRequests_held (o : Ending) : (s.stopRequests o).held = s.held := by
  unfold State.stopRequests; split <;> simp
@[simp] theorem stopRequests_supplyRose (o : Ending) : (s.stopRequests o).supplyRose = s.supplyRose := by
  unfold State.stopRequests; split <;> simp
@[simp] theorem stopRequests_cause (o : Ending) : (s.stopRequests o).cause = s.cause := by
  unfold State.stopRequests; split <;> simp
@[simp] theorem stopRequests_reg (o : Ending) : (s.stopRequests o).reg = s.reg := by
  unfold State.stopRequests; split <;> simp
@[simp] theorem stopRequests_alw (o : Ending) : (s.stopRequests o).alw = s.alw := by
  unfold State.stopRequests; split <;> simp
@[simp] theorem stopRequests_fdr (o : Ending) : (s.stopRequests o).fdr = s.fdr := by
  unfold State.stopRequests; split <;> simp
@[simp] theorem stopRequests_saw (o : Ending) : (s.stopRequests o).saw = s.saw := by
  unfold State.stopRequests; split <;> simp
@[simp] theorem stopRequests_meas (o : Ending) : (s.stopRequests o).meas = s.meas := by
  unfold State.stopRequests; split <;> simp
@[simp] theorem stopRequests_set (o : Ending) : (s.stopRequests o).set = s.set := by
  unfold State.stopRequests; split <;> simp
@[simp] theorem stopRequests_links (o : Ending) : (s.stopRequests o).links = s.links := by
  unfold State.stopRequests; split <;> simp
@[simp] theorem stopRequests_pins (o : Ending) : (s.stopRequests o).pins = s.pins := by
  unfold State.stopRequests; split <;> simp

/-! ### stopSequence changes: transit, saw, links -/

@[simp] theorem stopSequence_pending (o : Ending) : (s.stopSequence o).pending = s.pending := by
  simp [State.stopSequence]
@[simp] theorem stopSequence_now (o : Ending) : (s.stopSequence o).now = s.now := by
  simp [State.stopSequence]
@[simp] theorem stopSequence_held (o : Ending) : (s.stopSequence o).held = s.held := by
  simp [State.stopSequence]
@[simp] theorem stopSequence_supplyRose (o : Ending) : (s.stopSequence o).supplyRose = s.supplyRose := by
  simp [State.stopSequence]
@[simp] theorem stopSequence_cause (o : Ending) : (s.stopSequence o).cause = s.cause := by
  simp [State.stopSequence]
@[simp] theorem stopSequence_reg (o : Ending) : (s.stopSequence o).reg = s.reg := by
  simp [State.stopSequence]
@[simp] theorem stopSequence_alw (o : Ending) : (s.stopSequence o).alw = s.alw := by
  simp [State.stopSequence]
@[simp] theorem stopSequence_fdr (o : Ending) : (s.stopSequence o).fdr = s.fdr := by
  simp [State.stopSequence]
@[simp] theorem stopSequence_meas (o : Ending) : (s.stopSequence o).meas = s.meas := by
  simp [State.stopSequence]
@[simp] theorem stopSequence_set (o : Ending) : (s.stopSequence o).set = s.set := by
  simp [State.stopSequence]
@[simp] theorem stopSequence_pins (o : Ending) : (s.stopSequence o).pins = s.pins := by
  simp [State.stopSequence]

/-! ### enterChangeover changes: saw, links -/

@[simp] theorem enterChangeover_pending : (s.enterChangeover).pending = s.pending := by
  simp [State.enterChangeover]
@[simp] theorem enterChangeover_transit : (s.enterChangeover).transit = s.transit := by
  simp [State.enterChangeover]
@[simp] theorem enterChangeover_now : (s.enterChangeover).now = s.now := by
  simp [State.enterChangeover]
@[simp] theorem enterChangeover_held : (s.enterChangeover).held = s.held := by
  simp [State.enterChangeover]
@[simp] theorem enterChangeover_supplyRose : (s.enterChangeover).supplyRose = s.supplyRose := by
  simp [State.enterChangeover]
@[simp] theorem enterChangeover_cause : (s.enterChangeover).cause = s.cause := by
  simp [State.enterChangeover]
@[simp] theorem enterChangeover_reg : (s.enterChangeover).reg = s.reg := by
  simp [State.enterChangeover]
@[simp] theorem enterChangeover_alw : (s.enterChangeover).alw = s.alw := by
  simp [State.enterChangeover]
@[simp] theorem enterChangeover_fdr : (s.enterChangeover).fdr = s.fdr := by
  simp [State.enterChangeover]
@[simp] theorem enterChangeover_meas : (s.enterChangeover).meas = s.meas := by
  simp [State.enterChangeover]
@[simp] theorem enterChangeover_set : (s.enterChangeover).set = s.set := by
  simp [State.enterChangeover]
@[simp] theorem enterChangeover_pins : (s.enterChangeover).pins = s.pins := by
  simp [State.enterChangeover]

/-! ### closeDelta changes: transit, saw, links -/

@[simp] theorem closeDelta_pending : (s.closeDelta).pending = s.pending := by
  simp [State.closeDelta]
@[simp] theorem closeDelta_now : (s.closeDelta).now = s.now := by
  simp [State.closeDelta]
@[simp] theorem closeDelta_held : (s.closeDelta).held = s.held := by
  simp [State.closeDelta]
@[simp] theorem closeDelta_supplyRose : (s.closeDelta).supplyRose = s.supplyRose := by
  simp [State.closeDelta]
@[simp] theorem closeDelta_cause : (s.closeDelta).cause = s.cause := by
  simp [State.closeDelta]
@[simp] theorem closeDelta_reg : (s.closeDelta).reg = s.reg := by
  simp [State.closeDelta]
@[simp] theorem closeDelta_alw : (s.closeDelta).alw = s.alw := by
  simp [State.closeDelta]
@[simp] theorem closeDelta_fdr : (s.closeDelta).fdr = s.fdr := by
  simp [State.closeDelta]
@[simp] theorem closeDelta_meas : (s.closeDelta).meas = s.meas := by
  simp [State.closeDelta]
@[simp] theorem closeDelta_set : (s.closeDelta).set = s.set := by
  simp [State.closeDelta]
@[simp] theorem closeDelta_pins : (s.closeDelta).pins = s.pins := by
  simp [State.closeDelta]

/-! ### judgeLimits changes: transit, saw, links -/

@[simp] theorem judgeLimits_pending : (s.judgeLimits).pending = s.pending := by
  unfold State.judgeLimits; split <;> simp
@[simp] theorem judgeLimits_now : (s.judgeLimits).now = s.now := by
  unfold State.judgeLimits; split <;> simp
@[simp] theorem judgeLimits_held : (s.judgeLimits).held = s.held := by
  unfold State.judgeLimits; split <;> simp
@[simp] theorem judgeLimits_supplyRose : (s.judgeLimits).supplyRose = s.supplyRose := by
  unfold State.judgeLimits; split <;> simp
@[simp] theorem judgeLimits_cause : (s.judgeLimits).cause = s.cause := by
  unfold State.judgeLimits; split <;> simp
@[simp] theorem judgeLimits_reg : (s.judgeLimits).reg = s.reg := by
  unfold State.judgeLimits; split <;> simp
@[simp] theorem judgeLimits_alw : (s.judgeLimits).alw = s.alw := by
  unfold State.judgeLimits; split <;> simp
@[simp] theorem judgeLimits_fdr : (s.judgeLimits).fdr = s.fdr := by
  unfold State.judgeLimits; split <;> simp
@[simp] theorem judgeLimits_meas : (s.judgeLimits).meas = s.meas := by
  unfold State.judgeLimits; split <;> simp
@[simp] theorem judgeLimits_set : (s.judgeLimits).set = s.set := by
  unfold State.judgeLimits; split <;> simp
@[simp] theorem judgeLimits_pins : (s.judgeLimits).pins = s.pins := by
  unfold State.judgeLimits; split <;> simp

/-! ### judgeOverload changes: saw -/

@[simp] theorem judgeOverload_pending : (s.judgeOverload).pending = s.pending := by
  unfold State.judgeOverload; dsimp only; split <;> rfl
@[simp] theorem judgeOverload_transit : (s.judgeOverload).transit = s.transit := by
  unfold State.judgeOverload; dsimp only; split <;> rfl
@[simp] theorem judgeOverload_now : (s.judgeOverload).now = s.now := by
  unfold State.judgeOverload; dsimp only; split <;> rfl
@[simp] theorem judgeOverload_held : (s.judgeOverload).held = s.held := by
  unfold State.judgeOverload; dsimp only; split <;> rfl
@[simp] theorem judgeOverload_supplyRose : (s.judgeOverload).supplyRose = s.supplyRose := by
  unfold State.judgeOverload; dsimp only; split <;> rfl
@[simp] theorem judgeOverload_cause : (s.judgeOverload).cause = s.cause := by
  unfold State.judgeOverload; dsimp only; split <;> rfl
@[simp] theorem judgeOverload_reg : (s.judgeOverload).reg = s.reg := by
  unfold State.judgeOverload; dsimp only; split <;> rfl
@[simp] theorem judgeOverload_alw : (s.judgeOverload).alw = s.alw := by
  unfold State.judgeOverload; dsimp only; split <;> rfl
@[simp] theorem judgeOverload_fdr : (s.judgeOverload).fdr = s.fdr := by
  unfold State.judgeOverload; dsimp only; split <;> rfl
@[simp] theorem judgeOverload_meas : (s.judgeOverload).meas = s.meas := by
  unfold State.judgeOverload; dsimp only; split <;> rfl
@[simp] theorem judgeOverload_set : (s.judgeOverload).set = s.set := by
  unfold State.judgeOverload; dsimp only; split <;> rfl
@[simp] theorem judgeOverload_links : (s.judgeOverload).links = s.links := by
  unfold State.judgeOverload; dsimp only; split <;> rfl
@[simp] theorem judgeOverload_pins : (s.judgeOverload).pins = s.pins := by
  unfold State.judgeOverload; dsimp only; split <;> rfl

/-! ### endFeedAt changes: transit, saw, links -/

@[simp] theorem endFeedAt_pending (d : Direction) : (s.endFeedAt d).pending = s.pending := by
  unfold State.endFeedAt; dsimp only; split <;> split <;> simp
@[simp] theorem endFeedAt_now (d : Direction) : (s.endFeedAt d).now = s.now := by
  unfold State.endFeedAt; dsimp only; split <;> split <;> simp
@[simp] theorem endFeedAt_held (d : Direction) : (s.endFeedAt d).held = s.held := by
  unfold State.endFeedAt; dsimp only; split <;> split <;> simp
@[simp] theorem endFeedAt_supplyRose (d : Direction) : (s.endFeedAt d).supplyRose = s.supplyRose := by
  unfold State.endFeedAt; dsimp only; split <;> split <;> simp
@[simp] theorem endFeedAt_cause (d : Direction) : (s.endFeedAt d).cause = s.cause := by
  unfold State.endFeedAt; dsimp only; split <;> split <;> simp
@[simp] theorem endFeedAt_reg (d : Direction) : (s.endFeedAt d).reg = s.reg := by
  unfold State.endFeedAt; dsimp only; split <;> split <;> simp
@[simp] theorem endFeedAt_alw (d : Direction) : (s.endFeedAt d).alw = s.alw := by
  unfold State.endFeedAt; dsimp only; split <;> split <;> simp
@[simp] theorem endFeedAt_fdr (d : Direction) : (s.endFeedAt d).fdr = s.fdr := by
  unfold State.endFeedAt; dsimp only; split <;> split <;> simp
@[simp] theorem endFeedAt_meas (d : Direction) : (s.endFeedAt d).meas = s.meas := by
  unfold State.endFeedAt; dsimp only; split <;> split <;> simp
@[simp] theorem endFeedAt_set (d : Direction) : (s.endFeedAt d).set = s.set := by
  unfold State.endFeedAt; dsimp only; split <;> split <;> simp
@[simp] theorem endFeedAt_pins (d : Direction) : (s.endFeedAt d).pins = s.pins := by
  unfold State.endFeedAt; dsimp only; split <;> split <;> simp

/-! ### judgeDiscrepancy changes: meas -/

@[simp] theorem judgeDiscrepancy_pending : (s.judgeDiscrepancy).pending = s.pending := by
  unfold State.judgeDiscrepancy; split <;> rfl
@[simp] theorem judgeDiscrepancy_transit : (s.judgeDiscrepancy).transit = s.transit := by
  unfold State.judgeDiscrepancy; split <;> rfl
@[simp] theorem judgeDiscrepancy_now : (s.judgeDiscrepancy).now = s.now := by
  unfold State.judgeDiscrepancy; split <;> rfl
@[simp] theorem judgeDiscrepancy_held : (s.judgeDiscrepancy).held = s.held := by
  unfold State.judgeDiscrepancy; split <;> rfl
@[simp] theorem judgeDiscrepancy_supplyRose : (s.judgeDiscrepancy).supplyRose = s.supplyRose := by
  unfold State.judgeDiscrepancy; split <;> rfl
@[simp] theorem judgeDiscrepancy_cause : (s.judgeDiscrepancy).cause = s.cause := by
  unfold State.judgeDiscrepancy; split <;> rfl
@[simp] theorem judgeDiscrepancy_reg : (s.judgeDiscrepancy).reg = s.reg := by
  unfold State.judgeDiscrepancy; split <;> rfl
@[simp] theorem judgeDiscrepancy_alw : (s.judgeDiscrepancy).alw = s.alw := by
  unfold State.judgeDiscrepancy; split <;> rfl
@[simp] theorem judgeDiscrepancy_fdr : (s.judgeDiscrepancy).fdr = s.fdr := by
  unfold State.judgeDiscrepancy; split <;> rfl
@[simp] theorem judgeDiscrepancy_saw : (s.judgeDiscrepancy).saw = s.saw := by
  unfold State.judgeDiscrepancy; split <;> rfl
@[simp] theorem judgeDiscrepancy_set : (s.judgeDiscrepancy).set = s.set := by
  unfold State.judgeDiscrepancy; split <;> rfl
@[simp] theorem judgeDiscrepancy_links : (s.judgeDiscrepancy).links = s.links := by
  unfold State.judgeDiscrepancy; split <;> rfl
@[simp] theorem judgeDiscrepancy_pins : (s.judgeDiscrepancy).pins = s.pins := by
  unfold State.judgeDiscrepancy; split <;> rfl

/-! ### endCapture changes: meas, links -/

@[simp] theorem endCapture_pending (l : Link) (r : Snapshot) : (s.endCapture l r).pending = s.pending := rfl
@[simp] theorem endCapture_transit (l : Link) (r : Snapshot) : (s.endCapture l r).transit = s.transit := rfl
@[simp] theorem endCapture_now (l : Link) (r : Snapshot) : (s.endCapture l r).now = s.now := rfl
@[simp] theorem endCapture_held (l : Link) (r : Snapshot) : (s.endCapture l r).held = s.held := rfl
@[simp] theorem endCapture_supplyRose (l : Link) (r : Snapshot) : (s.endCapture l r).supplyRose = s.supplyRose := rfl
@[simp] theorem endCapture_cause (l : Link) (r : Snapshot) : (s.endCapture l r).cause = s.cause := rfl
@[simp] theorem endCapture_reg (l : Link) (r : Snapshot) : (s.endCapture l r).reg = s.reg := rfl
@[simp] theorem endCapture_alw (l : Link) (r : Snapshot) : (s.endCapture l r).alw = s.alw := rfl
@[simp] theorem endCapture_fdr (l : Link) (r : Snapshot) : (s.endCapture l r).fdr = s.fdr := rfl
@[simp] theorem endCapture_saw (l : Link) (r : Snapshot) : (s.endCapture l r).saw = s.saw := rfl
@[simp] theorem endCapture_set (l : Link) (r : Snapshot) : (s.endCapture l r).set = s.set := rfl
@[simp] theorem endCapture_pins (l : Link) (r : Snapshot) : (s.endCapture l r).pins = s.pins := rfl

/-! ### capturePosting changes: meas, links -/

@[simp] theorem capturePosting_pending (l : Link) : (s.capturePosting l).pending = s.pending := by
  unfold State.capturePosting; split
  · rfl
  · dsimp only; split <;> rfl
@[simp] theorem capturePosting_transit (l : Link) : (s.capturePosting l).transit = s.transit := by
  unfold State.capturePosting; split
  · rfl
  · dsimp only; split <;> rfl
@[simp] theorem capturePosting_now (l : Link) : (s.capturePosting l).now = s.now := by
  unfold State.capturePosting; split
  · rfl
  · dsimp only; split <;> rfl
@[simp] theorem capturePosting_held (l : Link) : (s.capturePosting l).held = s.held := by
  unfold State.capturePosting; split
  · rfl
  · dsimp only; split <;> rfl
@[simp] theorem capturePosting_supplyRose (l : Link) : (s.capturePosting l).supplyRose = s.supplyRose := by
  unfold State.capturePosting; split
  · rfl
  · dsimp only; split <;> rfl
@[simp] theorem capturePosting_cause (l : Link) : (s.capturePosting l).cause = s.cause := by
  unfold State.capturePosting; split
  · rfl
  · dsimp only; split <;> rfl
@[simp] theorem capturePosting_reg (l : Link) : (s.capturePosting l).reg = s.reg := by
  unfold State.capturePosting; split
  · rfl
  · dsimp only; split <;> rfl
@[simp] theorem capturePosting_alw (l : Link) : (s.capturePosting l).alw = s.alw := by
  unfold State.capturePosting; split
  · rfl
  · dsimp only; split <;> rfl
@[simp] theorem capturePosting_fdr (l : Link) : (s.capturePosting l).fdr = s.fdr := by
  unfold State.capturePosting; split
  · rfl
  · dsimp only; split <;> rfl
@[simp] theorem capturePosting_saw (l : Link) : (s.capturePosting l).saw = s.saw := by
  unfold State.capturePosting; split
  · rfl
  · dsimp only; split <;> rfl
@[simp] theorem capturePosting_set (l : Link) : (s.capturePosting l).set = s.set := by
  unfold State.capturePosting; split
  · rfl
  · dsimp only; split <;> rfl
@[simp] theorem capturePosting_pins (l : Link) : (s.capturePosting l).pins = s.pins := by
  unfold State.capturePosting; split
  · rfl
  · dsimp only; split <;> rfl

/-! ### voidCapture changes: meas, links -/

@[simp] theorem voidCapture_pending (l : Link) : (s.voidCapture l).pending = s.pending := by
  unfold State.voidCapture; split <;> rfl
@[simp] theorem voidCapture_transit (l : Link) : (s.voidCapture l).transit = s.transit := by
  unfold State.voidCapture; split <;> rfl
@[simp] theorem voidCapture_now (l : Link) : (s.voidCapture l).now = s.now := by
  unfold State.voidCapture; split <;> rfl
@[simp] theorem voidCapture_held (l : Link) : (s.voidCapture l).held = s.held := by
  unfold State.voidCapture; split <;> rfl
@[simp] theorem voidCapture_supplyRose (l : Link) : (s.voidCapture l).supplyRose = s.supplyRose := by
  unfold State.voidCapture; split <;> rfl
@[simp] theorem voidCapture_cause (l : Link) : (s.voidCapture l).cause = s.cause := by
  unfold State.voidCapture; split <;> rfl
@[simp] theorem voidCapture_reg (l : Link) : (s.voidCapture l).reg = s.reg := by
  unfold State.voidCapture; split <;> rfl
@[simp] theorem voidCapture_alw (l : Link) : (s.voidCapture l).alw = s.alw := by
  unfold State.voidCapture; split <;> rfl
@[simp] theorem voidCapture_fdr (l : Link) : (s.voidCapture l).fdr = s.fdr := by
  unfold State.voidCapture; split <;> rfl
@[simp] theorem voidCapture_saw (l : Link) : (s.voidCapture l).saw = s.saw := by
  unfold State.voidCapture; split <;> rfl
@[simp] theorem voidCapture_set (l : Link) : (s.voidCapture l).set = s.set := by
  unfold State.voidCapture; split <;> rfl
@[simp] theorem voidCapture_pins (l : Link) : (s.voidCapture l).pins = s.pins := by
  unfold State.voidCapture; split <;> rfl

/-! ### post changes: saw, meas, links -/

@[simp] theorem post_pending (a b c : Nat) : (s.post a b c).pending = s.pending := by
  simp [State.post]
@[simp] theorem post_transit (a b c : Nat) : (s.post a b c).transit = s.transit := by
  simp [State.post]
@[simp] theorem post_now (a b c : Nat) : (s.post a b c).now = s.now := by
  simp [State.post]
@[simp] theorem post_held (a b c : Nat) : (s.post a b c).held = s.held := by
  simp [State.post]
@[simp] theorem post_supplyRose (a b c : Nat) : (s.post a b c).supplyRose = s.supplyRose := by
  simp [State.post]
@[simp] theorem post_cause (a b c : Nat) : (s.post a b c).cause = s.cause := by
  simp [State.post]
@[simp] theorem post_reg (a b c : Nat) : (s.post a b c).reg = s.reg := by
  simp [State.post]
@[simp] theorem post_alw (a b c : Nat) : (s.post a b c).alw = s.alw := by
  simp [State.post]
@[simp] theorem post_fdr (a b c : Nat) : (s.post a b c).fdr = s.fdr := by
  simp [State.post]
@[simp] theorem post_set (a b c : Nat) : (s.post a b c).set = s.set := by
  simp [State.post]
@[simp] theorem post_pins (a b c : Nat) : (s.post a b c).pins = s.pins := by
  simp [State.post]

end Sys2Proof.Machine
end

