-- ==== Sys2Proof/Laws/SawMoves.lean ====
section
/-! SUPPORT. The moves of the saw, each in the words the certificates use (Safety.lean): entering a state with its own
commands, coming to rest, the stop sequence and the entry to FAULT. -/

namespace Sys2Proof.Machine

variable (s : State)

theorem moveSaw_eq {st : SawState} {cmd : SawCommands} (h : cmd = commandsIn st) : s.moveSaw st cmd = sawEntering s st := by
  subst h; simp [State.moveSaw, sawEntering, keptIn]

theorem moveSawNotified_eq {st : SawState} {cmd : SawCommands} (h : cmd = commandsIn st) :
    s.moveSawNotified st cmd = sawNoticed s st := by
  rw [State.moveSawNotified, moveSaw_eq s h]; rfl

theorem moveSawNotified_syncSaw {st : SawState} {cmd : SawCommands} (h : cmd = commandsIn st) :
    (s.moveSawNotified st cmd).syncSaw = sawMoving s st := by
  rw [moveSawNotified_eq s h]; rfl

theorem endUnlessFree_eq (n : Fin 24) (o : Ending) :
    s.endUnlessFree n o = { s with transit := s.transit ++ endIfHeld s n o } := by
  unfold State.endUnlessFree endIfHeld; split <;> simp [State.send]

theorem faultSaw_eq (kind : SawFault) : s.faultSaw kind = sawFaulting s kind := by
  simp only [State.faultSaw, sawFaulting, endUnlessFree_eq, List.append_assoc]
  rw [moveSawNotified_syncSaw _ (show SawCommands.allOff = commandsIn (.fault kind) from rfl)]
  rfl

theorem restState_eq : s.restState = sawAtRest s := rfl

theorem stopTarget_eq : s.stopTarget = stopState s := rfl

theorem commandsIn_stopState : SawCommands.allOff = commandsIn (stopState s) := by
  unfold stopState sawAtRest; split <;> [rfl; split <;> rfl]

theorem commandsIn_sawAtRest : SawCommands.allOff = commandsIn (sawAtRest s) := by
  unfold sawAtRest; split <;> rfl

theorem stopRequests_eq (o : Ending) : s.stopRequests o = stopSent s o := by
  unfold State.stopRequests stopSent
  split
  · simp [State.send]
  · rw [endUnlessFree_eq]; rfl

theorem stopSequence_eq (o : Ending) : s.stopSequence o = sawMoving (stopSent s o) (stopState s) := by
  rw [State.stopSequence, stopRequests_eq, stopTarget_eq, moveSawNotified_syncSaw _ (commandsIn_stopState s)]

theorem sawLetGo_eq : s.sawLetGo = sawMoving s (sawAtRest s) := by
  rw [State.sawLetGo, restState_eq, moveSawNotified_syncSaw _ (commandsIn_sawAtRest s)]

end Sys2Proof.Machine
end

