-- ==== Sys2Proof/Laws/Step.lean ====
section
/-! SUPPORT. How commands and steps end: every command and every step answers a next state, and an order in its frame is taken
as the order itself is. -/

namespace Sys2Proof.Machine

theorem takeOrder_eq_exec {i : Instr} {o : Order} (h : encodeOrder i = some o) (s : State) : takeOrder i s = exec i s := by
  cases i <;> first | rfl | simp [encodeOrder] at h

theorem takeOrder_next (i : Instr) (s : State) : ∃ t, takeOrder i s = .next t := by
  cases i <;> exact ⟨_, rfl⟩

/-! ### The loss of a link, before a frame of it (R169) -/

theorem takeReport_none {s : State} {m : Instr} {effect : State → State} (h : m ∉ s.transit) : s.takeReport m effect = s :=
  if_neg h

/-- A report of a loss that is on its way is taken as its own row takes it. -/
theorem takeReport_allowance {s : State} {l : Link} (hh : s.held = false) (h : .linkLossReportAllowance l ∈ s.transit) :
    exec (.linkLossReportAllowance l) s =
      .next (s.takeReport (.linkLossReportAllowance l) (linkLossAllowanceEffect l)) := by
  show Host.Outcome.next (if s.held then _ else _) = _
  rw [State.takeReport, if_pos h, hh]
  rfl

theorem takeReport_saw {s : State} {l : Link} (hh : s.held = false) (h : .linkLossReportSaw l ∈ s.transit) :
    exec (.linkLossReportSaw l) s = .next (s.takeReport (.linkLossReportSaw l) (linkLossSawEffect l)) := by
  show Host.Outcome.next (if s.held then _ else _) = _
  rw [State.takeReport, if_pos h, hh]
  rfl

/-- With no report of its loss on its way a frame of the link finds the state as it is. -/
theorem takeLoss_none {s : State} {l : Link} (ha : .linkLossReportAllowance l ∉ s.transit)
    (hs : .linkLossReportSaw l ∉ s.transit) : s.takeLoss l = s := by
  rw [State.takeLoss, takeReport_none ha, takeReport_none hs]

/-! ### Orders and frames -/

theorem takeFrame_next (s : State) (l : Link) (bytes : List Byte) (odd : Nat) : ∃ t, s.takeFrame l bytes odd = .next t := by
  unfold State.takeFrame
  split
  · exact ⟨_, rfl⟩
  · split
    · exact ⟨_, rfl⟩
    · split
      · exact ⟨_, rfl⟩
      · exact takeOrder_next _ _

theorem execOrderFrame_next (l : Link) (bytes : List Byte) (odd : Nat) (s : State) :
    ∃ t, execOrderFrame l bytes odd s = .next t := by
  unfold execOrderFrame
  dsimp only
  split
  · exact ⟨_, rfl⟩
  · exact takeFrame_next _ _ _ _

/-- Every command answers a next state: none faults and none is refused. -/
theorem exec_next (i : Instr) (s : State) : ∃ t, exec i s = .next t := by
  cases i <;> first | exact execOrderFrame_next _ _ _ _ | exact ⟨_, rfl⟩

/-- Every step answers a next state. -/
theorem step_next (s : State) : ∃ t, step s = .next t := by
  unfold step State.idle
  split
  · split
    · exact ⟨_, rfl⟩
    · split
      · exact exec_next _ _
      · split
        · exact ⟨_, rfl⟩
        · split
          · exact exec_next _ _
          · exact ⟨_, rfl⟩
  · exact exec_next _ _

end Sys2Proof.Machine
end

