-- ==== Sys2Proof/Laws/Links.lean ====
section
/-! SUPPORT. What the loss of a link leaves of the link contexts: everything but their notice sets. A frame that finds the
loss still to be taken (Machine/Frames.lean) finds the links as they were. -/

namespace Sys2Proof.Machine

/-- From s to t the link contexts have changed in their notice sets alone. -/
abbrev NoticesOnly (s t : State) : Prop := ∀ m : Link, t.link m = { s.link m with notices := (t.link m).notices }

theorem NoticesOnly.refl (s : State) : NoticesOnly s s := fun _ => rfl

theorem NoticesOnly.of_links {s t : State} (h : t.links = s.links) : NoticesOnly s t := fun m => by
  simp [State.link, h]

theorem NoticesOnly.trans {s t u : State} (h : NoticesOnly s t) (k : NoticesOnly t u) : NoticesOnly s u := fun m => by
  rw [k m, h m]

theorem addNotice_noticesOnly (s : State) (l : Link) (k : Notice) : NoticesOnly s (s.addNotice l k) := fun m => by
  cases l <;> cases m <;> rfl

theorem letGo_noticesOnly (s : State) (n : Fin 24) (o : Ending) : NoticesOnly s (s.letGo n o) := by
  have ended : ∀ t : State, t.links = s.links →
      NoticesOnly s (if endsQuietly o then t.setClaim n ((s.claim n).freed o)
        else (t.setClaim n ((s.claim n).freed o)).addNotice (holderOf n) .claimEnded) := by
    intro t ht
    split
    · exact .of_links ht
    · exact (NoticesOnly.of_links (t := t.setClaim n _) ht).trans (addNotice_noticesOnly _ _ _)
  rcases hc : (s.claim n).state
  · rw [letGo_free s o hc]; exact .refl s
  all_goals simp only [State.letGo, hc]
  · exact ended _ rfl
  · exact ended _ (removeMark_links s n)
  · exact ended _ rfl

theorem loseClaim_noticesOnly (s : State) (n : Fin 24) : NoticesOnly s (s.loseClaim n) := by
  unfold State.loseClaim
  split
  · exact letGo_noticesOnly s n _
  · exact (letGo_noticesOnly s n _).trans (.of_links (budgetCheckInDeficit_links _))
  · exact .refl s
  · exact .refl s

theorem linkLossAllowance_noticesOnly (s : State) (l : Link) : NoticesOnly s (linkLossAllowanceEffect l s) := by
  have fold : ∀ (ns : List (Fin 24)) (t : State), NoticesOnly s t → NoticesOnly s (ns.foldl State.loseClaim t) := by
    intro ns
    induction ns with
    | nil => exact fun _ h => h
    | cons n ns ih => exact fun t h => ih _ (h.trans (loseClaim_noticesOnly t n))
  have h := fold (freeClaims l) { s with alw := { s.alw with stale := s.alw.stale || l = .l1 } } (.of_links rfl)
  unfold linkLossAllowanceEffect
  dsimp only
  split
  · exact h
  · exact h.trans (.of_links (consider_links _))

theorem linkLossSaw_noticesOnly (s : State) (l : Link) : NoticesOnly s (linkLossSawEffect l s) := by
  unfold linkLossSawEffect
  split
  · rw [stopSequence_eq]
    exact (NoticesOnly.of_links (t := stopSent s .linkLost) rfl).trans
      ((addNotice_noticesOnly (stopSent s .linkLost) .l2 .saw).trans (.of_links rfl))
  · exact .refl s

theorem takeReport_noticesOnly {s : State} {m : Instr} {effect : State → State} (h : ∀ t, NoticesOnly t (effect t)) :
    NoticesOnly s (s.takeReport m effect) := by
  unfold State.takeReport
  split
  · exact (NoticesOnly.of_links (t := s.arrive m) rfl).trans (h _)
  · exact .refl s

/-- R169: what the loss of a link, taken before its frame, leaves of the links. -/
theorem takeLoss_noticesOnly (s : State) (l : Link) : NoticesOnly s (s.takeLoss l) :=
  (takeReport_noticesOnly fun t => linkLossAllowance_noticesOnly t l).trans
    (takeReport_noticesOnly fun t => linkLossSaw_noticesOnly t l)

end Sys2Proof.Machine
end

