-- ==== Sys2Proof/Laws/Records.lean ====
section
/-! SUPPORT. How the records' fields become bytes, one field at a time, and how the timings are judged and a station state entered: the shape in which the
statements say it and the shape in which the model builds it. -/

namespace Sys2Proof.Machine

@[simp] theorem fieldBytes_nil : fieldBytes [] = [] := rfl
@[simp] theorem fieldBytes_one (n : Nat) (fs : List (Nat × Nat)) : fieldBytes ((1, n) :: fs) = u8 n ++ fieldBytes fs := rfl
@[simp] theorem fieldBytes_two (n : Nat) (fs : List (Nat × Nat)) : fieldBytes ((2, n) :: fs) = u16 n ++ fieldBytes fs := rfl

/-- R174: an absent two-byte field is 0xFFFF. -/
theorem optU16_eq (o : Option Nat) : optU16 o = u16 (o.getD 0xFFFF) := by cases o <;> rfl

/-- R174: an absent flag is 0xFF. -/
theorem optFlag_eq (o : Option Bool) : optFlag o = u8 ((o.map Bool.toNat).getD 0xFF) := by cases o <;> rfl

/-- R57: the moment a claim record shows. -/
theorem moment_eq (c : Claim) : c.moment = c.waitDeadline.or (c.dueTime.or c.surgeEnd) := by
  unfold Claim.moment
  cases c.waitDeadline <;> cases c.dueTime <;> rfl

/-- R39: the code of a claim's holder. -/
theorem linkCode_holderOf (n : Fin 24) :
    linkCode (holderOf n) = if n.val < 4 then 1 else if n.val < 10 then 2 else 3 := by
  revert n; decide

/-! ### The timings of R5, in the words of Safety.lean -/

/-- R5: what the model makes of a timing at a judgement. -/
theorem judge_eq (t : Timing) (c : Bool) (clock : Nat) : t.judge c clock = judgedTiming t c clock := by
  cases c <;> cases t <;> rfl

theorem judgeTimings_judged (s : State) : TimingsJudged s s.judgeTimings :=
  ⟨judge_eq _ _ _, judge_eq _ _ _, judge_eq _ _ _, judge_eq _ _ _, judge_eq _ _ _, judge_eq _ _ _⟩

/-- R15: what the model makes of a change of station state. -/
theorem enterStation_eq (s : State) (st : StationState) (r : Reasons) : s.enterStation st r = stationEntered s st r := by
  simp only [State.enterStation, State.judgeTimings, State.judgeQuiet, State.sendAll, stationEntered, judge_eq]
  rfl

end Sys2Proof.Machine
end

