-- ==== Sys2Proof/Laws/Regulator.lean ====
section
/-! SUPPORT. What the regulator's own operations leave as it was, field by field, and what they make of Bd and the levels. -/

namespace Sys2Proof.Machine

variable (s : State)

/-! ### judgeTimings changes: warmBand, shed, fast, recovery, runaway, trip -/

@[simp] theorem judgeTimings_reg_station : (s.judgeTimings).reg.station = s.reg.station := rfl
@[simp] theorem judgeTimings_reg_reasons : (s.judgeTimings).reg.reasons = s.reg.reasons := rfl
@[simp] theorem judgeTimings_reg_lastCrossing : (s.judgeTimings).reg.lastCrossing = s.reg.lastCrossing := rfl
@[simp] theorem judgeTimings_reg_discardRun : (s.judgeTimings).reg.discardRun = s.reg.discardRun := rfl
@[simp] theorem judgeTimings_reg_validRun : (s.judgeTimings).reg.validRun = s.reg.validRun := rfl
@[simp] theorem judgeTimings_reg_history : (s.judgeTimings).reg.history = s.reg.history := rfl
@[simp] theorem judgeTimings_reg_overspeed : (s.judgeTimings).reg.overspeed = s.reg.overspeed := rfl
@[simp] theorem judgeTimings_reg_inForce : (s.judgeTimings).reg.inForce = s.reg.inForce := rfl
@[simp] theorem judgeTimings_reg_tripLatch : (s.judgeTimings).reg.tripLatch = s.reg.tripLatch := rfl
@[simp] theorem judgeTimings_reg_quiet : (s.judgeTimings).reg.quiet = s.reg.quiet := rfl
@[simp] theorem judgeTimings_reg_lineEmpty : (s.judgeTimings).reg.lineEmpty = s.reg.lineEmpty := rfl
@[simp] theorem judgeTimings_reg_ratings : (s.judgeTimings).reg.ratings = s.reg.ratings := rfl
@[simp] theorem judgeTimings_reg_levels : (s.judgeTimings).reg.levels = s.reg.levels := rfl
@[simp] theorem judgeTimings_reg_counts : (s.judgeTimings).reg.counts = s.reg.counts := rfl
@[simp] theorem judgeTimings_reg_conducting : (s.judgeTimings).reg.conducting = s.reg.conducting := rfl
@[simp] theorem judgeTimings_reg_bd : (s.judgeTimings).reg.bd = s.reg.bd := rfl
@[simp] theorem judgeTimings_reg_lastPeriod : (s.judgeTimings).reg.lastPeriod = s.reg.lastPeriod := rfl
@[simp] theorem judgeTimings_reg_midpoint : (s.judgeTimings).reg.midpoint = s.reg.midpoint := rfl

/-! ### judgeQuiet changes: quiet -/

@[simp] theorem judgeQuiet_reg_station : (s.judgeQuiet).reg.station = s.reg.station := rfl
@[simp] theorem judgeQuiet_reg_reasons : (s.judgeQuiet).reg.reasons = s.reg.reasons := rfl
@[simp] theorem judgeQuiet_reg_lastCrossing : (s.judgeQuiet).reg.lastCrossing = s.reg.lastCrossing := rfl
@[simp] theorem judgeQuiet_reg_discardRun : (s.judgeQuiet).reg.discardRun = s.reg.discardRun := rfl
@[simp] theorem judgeQuiet_reg_validRun : (s.judgeQuiet).reg.validRun = s.reg.validRun := rfl
@[simp] theorem judgeQuiet_reg_history : (s.judgeQuiet).reg.history = s.reg.history := rfl
@[simp] theorem judgeQuiet_reg_overspeed : (s.judgeQuiet).reg.overspeed = s.reg.overspeed := rfl
@[simp] theorem judgeQuiet_reg_warmBand : (s.judgeQuiet).reg.warmBand = s.reg.warmBand := rfl
@[simp] theorem judgeQuiet_reg_shed : (s.judgeQuiet).reg.shed = s.reg.shed := rfl
@[simp] theorem judgeQuiet_reg_fast : (s.judgeQuiet).reg.fast = s.reg.fast := rfl
@[simp] theorem judgeQuiet_reg_recovery : (s.judgeQuiet).reg.recovery = s.reg.recovery := rfl
@[simp] theorem judgeQuiet_reg_runaway : (s.judgeQuiet).reg.runaway = s.reg.runaway := rfl
@[simp] theorem judgeQuiet_reg_trip : (s.judgeQuiet).reg.trip = s.reg.trip := rfl
@[simp] theorem judgeQuiet_reg_inForce : (s.judgeQuiet).reg.inForce = s.reg.inForce := rfl
@[simp] theorem judgeQuiet_reg_tripLatch : (s.judgeQuiet).reg.tripLatch = s.reg.tripLatch := rfl
@[simp] theorem judgeQuiet_reg_lineEmpty : (s.judgeQuiet).reg.lineEmpty = s.reg.lineEmpty := rfl
@[simp] theorem judgeQuiet_reg_ratings : (s.judgeQuiet).reg.ratings = s.reg.ratings := rfl
@[simp] theorem judgeQuiet_reg_levels : (s.judgeQuiet).reg.levels = s.reg.levels := rfl
@[simp] theorem judgeQuiet_reg_counts : (s.judgeQuiet).reg.counts = s.reg.counts := rfl
@[simp] theorem judgeQuiet_reg_conducting : (s.judgeQuiet).reg.conducting = s.reg.conducting := rfl
@[simp] theorem judgeQuiet_reg_bd : (s.judgeQuiet).reg.bd = s.reg.bd := rfl
@[simp] theorem judgeQuiet_reg_lastPeriod : (s.judgeQuiet).reg.lastPeriod = s.reg.lastPeriod := rfl
@[simp] theorem judgeQuiet_reg_midpoint : (s.judgeQuiet).reg.midpoint = s.reg.midpoint := rfl

/-! ### setDemand changes: warmBand, shed, fast, recovery, runaway, trip, bd, levels -/

@[simp] theorem setDemand_reg_station (x : Int) : (s.setDemand x).reg.station = s.reg.station := rfl
@[simp] theorem setDemand_reg_reasons (x : Int) : (s.setDemand x).reg.reasons = s.reg.reasons := rfl
@[simp] theorem setDemand_reg_lastCrossing (x : Int) : (s.setDemand x).reg.lastCrossing = s.reg.lastCrossing := rfl
@[simp] theorem setDemand_reg_discardRun (x : Int) : (s.setDemand x).reg.discardRun = s.reg.discardRun := rfl
@[simp] theorem setDemand_reg_validRun (x : Int) : (s.setDemand x).reg.validRun = s.reg.validRun := rfl
@[simp] theorem setDemand_reg_history (x : Int) : (s.setDemand x).reg.history = s.reg.history := rfl
@[simp] theorem setDemand_reg_overspeed (x : Int) : (s.setDemand x).reg.overspeed = s.reg.overspeed := rfl
@[simp] theorem setDemand_reg_inForce (x : Int) : (s.setDemand x).reg.inForce = s.reg.inForce := rfl
@[simp] theorem setDemand_reg_tripLatch (x : Int) : (s.setDemand x).reg.tripLatch = s.reg.tripLatch := rfl
@[simp] theorem setDemand_reg_quiet (x : Int) : (s.setDemand x).reg.quiet = s.reg.quiet := rfl
@[simp] theorem setDemand_reg_lineEmpty (x : Int) : (s.setDemand x).reg.lineEmpty = s.reg.lineEmpty := rfl
@[simp] theorem setDemand_reg_ratings (x : Int) : (s.setDemand x).reg.ratings = s.reg.ratings := rfl
@[simp] theorem setDemand_reg_counts (x : Int) : (s.setDemand x).reg.counts = s.reg.counts := rfl
@[simp] theorem setDemand_reg_conducting (x : Int) : (s.setDemand x).reg.conducting = s.reg.conducting := rfl
@[simp] theorem setDemand_reg_lastPeriod (x : Int) : (s.setDemand x).reg.lastPeriod = s.reg.lastPeriod := rfl
@[simp] theorem setDemand_reg_midpoint (x : Int) : (s.setDemand x).reg.midpoint = s.reg.midpoint := rfl

/-! ### takeRatings changes: warmBand, shed, fast, recovery, runaway, trip, bd, levels, ratings -/

@[simp] theorem takeRatings_reg_station : (s.takeRatings).reg.station = s.reg.station := by
  unfold State.takeRatings; split <;> rfl
@[simp] theorem takeRatings_reg_reasons : (s.takeRatings).reg.reasons = s.reg.reasons := by
  unfold State.takeRatings; split <;> rfl
@[simp] theorem takeRatings_reg_lastCrossing : (s.takeRatings).reg.lastCrossing = s.reg.lastCrossing := by
  unfold State.takeRatings; split <;> rfl
@[simp] theorem takeRatings_reg_discardRun : (s.takeRatings).reg.discardRun = s.reg.discardRun := by
  unfold State.takeRatings; split <;> rfl
@[simp] theorem takeRatings_reg_validRun : (s.takeRatings).reg.validRun = s.reg.validRun := by
  unfold State.takeRatings; split <;> rfl
@[simp] theorem takeRatings_reg_history : (s.takeRatings).reg.history = s.reg.history := by
  unfold State.takeRatings; split <;> rfl
@[simp] theorem takeRatings_reg_overspeed : (s.takeRatings).reg.overspeed = s.reg.overspeed := by
  unfold State.takeRatings; split <;> rfl
@[simp] theorem takeRatings_reg_inForce : (s.takeRatings).reg.inForce = s.reg.inForce := by
  unfold State.takeRatings; split <;> rfl
@[simp] theorem takeRatings_reg_tripLatch : (s.takeRatings).reg.tripLatch = s.reg.tripLatch := by
  unfold State.takeRatings; split <;> rfl
@[simp] theorem takeRatings_reg_quiet : (s.takeRatings).reg.quiet = s.reg.quiet := by
  unfold State.takeRatings; split <;> rfl
@[simp] theorem takeRatings_reg_lineEmpty : (s.takeRatings).reg.lineEmpty = s.reg.lineEmpty := by
  unfold State.takeRatings; split <;> rfl
@[simp] theorem takeRatings_reg_counts : (s.takeRatings).reg.counts = s.reg.counts := by
  unfold State.takeRatings; split <;> rfl
@[simp] theorem takeRatings_reg_conducting : (s.takeRatings).reg.conducting = s.reg.conducting := by
  unfold State.takeRatings; split <;> rfl
@[simp] theorem takeRatings_reg_lastPeriod : (s.takeRatings).reg.lastPeriod = s.reg.lastPeriod := by
  unfold State.takeRatings; split <;> rfl
@[simp] theorem takeRatings_reg_midpoint : (s.takeRatings).reg.midpoint = s.reg.midpoint := by
  unfold State.takeRatings; split <;> rfl

/-! ### fullBallast changes: ratings, bd, levels -/

@[simp] theorem fullBallast_reg_station : (s.fullBallast).reg.station = s.reg.station := rfl
@[simp] theorem fullBallast_reg_reasons : (s.fullBallast).reg.reasons = s.reg.reasons := rfl
@[simp] theorem fullBallast_reg_lastCrossing : (s.fullBallast).reg.lastCrossing = s.reg.lastCrossing := rfl
@[simp] theorem fullBallast_reg_discardRun : (s.fullBallast).reg.discardRun = s.reg.discardRun := rfl
@[simp] theorem fullBallast_reg_validRun : (s.fullBallast).reg.validRun = s.reg.validRun := rfl
@[simp] theorem fullBallast_reg_history : (s.fullBallast).reg.history = s.reg.history := rfl
@[simp] theorem fullBallast_reg_overspeed : (s.fullBallast).reg.overspeed = s.reg.overspeed := rfl
@[simp] theorem fullBallast_reg_warmBand : (s.fullBallast).reg.warmBand = s.reg.warmBand := rfl
@[simp] theorem fullBallast_reg_shed : (s.fullBallast).reg.shed = s.reg.shed := rfl
@[simp] theorem fullBallast_reg_fast : (s.fullBallast).reg.fast = s.reg.fast := rfl
@[simp] theorem fullBallast_reg_recovery : (s.fullBallast).reg.recovery = s.reg.recovery := rfl
@[simp] theorem fullBallast_reg_runaway : (s.fullBallast).reg.runaway = s.reg.runaway := rfl
@[simp] theorem fullBallast_reg_trip : (s.fullBallast).reg.trip = s.reg.trip := rfl
@[simp] theorem fullBallast_reg_inForce : (s.fullBallast).reg.inForce = s.reg.inForce := rfl
@[simp] theorem fullBallast_reg_tripLatch : (s.fullBallast).reg.tripLatch = s.reg.tripLatch := rfl
@[simp] theorem fullBallast_reg_quiet : (s.fullBallast).reg.quiet = s.reg.quiet := rfl
@[simp] theorem fullBallast_reg_lineEmpty : (s.fullBallast).reg.lineEmpty = s.reg.lineEmpty := rfl
@[simp] theorem fullBallast_reg_counts : (s.fullBallast).reg.counts = s.reg.counts := rfl
@[simp] theorem fullBallast_reg_conducting : (s.fullBallast).reg.conducting = s.reg.conducting := rfl
@[simp] theorem fullBallast_reg_lastPeriod : (s.fullBallast).reg.lastPeriod = s.reg.lastPeriod := rfl
@[simp] theorem fullBallast_reg_midpoint : (s.fullBallast).reg.midpoint = s.reg.midpoint := rfl

/-! ### fireStep changes: counts, conducting -/

@[simp] theorem fireStep_reg_station : (s.fireStep).reg.station = s.reg.station := rfl
@[simp] theorem fireStep_reg_reasons : (s.fireStep).reg.reasons = s.reg.reasons := rfl
@[simp] theorem fireStep_reg_lastCrossing : (s.fireStep).reg.lastCrossing = s.reg.lastCrossing := rfl
@[simp] theorem fireStep_reg_discardRun : (s.fireStep).reg.discardRun = s.reg.discardRun := rfl
@[simp] theorem fireStep_reg_validRun : (s.fireStep).reg.validRun = s.reg.validRun := rfl
@[simp] theorem fireStep_reg_history : (s.fireStep).reg.history = s.reg.history := rfl
@[simp] theorem fireStep_reg_overspeed : (s.fireStep).reg.overspeed = s.reg.overspeed := rfl
@[simp] theorem fireStep_reg_warmBand : (s.fireStep).reg.warmBand = s.reg.warmBand := rfl
@[simp] theorem fireStep_reg_shed : (s.fireStep).reg.shed = s.reg.shed := rfl
@[simp] theorem fireStep_reg_fast : (s.fireStep).reg.fast = s.reg.fast := rfl
@[simp] theorem fireStep_reg_recovery : (s.fireStep).reg.recovery = s.reg.recovery := rfl
@[simp] theorem fireStep_reg_runaway : (s.fireStep).reg.runaway = s.reg.runaway := rfl
@[simp] theorem fireStep_reg_trip : (s.fireStep).reg.trip = s.reg.trip := rfl
@[simp] theorem fireStep_reg_inForce : (s.fireStep).reg.inForce = s.reg.inForce := rfl
@[simp] theorem fireStep_reg_tripLatch : (s.fireStep).reg.tripLatch = s.reg.tripLatch := rfl
@[simp] theorem fireStep_reg_quiet : (s.fireStep).reg.quiet = s.reg.quiet := rfl
@[simp] theorem fireStep_reg_lineEmpty : (s.fireStep).reg.lineEmpty = s.reg.lineEmpty := rfl
@[simp] theorem fireStep_reg_ratings : (s.fireStep).reg.ratings = s.reg.ratings := rfl
@[simp] theorem fireStep_reg_levels : (s.fireStep).reg.levels = s.reg.levels := rfl
@[simp] theorem fireStep_reg_bd : (s.fireStep).reg.bd = s.reg.bd := rfl
@[simp] theorem fireStep_reg_lastPeriod : (s.fireStep).reg.lastPeriod = s.reg.lastPeriod := rfl
@[simp] theorem fireStep_reg_midpoint : (s.fireStep).reg.midpoint = s.reg.midpoint := rfl

/-! ### enterStation changes: warmBand, shed, fast, recovery, runaway, trip, station, reasons, quiet -/

@[simp] theorem enterStation_reg_lastCrossing (st : StationState) (r : Reasons) : (s.enterStation st r).reg.lastCrossing = s.reg.lastCrossing := rfl
@[simp] theorem enterStation_reg_discardRun (st : StationState) (r : Reasons) : (s.enterStation st r).reg.discardRun = s.reg.discardRun := rfl
@[simp] theorem enterStation_reg_validRun (st : StationState) (r : Reasons) : (s.enterStation st r).reg.validRun = s.reg.validRun := rfl
@[simp] theorem enterStation_reg_history (st : StationState) (r : Reasons) : (s.enterStation st r).reg.history = s.reg.history := rfl
@[simp] theorem enterStation_reg_overspeed (st : StationState) (r : Reasons) : (s.enterStation st r).reg.overspeed = s.reg.overspeed := rfl
@[simp] theorem enterStation_reg_inForce (st : StationState) (r : Reasons) : (s.enterStation st r).reg.inForce = s.reg.inForce := rfl
@[simp] theorem enterStation_reg_tripLatch (st : StationState) (r : Reasons) : (s.enterStation st r).reg.tripLatch = s.reg.tripLatch := rfl
@[simp] theorem enterStation_reg_lineEmpty (st : StationState) (r : Reasons) : (s.enterStation st r).reg.lineEmpty = s.reg.lineEmpty := rfl
@[simp] theorem enterStation_reg_ratings (st : StationState) (r : Reasons) : (s.enterStation st r).reg.ratings = s.reg.ratings := rfl
@[simp] theorem enterStation_reg_levels (st : StationState) (r : Reasons) : (s.enterStation st r).reg.levels = s.reg.levels := rfl
@[simp] theorem enterStation_reg_counts (st : StationState) (r : Reasons) : (s.enterStation st r).reg.counts = s.reg.counts := rfl
@[simp] theorem enterStation_reg_conducting (st : StationState) (r : Reasons) : (s.enterStation st r).reg.conducting = s.reg.conducting := rfl
@[simp] theorem enterStation_reg_bd (st : StationState) (r : Reasons) : (s.enterStation st r).reg.bd = s.reg.bd := rfl
@[simp] theorem enterStation_reg_lastPeriod (st : StationState) (r : Reasons) : (s.enterStation st r).reg.lastPeriod = s.reg.lastPeriod := rfl
@[simp] theorem enterStation_reg_midpoint (st : StationState) (r : Reasons) : (s.enterStation st r).reg.midpoint = s.reg.midpoint := rfl

/-! ### beginPositive changes: counts, conducting -/

@[simp] theorem beginPositive_reg_station : (s.beginPositive).reg.station = s.reg.station := by
  unfold State.beginPositive; split <;> rfl
@[simp] theorem beginPositive_reg_reasons : (s.beginPositive).reg.reasons = s.reg.reasons := by
  unfold State.beginPositive; split <;> rfl
@[simp] theorem beginPositive_reg_lastCrossing : (s.beginPositive).reg.lastCrossing = s.reg.lastCrossing := by
  unfold State.beginPositive; split <;> rfl
@[simp] theorem beginPositive_reg_discardRun : (s.beginPositive).reg.discardRun = s.reg.discardRun := by
  unfold State.beginPositive; split <;> rfl
@[simp] theorem beginPositive_reg_validRun : (s.beginPositive).reg.validRun = s.reg.validRun := by
  unfold State.beginPositive; split <;> rfl
@[simp] theorem beginPositive_reg_history : (s.beginPositive).reg.history = s.reg.history := by
  unfold State.beginPositive; split <;> rfl
@[simp] theorem beginPositive_reg_overspeed : (s.beginPositive).reg.overspeed = s.reg.overspeed := by
  unfold State.beginPositive; split <;> rfl
@[simp] theorem beginPositive_reg_warmBand : (s.beginPositive).reg.warmBand = s.reg.warmBand := by
  unfold State.beginPositive; split <;> rfl
@[simp] theorem beginPositive_reg_shed : (s.beginPositive).reg.shed = s.reg.shed := by
  unfold State.beginPositive; split <;> rfl
@[simp] theorem beginPositive_reg_fast : (s.beginPositive).reg.fast = s.reg.fast := by
  unfold State.beginPositive; split <;> rfl
@[simp] theorem beginPositive_reg_recovery : (s.beginPositive).reg.recovery = s.reg.recovery := by
  unfold State.beginPositive; split <;> rfl
@[simp] theorem beginPositive_reg_runaway : (s.beginPositive).reg.runaway = s.reg.runaway := by
  unfold State.beginPositive; split <;> rfl
@[simp] theorem beginPositive_reg_trip : (s.beginPositive).reg.trip = s.reg.trip := by
  unfold State.beginPositive; split <;> rfl
@[simp] theorem beginPositive_reg_inForce : (s.beginPositive).reg.inForce = s.reg.inForce := by
  unfold State.beginPositive; split <;> rfl
@[simp] theorem beginPositive_reg_tripLatch : (s.beginPositive).reg.tripLatch = s.reg.tripLatch := by
  unfold State.beginPositive; split <;> rfl
@[simp] theorem beginPositive_reg_quiet : (s.beginPositive).reg.quiet = s.reg.quiet := by
  unfold State.beginPositive; split <;> rfl
@[simp] theorem beginPositive_reg_lineEmpty : (s.beginPositive).reg.lineEmpty = s.reg.lineEmpty := by
  unfold State.beginPositive; split <;> rfl
@[simp] theorem beginPositive_reg_ratings : (s.beginPositive).reg.ratings = s.reg.ratings := by
  unfold State.beginPositive; split <;> rfl
@[simp] theorem beginPositive_reg_levels : (s.beginPositive).reg.levels = s.reg.levels := by
  unfold State.beginPositive; split <;> rfl
@[simp] theorem beginPositive_reg_bd : (s.beginPositive).reg.bd = s.reg.bd := by
  unfold State.beginPositive; split <;> rfl
@[simp] theorem beginPositive_reg_lastPeriod : (s.beginPositive).reg.lastPeriod = s.reg.lastPeriod := by
  unfold State.beginPositive; split <;> rfl
@[simp] theorem beginPositive_reg_midpoint : (s.beginPositive).reg.midpoint = s.reg.midpoint := by
  unfold State.beginPositive; split <;> rfl
@[simp] theorem beginPositive_pending : (s.beginPositive).pending = s.pending := by
  unfold State.beginPositive; split <;> rfl
@[simp] theorem beginPositive_transit : (s.beginPositive).transit = s.transit := by
  unfold State.beginPositive; split <;> rfl
@[simp] theorem beginPositive_now : (s.beginPositive).now = s.now := by
  unfold State.beginPositive; split <;> rfl
@[simp] theorem beginPositive_held : (s.beginPositive).held = s.held := by
  unfold State.beginPositive; split <;> rfl
@[simp] theorem beginPositive_supplyRose : (s.beginPositive).supplyRose = s.supplyRose := by
  unfold State.beginPositive; split <;> rfl
@[simp] theorem beginPositive_cause : (s.beginPositive).cause = s.cause := by
  unfold State.beginPositive; split <;> rfl
@[simp] theorem beginPositive_alw : (s.beginPositive).alw = s.alw := by
  unfold State.beginPositive; split <;> rfl
@[simp] theorem beginPositive_fdr : (s.beginPositive).fdr = s.fdr := by
  unfold State.beginPositive; split <;> rfl
@[simp] theorem beginPositive_saw : (s.beginPositive).saw = s.saw := by
  unfold State.beginPositive; split <;> rfl
@[simp] theorem beginPositive_meas : (s.beginPositive).meas = s.meas := by
  unfold State.beginPositive; split <;> rfl
@[simp] theorem beginPositive_set : (s.beginPositive).set = s.set := by
  unfold State.beginPositive; split <;> rfl
@[simp] theorem beginPositive_links : (s.beginPositive).links = s.links := by
  unfold State.beginPositive; split <;> rfl
@[simp] theorem beginPositive_pins : (s.beginPositive).pins = s.pins := by
  unfold State.beginPositive; split <;> rfl

/-! ### scheduleMidpoint changes: midpoint -/

@[simp] theorem scheduleMidpoint_reg_station : (s.scheduleMidpoint).reg.station = s.reg.station := rfl
@[simp] theorem scheduleMidpoint_reg_reasons : (s.scheduleMidpoint).reg.reasons = s.reg.reasons := rfl
@[simp] theorem scheduleMidpoint_reg_lastCrossing : (s.scheduleMidpoint).reg.lastCrossing = s.reg.lastCrossing := rfl
@[simp] theorem scheduleMidpoint_reg_discardRun : (s.scheduleMidpoint).reg.discardRun = s.reg.discardRun := rfl
@[simp] theorem scheduleMidpoint_reg_validRun : (s.scheduleMidpoint).reg.validRun = s.reg.validRun := rfl
@[simp] theorem scheduleMidpoint_reg_history : (s.scheduleMidpoint).reg.history = s.reg.history := rfl
@[simp] theorem scheduleMidpoint_reg_overspeed : (s.scheduleMidpoint).reg.overspeed = s.reg.overspeed := rfl
@[simp] theorem scheduleMidpoint_reg_warmBand : (s.scheduleMidpoint).reg.warmBand = s.reg.warmBand := rfl
@[simp] theorem scheduleMidpoint_reg_shed : (s.scheduleMidpoint).reg.shed = s.reg.shed := rfl
@[simp] theorem scheduleMidpoint_reg_fast : (s.scheduleMidpoint).reg.fast = s.reg.fast := rfl
@[simp] theorem scheduleMidpoint_reg_recovery : (s.scheduleMidpoint).reg.recovery = s.reg.recovery := rfl
@[simp] theorem scheduleMidpoint_reg_runaway : (s.scheduleMidpoint).reg.runaway = s.reg.runaway := rfl
@[simp] theorem scheduleMidpoint_reg_trip : (s.scheduleMidpoint).reg.trip = s.reg.trip := rfl
@[simp] theorem scheduleMidpoint_reg_inForce : (s.scheduleMidpoint).reg.inForce = s.reg.inForce := rfl
@[simp] theorem scheduleMidpoint_reg_tripLatch : (s.scheduleMidpoint).reg.tripLatch = s.reg.tripLatch := rfl
@[simp] theorem scheduleMidpoint_reg_quiet : (s.scheduleMidpoint).reg.quiet = s.reg.quiet := rfl
@[simp] theorem scheduleMidpoint_reg_lineEmpty : (s.scheduleMidpoint).reg.lineEmpty = s.reg.lineEmpty := rfl
@[simp] theorem scheduleMidpoint_reg_ratings : (s.scheduleMidpoint).reg.ratings = s.reg.ratings := rfl
@[simp] theorem scheduleMidpoint_reg_levels : (s.scheduleMidpoint).reg.levels = s.reg.levels := rfl
@[simp] theorem scheduleMidpoint_reg_counts : (s.scheduleMidpoint).reg.counts = s.reg.counts := rfl
@[simp] theorem scheduleMidpoint_reg_conducting : (s.scheduleMidpoint).reg.conducting = s.reg.conducting := rfl
@[simp] theorem scheduleMidpoint_reg_bd : (s.scheduleMidpoint).reg.bd = s.reg.bd := rfl
@[simp] theorem scheduleMidpoint_reg_lastPeriod : (s.scheduleMidpoint).reg.lastPeriod = s.reg.lastPeriod := rfl
@[simp] theorem scheduleMidpoint_pending : (s.scheduleMidpoint).pending = s.pending := rfl
@[simp] theorem scheduleMidpoint_transit : (s.scheduleMidpoint).transit = s.transit := rfl
@[simp] theorem scheduleMidpoint_now : (s.scheduleMidpoint).now = s.now := rfl
@[simp] theorem scheduleMidpoint_held : (s.scheduleMidpoint).held = s.held := rfl
@[simp] theorem scheduleMidpoint_supplyRose : (s.scheduleMidpoint).supplyRose = s.supplyRose := rfl
@[simp] theorem scheduleMidpoint_cause : (s.scheduleMidpoint).cause = s.cause := rfl
@[simp] theorem scheduleMidpoint_alw : (s.scheduleMidpoint).alw = s.alw := rfl
@[simp] theorem scheduleMidpoint_fdr : (s.scheduleMidpoint).fdr = s.fdr := rfl
@[simp] theorem scheduleMidpoint_saw : (s.scheduleMidpoint).saw = s.saw := rfl
@[simp] theorem scheduleMidpoint_meas : (s.scheduleMidpoint).meas = s.meas := rfl
@[simp] theorem scheduleMidpoint_set : (s.scheduleMidpoint).set = s.set := rfl
@[simp] theorem scheduleMidpoint_links : (s.scheduleMidpoint).links = s.links := rfl
@[simp] theorem scheduleMidpoint_pins : (s.scheduleMidpoint).pins = s.pins := rfl

/-! ### readThresholds changes: inForce -/

@[simp] theorem readThresholds_reg_station (m : CycleMark) : (s.readThresholds m).reg.station = s.reg.station := by
  cases m <;> rfl
@[simp] theorem readThresholds_reg_reasons (m : CycleMark) : (s.readThresholds m).reg.reasons = s.reg.reasons := by
  cases m <;> rfl
@[simp] theorem readThresholds_reg_lastCrossing (m : CycleMark) : (s.readThresholds m).reg.lastCrossing = s.reg.lastCrossing := by
  cases m <;> rfl
@[simp] theorem readThresholds_reg_discardRun (m : CycleMark) : (s.readThresholds m).reg.discardRun = s.reg.discardRun := by
  cases m <;> rfl
@[simp] theorem readThresholds_reg_validRun (m : CycleMark) : (s.readThresholds m).reg.validRun = s.reg.validRun := by
  cases m <;> rfl
@[simp] theorem readThresholds_reg_history (m : CycleMark) : (s.readThresholds m).reg.history = s.reg.history := by
  cases m <;> rfl
@[simp] theorem readThresholds_reg_overspeed (m : CycleMark) : (s.readThresholds m).reg.overspeed = s.reg.overspeed := by
  cases m <;> rfl
@[simp] theorem readThresholds_reg_warmBand (m : CycleMark) : (s.readThresholds m).reg.warmBand = s.reg.warmBand := by
  cases m <;> rfl
@[simp] theorem readThresholds_reg_shed (m : CycleMark) : (s.readThresholds m).reg.shed = s.reg.shed := by
  cases m <;> rfl
@[simp] theorem readThresholds_reg_fast (m : CycleMark) : (s.readThresholds m).reg.fast = s.reg.fast := by
  cases m <;> rfl
@[simp] theorem readThresholds_reg_recovery (m : CycleMark) : (s.readThresholds m).reg.recovery = s.reg.recovery := by
  cases m <;> rfl
@[simp] theorem readThresholds_reg_runaway (m : CycleMark) : (s.readThresholds m).reg.runaway = s.reg.runaway := by
  cases m <;> rfl
@[simp] theorem readThresholds_reg_trip (m : CycleMark) : (s.readThresholds m).reg.trip = s.reg.trip := by
  cases m <;> rfl
@[simp] theorem readThresholds_reg_tripLatch (m : CycleMark) : (s.readThresholds m).reg.tripLatch = s.reg.tripLatch := by
  cases m <;> rfl
@[simp] theorem readThresholds_reg_quiet (m : CycleMark) : (s.readThresholds m).reg.quiet = s.reg.quiet := by
  cases m <;> rfl
@[simp] theorem readThresholds_reg_lineEmpty (m : CycleMark) : (s.readThresholds m).reg.lineEmpty = s.reg.lineEmpty := by
  cases m <;> rfl
@[simp] theorem readThresholds_reg_ratings (m : CycleMark) : (s.readThresholds m).reg.ratings = s.reg.ratings := by
  cases m <;> rfl
@[simp] theorem readThresholds_reg_levels (m : CycleMark) : (s.readThresholds m).reg.levels = s.reg.levels := by
  cases m <;> rfl
@[simp] theorem readThresholds_reg_counts (m : CycleMark) : (s.readThresholds m).reg.counts = s.reg.counts := by
  cases m <;> rfl
@[simp] theorem readThresholds_reg_conducting (m : CycleMark) : (s.readThresholds m).reg.conducting = s.reg.conducting := by
  cases m <;> rfl
@[simp] theorem readThresholds_reg_bd (m : CycleMark) : (s.readThresholds m).reg.bd = s.reg.bd := by
  cases m <;> rfl
@[simp] theorem readThresholds_reg_lastPeriod (m : CycleMark) : (s.readThresholds m).reg.lastPeriod = s.reg.lastPeriod := by
  cases m <;> rfl
@[simp] theorem readThresholds_reg_midpoint (m : CycleMark) : (s.readThresholds m).reg.midpoint = s.reg.midpoint := by
  cases m <;> rfl
@[simp] theorem readThresholds_pending (m : CycleMark) : (s.readThresholds m).pending = s.pending := by
  cases m <;> rfl
@[simp] theorem readThresholds_transit (m : CycleMark) : (s.readThresholds m).transit = s.transit := by
  cases m <;> rfl
@[simp] theorem readThresholds_now (m : CycleMark) : (s.readThresholds m).now = s.now := by
  cases m <;> rfl
@[simp] theorem readThresholds_held (m : CycleMark) : (s.readThresholds m).held = s.held := by
  cases m <;> rfl
@[simp] theorem readThresholds_supplyRose (m : CycleMark) : (s.readThresholds m).supplyRose = s.supplyRose := by
  cases m <;> rfl
@[simp] theorem readThresholds_cause (m : CycleMark) : (s.readThresholds m).cause = s.cause := by
  cases m <;> rfl
@[simp] theorem readThresholds_alw (m : CycleMark) : (s.readThresholds m).alw = s.alw := by
  cases m <;> rfl
@[simp] theorem readThresholds_fdr (m : CycleMark) : (s.readThresholds m).fdr = s.fdr := by
  cases m <;> rfl
@[simp] theorem readThresholds_saw (m : CycleMark) : (s.readThresholds m).saw = s.saw := by
  cases m <;> rfl
@[simp] theorem readThresholds_meas (m : CycleMark) : (s.readThresholds m).meas = s.meas := by
  cases m <;> rfl
@[simp] theorem readThresholds_set (m : CycleMark) : (s.readThresholds m).set = s.set := by
  cases m <;> rfl
@[simp] theorem readThresholds_links (m : CycleMark) : (s.readThresholds m).links = s.links := by
  cases m <;> rfl
@[simp] theorem readThresholds_pins (m : CycleMark) : (s.readThresholds m).pins = s.pins := by
  cases m <;> rfl

/-! ### countCycle changes: overspeed, discardRun, validRun, history, lastPeriod -/

@[simp] theorem countCycle_reg_station (m : CycleMark) (i : Nat) : (s.countCycle m i).reg.station = s.reg.station := by
  cases m <;> rfl
@[simp] theorem countCycle_reg_reasons (m : CycleMark) (i : Nat) : (s.countCycle m i).reg.reasons = s.reg.reasons := by
  cases m <;> rfl
@[simp] theorem countCycle_reg_lastCrossing (m : CycleMark) (i : Nat) : (s.countCycle m i).reg.lastCrossing = s.reg.lastCrossing := by
  cases m <;> rfl
@[simp] theorem countCycle_reg_warmBand (m : CycleMark) (i : Nat) : (s.countCycle m i).reg.warmBand = s.reg.warmBand := by
  cases m <;> rfl
@[simp] theorem countCycle_reg_shed (m : CycleMark) (i : Nat) : (s.countCycle m i).reg.shed = s.reg.shed := by
  cases m <;> rfl
@[simp] theorem countCycle_reg_fast (m : CycleMark) (i : Nat) : (s.countCycle m i).reg.fast = s.reg.fast := by
  cases m <;> rfl
@[simp] theorem countCycle_reg_recovery (m : CycleMark) (i : Nat) : (s.countCycle m i).reg.recovery = s.reg.recovery := by
  cases m <;> rfl
@[simp] theorem countCycle_reg_runaway (m : CycleMark) (i : Nat) : (s.countCycle m i).reg.runaway = s.reg.runaway := by
  cases m <;> rfl
@[simp] theorem countCycle_reg_trip (m : CycleMark) (i : Nat) : (s.countCycle m i).reg.trip = s.reg.trip := by
  cases m <;> rfl
@[simp] theorem countCycle_reg_inForce (m : CycleMark) (i : Nat) : (s.countCycle m i).reg.inForce = s.reg.inForce := by
  cases m <;> rfl
@[simp] theorem countCycle_reg_tripLatch (m : CycleMark) (i : Nat) : (s.countCycle m i).reg.tripLatch = s.reg.tripLatch := by
  cases m <;> rfl
@[simp] theorem countCycle_reg_quiet (m : CycleMark) (i : Nat) : (s.countCycle m i).reg.quiet = s.reg.quiet := by
  cases m <;> rfl
@[simp] theorem countCycle_reg_lineEmpty (m : CycleMark) (i : Nat) : (s.countCycle m i).reg.lineEmpty = s.reg.lineEmpty := by
  cases m <;> rfl
@[simp] theorem countCycle_reg_ratings (m : CycleMark) (i : Nat) : (s.countCycle m i).reg.ratings = s.reg.ratings := by
  cases m <;> rfl
@[simp] theorem countCycle_reg_levels (m : CycleMark) (i : Nat) : (s.countCycle m i).reg.levels = s.reg.levels := by
  cases m <;> rfl
@[simp] theorem countCycle_reg_counts (m : CycleMark) (i : Nat) : (s.countCycle m i).reg.counts = s.reg.counts := by
  cases m <;> rfl
@[simp] theorem countCycle_reg_conducting (m : CycleMark) (i : Nat) : (s.countCycle m i).reg.conducting = s.reg.conducting := by
  cases m <;> rfl
@[simp] theorem countCycle_reg_bd (m : CycleMark) (i : Nat) : (s.countCycle m i).reg.bd = s.reg.bd := by
  cases m <;> rfl
@[simp] theorem countCycle_reg_midpoint (m : CycleMark) (i : Nat) : (s.countCycle m i).reg.midpoint = s.reg.midpoint := by
  cases m <;> rfl
@[simp] theorem countCycle_pending (m : CycleMark) (i : Nat) : (s.countCycle m i).pending = s.pending := by
  cases m <;> rfl
@[simp] theorem countCycle_transit (m : CycleMark) (i : Nat) : (s.countCycle m i).transit = s.transit := by
  cases m <;> rfl
@[simp] theorem countCycle_now (m : CycleMark) (i : Nat) : (s.countCycle m i).now = s.now := by
  cases m <;> rfl
@[simp] theorem countCycle_held (m : CycleMark) (i : Nat) : (s.countCycle m i).held = s.held := by
  cases m <;> rfl
@[simp] theorem countCycle_supplyRose (m : CycleMark) (i : Nat) : (s.countCycle m i).supplyRose = s.supplyRose := by
  cases m <;> rfl
@[simp] theorem countCycle_cause (m : CycleMark) (i : Nat) : (s.countCycle m i).cause = s.cause := by
  cases m <;> rfl
@[simp] theorem countCycle_alw (m : CycleMark) (i : Nat) : (s.countCycle m i).alw = s.alw := by
  cases m <;> rfl
@[simp] theorem countCycle_fdr (m : CycleMark) (i : Nat) : (s.countCycle m i).fdr = s.fdr := by
  cases m <;> rfl
@[simp] theorem countCycle_saw (m : CycleMark) (i : Nat) : (s.countCycle m i).saw = s.saw := by
  cases m <;> rfl
@[simp] theorem countCycle_meas (m : CycleMark) (i : Nat) : (s.countCycle m i).meas = s.meas := by
  cases m <;> rfl
@[simp] theorem countCycle_set (m : CycleMark) (i : Nat) : (s.countCycle m i).set = s.set := by
  cases m <;> rfl
@[simp] theorem countCycle_links (m : CycleMark) (i : Nat) : (s.countCycle m i).links = s.links := by
  cases m <;> rfl
@[simp] theorem countCycle_pins (m : CycleMark) (i : Nat) : (s.countCycle m i).pins = s.pins := by
  cases m <;> rfl

/-! ### loopStep changes: warmBand, shed, fast, recovery, runaway, trip, bd, levels -/

@[simp] theorem loopStep_reg_station (f : Nat) : (s.loopStep f).reg.station = s.reg.station := by
  unfold State.loopStep; split <;> rfl
@[simp] theorem loopStep_reg_reasons (f : Nat) : (s.loopStep f).reg.reasons = s.reg.reasons := by
  unfold State.loopStep; split <;> rfl
@[simp] theorem loopStep_reg_lastCrossing (f : Nat) : (s.loopStep f).reg.lastCrossing = s.reg.lastCrossing := by
  unfold State.loopStep; split <;> rfl
@[simp] theorem loopStep_reg_discardRun (f : Nat) : (s.loopStep f).reg.discardRun = s.reg.discardRun := by
  unfold State.loopStep; split <;> rfl
@[simp] theorem loopStep_reg_validRun (f : Nat) : (s.loopStep f).reg.validRun = s.reg.validRun := by
  unfold State.loopStep; split <;> rfl
@[simp] theorem loopStep_reg_history (f : Nat) : (s.loopStep f).reg.history = s.reg.history := by
  unfold State.loopStep; split <;> rfl
@[simp] theorem loopStep_reg_overspeed (f : Nat) : (s.loopStep f).reg.overspeed = s.reg.overspeed := by
  unfold State.loopStep; split <;> rfl
@[simp] theorem loopStep_reg_inForce (f : Nat) : (s.loopStep f).reg.inForce = s.reg.inForce := by
  unfold State.loopStep; split <;> rfl
@[simp] theorem loopStep_reg_tripLatch (f : Nat) : (s.loopStep f).reg.tripLatch = s.reg.tripLatch := by
  unfold State.loopStep; split <;> rfl
@[simp] theorem loopStep_reg_quiet (f : Nat) : (s.loopStep f).reg.quiet = s.reg.quiet := by
  unfold State.loopStep; split <;> rfl
@[simp] theorem loopStep_reg_lineEmpty (f : Nat) : (s.loopStep f).reg.lineEmpty = s.reg.lineEmpty := by
  unfold State.loopStep; split <;> rfl
@[simp] theorem loopStep_reg_ratings (f : Nat) : (s.loopStep f).reg.ratings = s.reg.ratings := by
  unfold State.loopStep; split <;> rfl
@[simp] theorem loopStep_reg_counts (f : Nat) : (s.loopStep f).reg.counts = s.reg.counts := by
  unfold State.loopStep; split <;> rfl
@[simp] theorem loopStep_reg_conducting (f : Nat) : (s.loopStep f).reg.conducting = s.reg.conducting := by
  unfold State.loopStep; split <;> rfl
@[simp] theorem loopStep_reg_lastPeriod (f : Nat) : (s.loopStep f).reg.lastPeriod = s.reg.lastPeriod := by
  unfold State.loopStep; split <;> rfl
@[simp] theorem loopStep_reg_midpoint (f : Nat) : (s.loopStep f).reg.midpoint = s.reg.midpoint := by
  unfold State.loopStep; split <;> rfl
@[simp] theorem loopStep_pending (f : Nat) : (s.loopStep f).pending = s.pending := by
  unfold State.loopStep; split <;> rfl
@[simp] theorem loopStep_transit (f : Nat) : (s.loopStep f).transit = s.transit := by
  unfold State.loopStep; split <;> rfl
@[simp] theorem loopStep_now (f : Nat) : (s.loopStep f).now = s.now := by
  unfold State.loopStep; split <;> rfl
@[simp] theorem loopStep_held (f : Nat) : (s.loopStep f).held = s.held := by
  unfold State.loopStep; split <;> rfl
@[simp] theorem loopStep_supplyRose (f : Nat) : (s.loopStep f).supplyRose = s.supplyRose := by
  unfold State.loopStep; split <;> rfl
@[simp] theorem loopStep_cause (f : Nat) : (s.loopStep f).cause = s.cause := by
  unfold State.loopStep; split <;> rfl
@[simp] theorem loopStep_alw (f : Nat) : (s.loopStep f).alw = s.alw := by
  unfold State.loopStep; split <;> rfl
@[simp] theorem loopStep_fdr (f : Nat) : (s.loopStep f).fdr = s.fdr := by
  unfold State.loopStep; split <;> rfl
@[simp] theorem loopStep_saw (f : Nat) : (s.loopStep f).saw = s.saw := by
  unfold State.loopStep; split <;> rfl
@[simp] theorem loopStep_meas (f : Nat) : (s.loopStep f).meas = s.meas := by
  unfold State.loopStep; split <;> rfl
@[simp] theorem loopStep_set (f : Nat) : (s.loopStep f).set = s.set := by
  unfold State.loopStep; split <;> rfl
@[simp] theorem loopStep_links (f : Nat) : (s.loopStep f).links = s.links := by
  unfold State.loopStep; split <;> rfl
@[simp] theorem loopStep_pins (f : Nat) : (s.loopStep f).pins = s.pins := by
  unfold State.loopStep; split <;> rfl

/-! ### takeCrossing changes: lastCrossing -/

@[simp] theorem takeCrossing_reg_station (i : Nat) : (s.takeCrossing i).reg.station = s.reg.station := by
  unfold State.takeCrossing; split <;> rfl
@[simp] theorem takeCrossing_reg_reasons (i : Nat) : (s.takeCrossing i).reg.reasons = s.reg.reasons := by
  unfold State.takeCrossing; split <;> rfl
@[simp] theorem takeCrossing_reg_discardRun (i : Nat) : (s.takeCrossing i).reg.discardRun = s.reg.discardRun := by
  unfold State.takeCrossing; split <;> rfl
@[simp] theorem takeCrossing_reg_validRun (i : Nat) : (s.takeCrossing i).reg.validRun = s.reg.validRun := by
  unfold State.takeCrossing; split <;> rfl
@[simp] theorem takeCrossing_reg_history (i : Nat) : (s.takeCrossing i).reg.history = s.reg.history := by
  unfold State.takeCrossing; split <;> rfl
@[simp] theorem takeCrossing_reg_overspeed (i : Nat) : (s.takeCrossing i).reg.overspeed = s.reg.overspeed := by
  unfold State.takeCrossing; split <;> rfl
@[simp] theorem takeCrossing_reg_warmBand (i : Nat) : (s.takeCrossing i).reg.warmBand = s.reg.warmBand := by
  unfold State.takeCrossing; split <;> rfl
@[simp] theorem takeCrossing_reg_shed (i : Nat) : (s.takeCrossing i).reg.shed = s.reg.shed := by
  unfold State.takeCrossing; split <;> rfl
@[simp] theorem takeCrossing_reg_fast (i : Nat) : (s.takeCrossing i).reg.fast = s.reg.fast := by
  unfold State.takeCrossing; split <;> rfl
@[simp] theorem takeCrossing_reg_recovery (i : Nat) : (s.takeCrossing i).reg.recovery = s.reg.recovery := by
  unfold State.takeCrossing; split <;> rfl
@[simp] theorem takeCrossing_reg_runaway (i : Nat) : (s.takeCrossing i).reg.runaway = s.reg.runaway := by
  unfold State.takeCrossing; split <;> rfl
@[simp] theorem takeCrossing_reg_trip (i : Nat) : (s.takeCrossing i).reg.trip = s.reg.trip := by
  unfold State.takeCrossing; split <;> rfl
@[simp] theorem takeCrossing_reg_inForce (i : Nat) : (s.takeCrossing i).reg.inForce = s.reg.inForce := by
  unfold State.takeCrossing; split <;> rfl
@[simp] theorem takeCrossing_reg_tripLatch (i : Nat) : (s.takeCrossing i).reg.tripLatch = s.reg.tripLatch := by
  unfold State.takeCrossing; split <;> rfl
@[simp] theorem takeCrossing_reg_quiet (i : Nat) : (s.takeCrossing i).reg.quiet = s.reg.quiet := by
  unfold State.takeCrossing; split <;> rfl
@[simp] theorem takeCrossing_reg_lineEmpty (i : Nat) : (s.takeCrossing i).reg.lineEmpty = s.reg.lineEmpty := by
  unfold State.takeCrossing; split <;> rfl
@[simp] theorem takeCrossing_reg_ratings (i : Nat) : (s.takeCrossing i).reg.ratings = s.reg.ratings := by
  unfold State.takeCrossing; split <;> rfl
@[simp] theorem takeCrossing_reg_levels (i : Nat) : (s.takeCrossing i).reg.levels = s.reg.levels := by
  unfold State.takeCrossing; split <;> rfl
@[simp] theorem takeCrossing_reg_counts (i : Nat) : (s.takeCrossing i).reg.counts = s.reg.counts := by
  unfold State.takeCrossing; split <;> rfl
@[simp] theorem takeCrossing_reg_conducting (i : Nat) : (s.takeCrossing i).reg.conducting = s.reg.conducting := by
  unfold State.takeCrossing; split <;> rfl
@[simp] theorem takeCrossing_reg_bd (i : Nat) : (s.takeCrossing i).reg.bd = s.reg.bd := by
  unfold State.takeCrossing; split <;> rfl
@[simp] theorem takeCrossing_reg_lastPeriod (i : Nat) : (s.takeCrossing i).reg.lastPeriod = s.reg.lastPeriod := by
  unfold State.takeCrossing; split <;> rfl
@[simp] theorem takeCrossing_reg_midpoint (i : Nat) : (s.takeCrossing i).reg.midpoint = s.reg.midpoint := by
  unfold State.takeCrossing; split <;> rfl
@[simp] theorem takeCrossing_pending (i : Nat) : (s.takeCrossing i).pending = s.pending := by
  unfold State.takeCrossing; split <;> rfl
@[simp] theorem takeCrossing_transit (i : Nat) : (s.takeCrossing i).transit = s.transit := by
  unfold State.takeCrossing; split <;> rfl
@[simp] theorem takeCrossing_held (i : Nat) : (s.takeCrossing i).held = s.held := by
  unfold State.takeCrossing; split <;> rfl
@[simp] theorem takeCrossing_supplyRose (i : Nat) : (s.takeCrossing i).supplyRose = s.supplyRose := by
  unfold State.takeCrossing; split <;> rfl
@[simp] theorem takeCrossing_cause (i : Nat) : (s.takeCrossing i).cause = s.cause := by
  unfold State.takeCrossing; split <;> rfl
@[simp] theorem takeCrossing_alw (i : Nat) : (s.takeCrossing i).alw = s.alw := by
  unfold State.takeCrossing; split <;> rfl
@[simp] theorem takeCrossing_fdr (i : Nat) : (s.takeCrossing i).fdr = s.fdr := by
  unfold State.takeCrossing; split <;> rfl
@[simp] theorem takeCrossing_saw (i : Nat) : (s.takeCrossing i).saw = s.saw := by
  unfold State.takeCrossing; split <;> rfl
@[simp] theorem takeCrossing_meas (i : Nat) : (s.takeCrossing i).meas = s.meas := by
  unfold State.takeCrossing; split <;> rfl
@[simp] theorem takeCrossing_set (i : Nat) : (s.takeCrossing i).set = s.set := by
  unfold State.takeCrossing; split <;> rfl
@[simp] theorem takeCrossing_links (i : Nat) : (s.takeCrossing i).links = s.links := by
  unfold State.takeCrossing; split <;> rfl
@[simp] theorem takeCrossing_pins (i : Nat) : (s.takeCrossing i).pins = s.pins := by
  unfold State.takeCrossing; split <;> rfl

/-! ### What they make of the fields they change -/

@[simp] theorem enterStation_reg_station (st : StationState) (r : Reasons) : (s.enterStation st r).reg.station = st := rfl
@[simp] theorem enterStation_reg_reasons (st : StationState) (r : Reasons) : (s.enterStation st r).reg.reasons = r := rfl
@[simp] theorem enterStation_transit (st : StationState) (r : Reasons) :
    (s.enterStation st r).transit =
      s.transit ++ stateReports { left := s.reg.station, entered := st, reasons := r } := rfl

theorem setDemand_bd (x : Int) : (s.setDemand x).reg.bd = min x.toNat s.capacity := rfl
theorem setDemand_levels (x : Int) :
    (s.setDemand x).reg.levels = levelsFor (min x.toNat s.capacity) s.reg.ratings := rfl

/-- R25: a level is at most 64. -/
theorem levelFor_le (allotted rating : Nat) (h : allotted ≤ rating) : levelFor allotted rating ≤ 64 := by
  unfold levelFor
  split
  · omega
  · rw [Nat.div_le_iff_le_mul_add_pred (by omega)]
    omega

/-- R25: whatever is shared out, no level is above 64. -/
theorem levelsFor_le (bd : Nat) (r : Vector Nat 4) (i : Fin 4) : (levelsFor bd r)[i] ≤ 64 := by
  fin_cases i <;> exact levelFor_le _ _ (Nat.min_le_right _ _)

end Sys2Proof.Machine
end

