-- ==== Sys2Proof/Tests/Slice0.lean ====
section
/-! SUPPORT. The model's own tests: an ill-formed command for each check of WellFormed.lean, a few values of the spec's examples
for each family, and for each obligation states and operands that meet its hypotheses. -/

namespace Sys2Proof.Tests

set_option Elab.async false

open Sys2Proof.Machine

/-! ### States to test on -/

/-- The state a command answers. -/
def after (i : Instr) (s : State) : State :=
  match exec i s with
  | .next t => t
  | _ => s

/-- A clean sample of zeros. -/
def zeros : Sample := { va := 0, vb := 0, vc := 0, ia := 0, ib := 0, ic := 0, isaw := 0, ibal := 0 }

/-- The tables with one ballast channel of 1,200 LU and feeder F1 rated 100 LU. -/
def tables : Tables :=
  { Tables.default with
    channels := { ChannelsTable.default with rating := #v[1200, 0, 0, 0] }
    feeders := feedersDefault.set 0 { FeederConfig.default 1 with rating := 100 } }

/-- The station REGULATING at 50.00 Hz with D at 3,000 LU, Bd and Pb at 1,200 LU and nothing claimed. -/
def running : State :=
  { State.reset with
    reg :=
      { State.reset.reg with
        station := .regulating, history := [5000], lastCrossing := some 0, recovery := .running 0, quiet := true
        ratings := #v[1200, 0, 0, 0], bd := 1200, levels := #v[64, 0, 0, 0], conducting := #v[true, false, false, false]
        midpoint := some 10000, lastPeriod := some 20000 }
    alw :=
      { State.reset.alw with
        d := 3000, stale := false, bands := { h := 400, w := 0, c := 2600 }
        lastReport := { state := .regulating, reasons := .empty } }
    meas := { State.reset.meas with pb := 1200, lastReport := { state := .regulating, reasons := .empty } }
    set := { State.reset.set with tables := tables } }

/-- A claim record in use. -/
def used (st : ClaimState) (amount : Nat) (b : Binding) : Claim :=
  { Claim.initial b with state := st, amount := amount }

/-- Claim 0 CARRIED on X1, claims 4 and 5 CARRIED for a feeding saw, claim 12 CARRIED for feeder F1, claim 6 PENDING with a mark
at 1.00 s and claim 1 WAITING until 30.00 s; claim 2 CARRIED in its surge until 2.00 s. -/
def busy : State :=
  let c : Vector Claim 24 :=
    ((((((running.alw.claims.set 0 (used .carried 100 (.aux 0))).set 4 { used .carried 300 .saw with
      runAmount := some 200, surgeEnded := some false }).set 5 (used .carried 50 .saw)).set 12
      (used .carried 100 (.feeder 0))).set 6 { used .pending 60 .nothing with dueTime := some 100 }).set 1
      { used .waiting 2000 .nothing with waitDeadline := some 3000 }).set 2
      { used .carried 180 (.aux 1) with
        runAmount := some 120, surgeEnded := some false, surgeTime := some 20, surgeEnd := some 200 }
  { running with
    alw := { running.alw with claims := c, queue := [1], line := [{ claim := 6, due := 100, amount := 60 }] }
    reg := { running.reg with lineEmpty := false, quiet := false }
    fdr :=
      { running.fdr with
        feeders := running.fdr.feeders.set 0
          { Feeder.initial (.default 1) with state := .on, close := true, follow := .complete 0 } }
    saw := { running.saw with state := .feeding, commands := commandsIn .feeding, bladeQuiet := false }
    pins := { running.pins with lineFb := true, deltaFb := true, fb := running.pins.fb.set 0 true } }

/-- A deficit of the busy station, by FREQUENCY and BUDGET, with the step timing running since 0. -/
def short : State :=
  { busy with
    reg := { busy.reg with station := .deficit, reasons := { frequency := true, budget := true } }
    alw := { busy.alw with lastReport := { state := .deficit, reasons := { frequency := true, budget := true } } }
    fdr := { busy.fdr with step := .running 0 100 false } }

/-- The saw in a state, with its claims as busy has them. -/
def sawIn (st : SawState) : State := { busy with saw := { busy.saw with state := st, commands := commandsIn st } }

/-- Feeder F1 in a state. -/
def feederIn (st : FeederState) : State :=
  { busy with fdr := { busy.fdr with feeders := busy.fdr.feeders.set 0 { busy.feeder 0 with state := st } } }

/-! ### WellFormed: one ill-formed term for each check, and terms at the bounds that pass -/

theorem test_wf_interval : wellFormed (.cycleCompletion 0 zeros []) = false := by decide
theorem test_wf_samples : wellFormed (.cycleCompletion 20000 zeros (List.replicate 4 zeros)) = false := by decide
theorem test_wf_downStep_low : wellFormed (.downStep 0) = false := by decide
theorem test_wf_downStep_high : wellFormed (.downStep 10000) = false := by decide
theorem test_wf_upStep : wellFormed (.upStep 10000) = false := by decide
theorem test_wf_reports :
    let r : StateReport := { left := .regulating, entered := .deficit, reasons := .empty }
    let q : StateReport := { left := .black, entered := .warming, reasons := { frequency := true, budget := false } }
    (wellFormed (.allowanceStateReport r) || wellFormed (.feederStateReport q) || wellFormed (.sawStateReport r)
      || wellFormed (.measurementStateReport q) || wellFormed (.linkStateReport .l1 r)) = false := by decide
theorem test_wf_endRequest :
    (wellFormed (.endRequest 4 .noEnding) || wellFormed (.endRequest 4 .expired)) = false := by decide
theorem test_wf_endingReports :
    (wellFormed (.feederEndingReport 0 .shed) || wellFormed (.sawEndingReport .motor .released)) = false := by decide
theorem test_wf_orderFrame : wellFormed (.orderFrame .l1 [] 8) = false := by decide
theorem test_wf_openWindow :
    (wellFormed (.openWindow .l1 .channels 256 1) || wellFormed (.openWindow .l1 .channels 1 256)) = false := by decide
theorem test_wf_loadData : wellFormed (.loadData .l1 (List.replicate 25 0)) = false := by decide
theorem test_wf_supervise : wellFormed (.supervise .l1 256) = false := by decide
theorem test_wf_declare : wellFormed (.declare .l1 65536) = false := by decide
theorem test_wf_numbers :
    (wellFormed (.withdraw .l1 256) || wellFormed (.release .l1 256) || wellFormed (.readClaim .l1 256)
      || wellFormed (.readTable .l1 .saw 256 .committed) || wellFormed (.feederOn .l3 256)
      || wellFormed (.feederOff .l3 256) || wellFormed (.feederClear .l3 256) || wellFormed (.readFeeder .l3 256))
      = false := by decide

/-- The battery charger's CLAIM of the spec's example: number 2, 180 LU, 120 LU after 4.0 s, lead 0.5 s, X2. -/
def charger : ClaimOperands :=
  { number := 2, amount := 180, runAmount := some 120, surgeTime := some 40, leadTime := 5, waitLimit := none
    binding := .aux 1, tag := 0 }

theorem test_wf_claim :
    (wellFormed (.claim .l1 { charger with number := 256 }) || wellFormed (.claim .l1 { charger with amount := 65536 })
      || wellFormed (.claim .l1 { charger with runAmount := some 65535 })
      || wellFormed (.claim .l1 { charger with surgeTime := some 65535 })
      || wellFormed (.claim .l1 { charger with leadTime := 256 })
      || wellFormed (.claim .l1 { charger with waitLimit := some 65535 })
      || wellFormed (.claim .l1 { charger with tag := 256 })) = false := by decide
theorem test_wf_passes :
    (wellFormed (.cycleCompletion 312 zeros [zeros]) && wellFormed (.downStep 1) && wellFormed (.downStep 9999)
      && wellFormed (.upStep 0) && wellFormed (.orderFrame .l1 [] 7) && wellFormed (.supervise .l1 255)
      && wellFormed (.claim .l1 charger) && wellFormed (.declare .l1 65535)) = true := by decide

/-! ### Frames (R160, R173) -/

/-- The frame of READ STATION: code 0x08, no operands, check byte 0xA8. -/
theorem test_frame_readStation :
    judgeFrame [0x08, 0x00, 0xA8] 0 = some (0x08, []) ∧ decodeOrder .l1 0x08 [] = .ok (.readStation .l1) := by
  decide +kernel
theorem test_frame_badCheck : judgeFrame [0x08, 0x00, 0xA9] 0 = none := by decide +kernel
theorem test_frame_claim :
    decodeOrder .l1 0x20 [0x02, 0x00, 0xB4, 0x00, 0x78, 0x00, 0x28, 0x05, 0xFF, 0xFF, 0x02, 0x00]
      = .ok (.claim .l1 charger) := by decide
theorem test_frame_feederOn : decodeOrder .l3 0x40 [0x07] = .ok (.feederOn .l3 7) := by decide
theorem test_frame_openWindow : decodeOrder .l3 0x03 [0x05, 0x06, 0x08] = .ok (.openWindow .l3 .shedOrder 6 8) := by
  decide
theorem test_frame_mask : decodeOrder .l1 0x02 [0x08, 0x00] = .error .badOperand := by decide
theorem test_frame_unknown : decodeOrder .l1 0x09 [] = .error .unknownOrder := by decide

/-! ### Frequency and ballast (R1, R22, R25, R27) -/

theorem test_cycleFrequency : cycleFrequency 24000 = 4167 ∧ cycleFrequency 20000 = 5000 ∧ cycleFrequency 16667 = 6000 := by
  decide +kernel
theorem test_levels : levelsFor 1980 #v[1200, 1200, 800, 0] = #v[64, 42, 0, 0] := by decide +kernel
theorem test_computedBallast : computedBallast #v[64, 42, 0, 0] #v[1200, 1200, 800, 0] = 1987 := by decide
theorem test_downStep : (after (.downStep 150) running).reg.bd = 1050 := by decide
theorem test_upStep_black : (after (.upStep 150) State.reset).reg.bd = 0 := by decide

/-! ### Claims (R71, R86, R99) -/

theorem test_placeMark :
    let line : List Mark := [{ claim := 0, due := 60, amount := 1 }, { claim := 1, due := 120, amount := 1 }]
    placeMark 0 line = 0 ∧ placeMark 40 line = 85 ∧ placeMark 100 line = 145 ∧ placeMark 130 line = 145 := by decide
theorem test_bands :
    bandsFor 3000 .default = { h := 400, w := 0, c := 2600 } ∧ bandsFor 300 .default = { h := 300, w := 0, c := 0 } := by
  decide
/-- R99's example: D 2,000, h 900, s 100. -/
theorem test_bandsProposals :
    (let b := bandsFor 2000 { hres := 400, wres := 1200 }
     commonNeed b 900 0 100 ≤ b.c) = False
      ∧ (let b := bandsFor 2000 { hres := 900, wres := 600 }
         commonNeed b 900 0 100 = 100 ∧ b.c = 500) := by decide
theorem test_claim_admitted :
    let t := after (.claim .l1 charger) running
    (t.claim 2).state = .pending ∧ (t.claim 2).dueTime = some 50 ∧ t.alw.line.length = 1 ∧ t.alw.queue = []
      ∧ t.transit = [.leadLineReport .firstMark] := by decide
theorem test_claim_due :
    let t := after (.dueEvent 6) busy
    (t.claim 6).state = .carried ∧ t.now = 1000000 ∧ .downStep 60 ∈ t.transit ∧ .leadLineReport .empty ∈ t.transit := by
  decide
/-- The down step of the mark that has come due is on its way: its power is not counted twice (R37). -/
theorem test_water_afterDueEvent :
    let t := after (.dueEvent 6) busy
    t.bc = 1200 ∧ t.waterBc = 1143 ∧ t.headroom = 1043 := by decide +kernel
/-- The spec's example at DELTA's closing: Bd 185 and the up step of 1,600 on its way; Bc is 1,781 and the headroom 90. -/
def surgeEnded : State :=
  { running with
    reg := { running.reg with ratings := #v[1200, 1200, 800, 0], bd := 185, levels := levelsFor 185 #v[1200, 1200, 800, 0] }
    meas := { running.meas with pb := 190 }
    transit := [.upStep 1600] }
theorem test_water_afterSurgeEnd :
    surgeEnded.waterBc = 1781 ∧ surgeEnded.headroom = 90 ∧ (after (.upStep 1600) surgeEnded).bc = 1781 := by decide +kernel
theorem test_release :
    let t := after (.release .l1 0) busy
    (t.claim 0).state = .free ∧ t.auxClosed 0 = false ∧ .upStep 100 ∈ t.transit := by decide

/-! ### Feeders, saw, measurement -/

theorem test_feederOn :
    let t := after (.feederOn .l3 1) running
    (t.feeder 0).state = .waiting ∧ (t.claim 12).state = .pending ∧ .feederAdmissionReport 0 ∈ t.transit := by decide
/-- FEEDER ON while an end request for the feeder's claim has still to be taken (R106). -/
theorem test_feederOn_endAwaits :
    let s : State := { running with transit := [.endRequest 12 .withdrawn] }
    let t := after (.feederOn .l3 1) s
    (t.link .l3).buffer = some { code := 0x40, status := .wrongState, data := [] } ∧ (t.feeder 0).state = .off := by
  decide +kernel
/-- A feeder whose mark was cancelled is left to its ending report (R125); one whose wait has expired is active (R118). -/
theorem test_shed_endingReports :
    short.targetActive (.feeder 0) = true
      ∧ State.targetActive { short with transit := [.feederEndingReport 0 .cancelled] } (.feeder 0) = false
      ∧ State.targetActive { short with transit := [.feederEndingReport 0 .expired] } (.feeder 0) = true := by
  decide
/-- The entry to DEFICIT. -/
def deficitEntry : StateReport :=
  { left := .regulating, entered := .deficit, reasons := { frequency := true, budget := false } }
/-- Claims 6 and 12 are PENDING, and the end request of a shed step on F1 is on its way. -/
def shedFirst : State :=
  { busy with
    alw :=
      { busy.alw with
        claims := busy.alw.claims.set 12 { used .pending 70 (.feeder 0) with dueTime := some 200 }
        line := busy.alw.line ++ [{ claim := 12, due := 200, amount := 70 }] }
    transit := [.endRequest 12 .shed] }
/-- The step was taken before the cancellation, which finds no mark (R125). -/
theorem test_shed_beforeCancellation :
    let t := after (.allowanceStateReport deficitEntry) shedFirst
    (t.claim 12).state = .free ∧ (t.claim 12).last = .shed ∧ (t.claim 6).last = .cancelled
      ∧ t.transit = [.leadLineReport .empty] := by decide +kernel
/-- The carry enable of an ON feeder has gone off before its own report, and the contact stays closed (log 39). -/
theorem test_weldedFromOn :
    let s : State :=
      { busy with
        alw := { busy.alw with claims := busy.alw.claims.set 12 (used .free 100 (.feeder 0)) } }
    let t := after (.stuckTimingExpiry 0) s.syncFeeders
    (t.feeder 0).state = .fault .welded ∧ t.transit = [.endRequest 12 .fault] := by decide +kernel
theorem test_feederOff :
    let t := after (.feederOff .l3 1) busy
    (t.feeder 0).state = .off ∧ t.feederDriven 0 = false ∧ .endRequest 12 .released ∈ t.transit := by decide
theorem test_shedStep :
    let t := after .stepTimingFullMark short
    .shedRequest .feedHold ∈ t.transit ∧ t.fdr.step = .running 100 100 false := by decide
theorem test_sawStop :
    let t := after (.sawStop .l2) busy
    t.saw.state = .stopping ∧ t.lineDriven = false ∧ .endRequest 4 .released ∈ t.transit
      ∧ .endRequest 5 .released ∈ t.transit := by decide
theorem test_estop : (after (.estopChange true) busy).saw.state = .fault .estop := by decide
/-- A window end at the changeover speed that comes with the star-time expiry, taken after it (R138). -/
def starting (pulses : Nat) : State :=
  { sawIn .star with
    saw := { (sawIn .star).saw with starTime := some 50, windowEnd := 50, pulses := pulses, speed := 10 } }
theorem test_starTime_withWindowEnd :
    (after .starTimeExpiry (starting 9)).saw.state = .changeover
      ∧ (after .starTimeExpiry (starting 8)).saw.state = .fault .startStall := by decide +kernel
theorem test_bladeSpeed : bladeSpeed 10 40 = 100 ∧ bladeSpeed 1 40 = 10 ∧ bladeSpeed 20 40 = 150 := by decide
/-- A link is LOST, the two reports of its loss on their way, and a window on it is open. -/
def lostWith (l : Link) (s : State) : State :=
  { s.onLink l fun c => { c with selectLow := true, selecting := true, lost := true } with
    transit := [.linkLossReportAllowance l, .linkLossReportSaw l] }
/-- The frame's order finds the loss taken (R59, R169): WITHDRAW comes too late, a new CLAIM stands, STALE is cleared. -/
theorem test_lossBeforeFrame :
    let framed (l : Link) (o : Order) (s : State) : State := after (.orderFrame l (encodeFrame o.code o.operands) 0) s
    let told (l : Link) (s : State) : Option Status := (s.link l).buffer.map Reply.status
    let w := framed .l1 ⟨.l1, 0x21, [1]⟩ (lostWith .l1 busy)
    let d := framed .l1 ⟨.l1, 0x11, [11, 184]⟩ (lostWith .l1 busy)
    let h := framed .l2 ⟨.l2, 0x54, []⟩ (lostWith .l2 busy)
    ((w.claim 1).last = .linkLost ∧ told .l1 w = some .wrongState ∧ (w.link .l1).lost = false ∧ w.transit = [])
      ∧ (d.alw.stale = false ∧ told .l1 d = some .ok)
      ∧ (h.saw.state = .stopping ∧ told .l2 h = some .wrongState ∧ (h.claim 6).last = .linkLost) := by decide +kernel
theorem test_figure :
    generatorFigure { zeros with va := 230000, ia := 10000 } [{ zeros with va := 230000, ia := 10000 }] = 230 := by decide
theorem test_takeSnapshot : (after (.takeSnapshot .l1) running).meas.captures.l1.isSome = true := by decide

/-! ### Links and settings -/

theorem test_dataOut :
    let t := after (.selectFall .l1) (after (.readStation .l1) running)
    t.dataOut .l1 0 = some 0x08 ∧ t.dataOut .l1 2 = some 35 ∧ t.dataOut .l1 39 = some 0 ∧ running.dataOut .l1 0 = none := by
  decide +kernel
theorem test_attn :
    let t := after (.linkStateReport .l1 { left := .regulating, entered := .runaway, reasons := .empty }) running
    t.attn .l1 = true ∧ (t.link .l1).notices = 0x00C ∧ (after (.readNotices .l1) t).attn .l1 = false := by decide
theorem test_proposal :
    let t := after (.openWindow .l3 .bands 1 1) running
    let u := after (.loadData .l3 [0x03, 0x84, 0x02, 0x58]) t
    let v := after (.confirm .l1 .bands) u
    u.set.bandsProposal.isSome = true ∧ v.set.tables.bands = { hres := 900, wres := 600 }
      ∧ v.alw.bands = { h := 900, w := 600, c := 1500 } := by decide
theorem test_panelReset :
    let t := after .panelReset busy
    t.held = true ∧ t.set.tables = tables ∧ t.auxClosed 0 = false ∧ t.balHigh 0 = false := by decide

/-! ### For each obligation, states and operands that meet its hypotheses -/

/-- A reset is held. -/
def inReset : State := after .panelReset busy

/-- The proposal of L3's BANDS load stands, and L2 has a window on BANDS. -/
def proposed : State :=
  { running with
    set :=
      { running.set with
        bandsProposal := some { copy := .bands { hres := 900, wres := 600 }, proposer := .l3, expiry := 500 } }
    links :=
      { running.links with
        l2 :=
          { running.links.l2 with
            window :=
              some
                { range := { table := .bands, first := 1, last := 1, pointer := 1 }, staging := [[1, 144, 0, 0]] } } } }

/-- The running station in another state, as the regulator and the Allowance Unit know it. -/
def inState (st : StationState) : State :=
  { running with
    reg := { running.reg with station := st }
    alw := { running.alw with lastReport := { state := st, reasons := .empty } } }

/-- L1 with an open selection window. -/
def selected : State :=
  { running with links := { running.links with l1 := { running.links.l1 with selectLow := true, selecting := true } } }

theorem test_witness_StepOnAnEmptyQueue :
    (inReset.pending = [] ∧ inReset.held = true)
      ∧ (let s : State := { running with transit := [.upStep 1] }
         s.pending = [] ∧ s.held = false ∧ s.transit = .upStep 1 :: [])
      ∧ (let s := State.reset
         s.pending = [] ∧ s.held = false ∧ s.transit = [] ∧ earliest s.timers = some (250000, .bladeWindowEnd)
           ∧ s.now < 250000)
      ∧ (let s : State := { State.reset with now := 250000 }
         s.pending = [] ∧ s.held = false ∧ s.transit = [] ∧ earliest s.timers = some (250000, .bladeWindowEnd)
           ∧ 250000 ≤ s.now) := by decide +kernel

/-- The laws hold together of a busy station, which takes its next step. -/
theorem test_witness_StepKeeps :
    (∃ t, step busy = .next t) ∧ FreeInBlack busy ∧ BindingsAllowed busy ∧ BandsDivide busy ∧ BudgetHolds busy
      ∧ SawCommandsLaw busy :=
  ⟨step_next busy, by decide +kernel⟩
theorem test_witness_StepKeeps_claims : QueueLaws busy ∧ LineLaws busy := by decide +kernel
theorem test_witness_StepKeeps_claimFits : ∀ n : Fin 24, ClaimFits (busy.claim n) := by decide +kernel
theorem test_witness_StepKeeps_station : BallastLaws busy ∧ HistoryLaws busy ∧ ReasonsLaw busy := by decide +kernel
theorem test_witness_StepKeeps_timings : RegulatorTimingsLaw busy := by decide +kernel
theorem test_witness_StepKeeps_feeders : FeederLaws busy := by decide +kernel
theorem test_witness_StepKeeps_contactors : ContactorTimingsLaw busy := by decide +kernel
theorem test_witness_StepKeeps_links : LinkLaws busy ∧ ProposalsFit proposed := by decide +kernel

theorem test_witness_OutputsHeldOnce : OutputsHeldOnce busy := by decide +kernel

/-- Every output at both of its levels, and the levels a reset holds back. -/
theorem test_witness_OutputsClosedOnlyWhileCarried :
    (busy.carryEnable 4 = true ∧ busy.carryEnable 6 = false ∧ inReset.carryEnable 4 = false)
      ∧ (busy.auxClosed 0 = true ∧ busy.auxClosed 2 = false)
      ∧ (busy.feederDriven 0 = true ∧ busy.feederDriven 1 = false)
      ∧ (busy.lineDriven = true ∧ busy.deltaDriven = true ∧ busy.starDriven = false ∧ (sawIn .star).starDriven = true)
      ∧ (busy.fwdDriven = true ∧ busy.retDriven = false ∧ (sawIn .returning).retDriven = true)
      ∧ (busy.tripOutput = false
        ∧ State.tripOutput { busy with reg := { busy.reg with tripLatch := true } } = true)
      ∧ (busy.balHigh 0 = false ∧ busy.balHigh 1 = true ∧ inReset.balHigh 1 = false)
      ∧ (busy.attn .l1 = false ∧ (after (.dueEvent 2) { busy with alw := { busy.alw with
            line := [{ claim := 2, due := 0, amount := 180 }] } }).attn .l1 = true) := by
  decide +kernel

theorem test_witness_SharedTableChangesOnlyByAgreement :
    (exec (.confirm .l1 .bands) proposed = .next (after (.confirm .l1 .bands) proposed)
        ∧ (after (.confirm .l1 .bands) proposed).set.tables.bands ≠ proposed.set.tables.bands) :=
  ⟨rfl, by decide +kernel⟩

theorem test_witness_TripLatch :
    let s : State := { running with reg := { running.reg with tripLatch := true } }
    exec (.ackTrip .l1) s = .next (after (.ackTrip .l1) s) ∧ s.reg.tripLatch = true
      ∧ (after (.ackTrip .l1) s).reg.tripLatch = false := ⟨rfl, by decide +kernel⟩

theorem test_witness_OrderFrames :
    wellFormed (.claim .l1 charger) = true ∧ (encodeOrder (.claim .l1 charger)).isSome = true ∧ selected.held = false
      ∧ (selected.link .l1).selecting = true := by decide

/-- The window's frame with the reports of the link's loss on their way, and with none. -/
theorem test_witness_ValidFrameTakesItsOrder :
    let i : Instr := .withdraw .l1 1
    wellFormed i = true ∧ (encodeOrder i).isSome = true ∧ (lostWith .l1 busy).held = false
      ∧ ((lostWith .l1 busy).link .l1).selecting = true
      ∧ .linkLossReportAllowance .l1 ∈ (lostWith .l1 busy).transit ∧ .linkLossReportSaw .l1 ∈ (lostWith .l1 busy).transit
      ∧ .linkLossReportAllowance .l1 ∉ selected.transit ∧ (selected.link .l1).lost = false := by decide

theorem test_witness_FramesThatCarryNoOrder :
    ((running.link .l1).selectLow = false ∧ running.held = false)
      ∧ ((inReset.link .l1).selectLow = false ∧ inReset.held = true) ∧ (selected.link .l1).selectLow = true
      ∧ (selected.link .l1).discarded ≤ 255
      ∧ judgeFrame [0x09, 0x00, 0xBD] 0 = some (0x09, []) ∧ decodeOrder .l1 0x09 [] = .error .unknownOrder
      ∧ ([0x08, 0x00] : List Byte).length < 3 ∧ 24 < (([0x08, 0x19, 0x00] : List Byte).getD 1 0).toNat
      ∧ ([0x08, 0x00, 0x00, 0xA8] : List Byte).length ≠ 3
      ∧ ([0x08, 0x00, 0xA9] : List Byte).getLast? ≠ some (crc8 [0x08, 0x00]) := by decide +kernel

/-- SELECT rising with no window open; codes that are not known; and operands that are bad, at the ends of each range. -/
theorem test_witness_FramesThatCarryNoOrder_codes :
    (running.link .l1).selecting = false
      ∧ (decodeOrder .l1 0x09 [], decodeOrder .l1 0x0F [0], decodeOrder .l1 0x62 [], decodeOrder .l1 0xFF [])
        = (.error .unknownOrder, .error .unknownOrder, .error .unknownOrder, .error .unknownOrder)
      ∧ (decodeOrder .l1 0x02 [7, 255], decodeOrder .l1 0x02 [8, 0], decodeOrder .l1 0x02 [7])
        = (.ok (.setNoticeMask .l1 0x7FF), .error .badOperand, .error .badOperand)
      ∧ (decodeOrder .l1 0x31 [0], decodeOrder .l1 0x31 [1], decodeOrder .l1 0x31 [6], decodeOrder .l1 0x31 [7])
        = (.error .badOperand, .ok (.confirm .l1 .channels), .ok (.confirm .l1 .thresholds), .error .badOperand)
      ∧ (decodeOrder .l1 0x30 [4, 1, 1], decodeOrder .l1 0x30 [4, 1, 2])
        = (.ok (.readTable .l1 .bands 1 .proposed), .error .badOperand)
      ∧ (∀ b ∈ [0x00, 0x06, 0x11, 0x1C, 0x20], ∃ i, decodeOrder .l1 0x20 [0, 0, 1, 0, 0, 0, 0, 0, 0, 0, b, 0] = .ok i)
      ∧ ∀ b ∈ [0x07, 0x10, 0x1D, 0x1F, 0x21, 0xFF],
          decodeOrder .l1 0x20 [0, 0, 1, 0, 0, 0, 0, 0, 0, 0, b, 0] = .error .badOperand := by
  refine ⟨by decide, by decide, by decide, by decide, by decide, ?_, by decide⟩
  intro b hb
  fin_cases hb <;> exact ⟨_, rfl⟩

theorem test_witness_cycles :
    State.reset.held = false ∧ State.reset.reg.lastCrossing = none ∧ running.reg.lastCrossing = some 0
      ∧ cycleFrequency 25004 < 4000 ∧ 6000 < cycleFrequency 16665 ∧ cycleFrequency 25003 = 4000
      ∧ cycleFrequency 16666 = 6000 ∧ running.reg.inForce = running.set.tables.thresholds
      ∧ running.reg.ratings = running.set.tables.channels.rating ∧ running.reg.midpoint = some 10000
      ∧ RegulatorTimingsLaw running
      ∧ (let s : State := { running with reg := { running.reg with discardRun := 4 } }
         ¬ s.reg.discardRun + 1 < 5)
      ∧ (let s : State :=
           { running with
             set :=
               { running.set with
                 tables :=
                   { running.set.tables with
                     channels := { running.set.tables.channels with rating := #v[600, 0, 0, 0] }
                     thresholds := { running.set.tables.thresholds with shedDelay := 1 } } } }
         s.reg.inForce ≠ s.set.tables.thresholds ∧ s.reg.ratings ≠ s.set.tables.channels.rating
           ∧ s.reg.station ≠ .black ∧ RegulatorTimingsLaw s)
      ∧ ∀ st : Fin 5, (inState ([.black, .warming, .regulating, .deficit, .runaway][st.val])).reg.inForce
          = running.set.tables.thresholds := by decide +kernel

/-- Each timing runs in each state: what its expiry leads to, and the timing complete where the state stays. -/
theorem test_witness_TimingsMoveTheStation :
    let timed (st : StationState) (budget : Bool) : State :=
      { running with
        reg :=
          { running.reg with
            station := st, warmBand := .running 0, shed := .running 0, fast := .running 0, recovery := .running 0
            runaway := .running 0, trip := .running 0
            reasons := { frequency := false, budget := budget } } }
    let moved (i : Instr) (s : State) : StationState × Bool :=
      ((after i s).reg.station, (after i s).reg.reasons.frequency)
    (moved .warmBandExpiry (timed .warming false) = (.regulating, false) ∧ (timed .deficit true).held = false)
      ∧ (moved .shedTimingExpiry (timed .regulating false) = (.deficit, true)
        ∧ moved .fastTimingExpiry (timed .deficit true) = (.deficit, true)
        ∧ (after .fastTimingExpiry (timed .deficit true)).reg.fast = .complete 0)
      ∧ (moved .shedTimingExpiry (timed .runaway false) = (.runaway, false)
        ∧ (after .shedTimingExpiry (timed .runaway false)).reg.shed = .complete 0)
      ∧ (moved .recoveryTimingExpiry (timed .deficit false) = (.regulating, false)
        ∧ moved .recoveryTimingExpiry (timed .deficit true) = (.deficit, false)
        ∧ moved .recoveryTimingExpiry (timed .regulating false) = (.regulating, false))
      ∧ moved .runawayTimingExpiry (timed .regulating false) = (.runaway, false) := by decide +kernel

/-- At the test after a THRESHOLDS commit: no timing has reached its delay, and the recovery timing alone has. -/
theorem test_witness_TimingsMoveTheStation_test :
    let th := running.reg.inForce
    let late : State := { running with now := 2000000 }
    let r := running.reg
    (r.recovery = .running 0 ∧ ¬ 0 + 10 * th.recoveryTime ≤ running.clock ∧ 0 + 10 * th.recoveryTime ≤ late.clock)
      ∧ (r.warmBand = .stopped ∧ r.shed = .stopped ∧ r.fast = .stopped ∧ r.runaway = .stopped ∧ r.trip = .stopped)
      ∧ 0 < th.tripDelay ∧ 0 < th.warmUp ∧ 0 < th.shedDelay ∧ 0 < th.fastDelay ∧ 0 < th.recoveryTime
      ∧ 0 < th.runawayDelay ∧ late.expireReached ≠ late ∧ running.expireReached = running := by decide +kernel

theorem test_witness_RequestsAtTheRegulator :
    (inState .runaway).reg.station = .runaway
      ∧ (let s : State := { short with reg := { short.reg with recovery := .complete 0 } }
         s.reg.station = .deficit ∧ s.reg.recovery.isComplete = true)
      ∧ short.reg.station = .deficit ∧ short.reg.recovery.isComplete = false ∧ short.held = false := by decide

theorem test_witness_claims :
    (busy.claim 3).state = .free ∧ (busy.claim 1).state = .waiting ∧ (busy.claim 6).state = .pending
      ∧ (busy.claim 0).state = .carried ∧ (busy.claim 1).waitDeadline = some 3000 ∧ busy.alw.queue.head? = some 1
      ∧ (busy.claim 2).surgeEnd = some 200 ∧ (busy.claim 2).runAmount = some 120
      ∧ (busy.claim 4).surgeEnded = some false ∧ (busy.claim 4).runAmount = some 200
      ∧ busy.alw.line.find? (fun x => x.claim = 6) = some { claim := 6, due := 100, amount := 60 }
      ∧ busy.alw.line.find? (fun x => x.claim = 0) = none ∧ busy.headPasses 1 = false := by decide +kernel

/-- A head that passes every condition, and heads that fail one each. -/
theorem test_witness_ConsiderationAdmitsTheHead :
    let waits (amount : Nat) (s : State) : State :=
      { s with alw := { s.alw with claims := s.alw.claims.set 1 (used .waiting amount .nothing), queue := [1] } }
    (waits 1100 running).headPasses 1 = true ∧ (waits 1101 running).headPasses 1 = false
      ∧ (waits 100 { running with alw := { running.alw with stale := true } }).headPasses 1 = false
      ∧ (waits 100 (inState .deficit)).headPasses 1 = false ∧ (waits 100 (inState .runaway)).headPasses 1 = true
      ∧ (waits 101 { running with alw := { running.alw with bands := { h := 400, w := 0, c := 100 } } }).headPasses 1
        = false := by decide +kernel

/-- A down step and an up step on their way, outside BLACK and in it; the oldest arrives, behind another message. -/
theorem test_witness_ConsiderationAdmitsTheHead_water :
    let s : State := { busy with transit := [.surgeEndRequest, .downStep 60, .upStep 600] }
    s.held = false ∧ s.reg.station ≠ .black ∧ s.transit = [.surgeEndRequest] ++ .downStep 60 :: [.upStep 600]
      ∧ s.demandDue = 1200 ∧ (after (.downStep 60) s).waterBc = s.waterBc
      ∧ surgeEnded.transit = [] ++ .upStep 1600 :: [] ∧ (after (.upStep 1600) surgeEnded).waterBc = surgeEnded.waterBc
      ∧ State.waterBc { State.reset with transit := [.downStep 60] } = State.reset.bc ∧ busy.waterBc = busy.bc := by
  decide +kernel

theorem test_witness_MarkIsPlaced :
    let line : List Mark := [{ claim := 0, due := 60, amount := 1 }, { claim := 1, due := 85, amount := 1 }]
    line.Pairwise (fun a b => a.due + 25 ≤ b.due) ∧ line.length ≤ 3 ∧ placeMark 40 line = 110 := by decide

/-- CLAIM: the operands at their bounds, and states for each check that fails. -/
theorem test_witness_ClaimIsChecked :
    (2 : Fin 24) ∈ freeClaims .l1 ∧ (running.claim 2).state = .free ∧ running.reported ≠ .black
      ∧ State.reset.reported = .black ∧ (∀ m ∈ freeClaims .l1, m.val ≠ 4) ∧ (busy.claim 2).state ≠ .free
      ∧ ClaimOperandsSound 2 charger = true ∧ ClaimOperandsSound 2 { charger with amount := 9999 } = true
      ∧ ClaimOperandsSound 2 { charger with amount := 10000 } = false
      ∧ ClaimOperandsSound 2 { charger with runAmount := some 180, surgeTime := some 600, leadTime := 50
                                            waitLimit := some 300 } = true
      ∧ ClaimOperandsSound 2 { charger with surgeTime := some 601 } = false
      ∧ ClaimOperandsSound 2 { charger with runAmount := none } = false
      ∧ ClaimOperandsSound 2 { charger with leadTime := 51 } = false
      ∧ ClaimOperandsSound 2 { charger with waitLimit := some 301 } = false
      ∧ ClaimOperandsSound 2 { charger with binding := .aux 2 } = false ∧ busy.outputHeld (.aux 0) = true
      ∧ busy.outputHeld (.aux 4) = false := by decide +kernel

theorem test_witness_stations :
    ClaimTableLaws busy ∧ busy.held = false ∧ busy.alw.line ≠ [] ∧ (6 : Fin 24) ∈ freeClaims .l2
      ∧ (1 : Fin 24) ∈ freeClaims .l1 ∧ busy.reported ≠ .black := by decide +kernel

/-- Entry to BLACK and to DEFICIT: marks with the end request of a shed step on its way and without; what is sent. -/
theorem test_witness_StationChangeAtTheClaims :
    let black := after (.allowanceStateReport { left := .regulating, entered := .black, reasons := .empty }) busy
    (ClaimTableLaws shedFirst ∧ shedFirst.held = false ∧ (shedFirst.claim 12).state = .pending
        ∧ .endRequest 12 .shed ∈ shedFirst.transit ∧ .endRequest 6 .shed ∉ shedFirst.transit)
      ∧ black.transit =
        [.upStep 100, .upStep 180, .upStep 300, .sawEndingReport .motor .cancelled, .upStep 50,
         .sawEndingReport .carriage .cancelled, .leadLineReport .empty, .upStep 100, .feederEndingReport 0 .cancelled] := by
  decide +kernel

/-- The loss of L2 empties the line, in REGULATING and in DEFICIT; that of L1 leaves it; that of L3 finds nothing. -/
theorem test_witness_LinkLossAtTheClaims :
    ClaimTableLaws short ∧ short.reported = .deficit ∧ busy.reported ≠ .deficit
      ∧ (after (.linkLossReportAllowance .l2) short).alw.line = [] ∧ short.alw.line ≠ []
      ∧ (after (.linkLossReportAllowance .l1) short).alw.line = short.alw.line
      ∧ (after (.linkLossReportAllowance .l1) short).alw.queue ≠ short.alw.queue
      ∧ (after (.linkLossReportAllowance .l3) busy).alw = busy.alw := by decide +kernel

theorem test_witness_budget :
    running.need ≤ running.alw.bands.c
      ∧ (let s : State := { busy with alw := { busy.alw with bands := { h := 0, w := 0, c := 0 } } }
         s.alw.bands.c < s.need ∧ s.alw.budgetRaised = false)
      ∧ (let s : State := { busy with alw := { busy.alw with budgetRaised := true } }
         s.need ≤ s.alw.bands.c ∧ s.alw.budgetRaised = true) := by decide +kernel

theorem test_witness_feeders :
    (running.feederConfig 0).rating ≠ 0 ∧ (running.feederConfig 1).rating = 0 ∧ (running.feeder 0).state = .off
      ∧ running.claimRequestStatus 12 100 none = .ok ∧ (inState .black).claimRequestStatus 12 100 none = .stationBlack
      ∧ (feederIn .pending).held = false ∧ (feederIn (.fault .welded)).pins.fb[0] = true
      ∧ (feederIn .locked).set.key = .keyRemote
      ∧ (let s := feederIn .waiting
         let t : State := { s with fdr := { s.fdr with cursor := .restoring 0 } }
         t.fdr.cursor = .restoring 0 ∧ (t.feeder 0).state = .waiting)
      ∧ (busy.feeder 0).state = .on ∧ busy.feederDriven 0 = true ∧ (busy.feeder 0).follow.isComplete = true
      ∧ busy.pins.fb[0] = true := by decide +kernel

/-- The feeder orders from L1, and for the numbers beside F1 and F12. -/
theorem test_witness_FeederOrders_range :
    let told (l : Link) (i : Instr) : Option Status := ((after i running).link l).buffer.map Reply.status
    [told .l1 (.feederOn .l1 0), told .l1 (.feederOn .l1 13), told .l2 (.feederOff .l2 1), told .l1 (.feederClear .l1 0)]
        = [some .notYourField, some .notYourField, some .notYourField, some .notYourField]
      ∧ [told .l3 (.feederOn .l3 0), told .l3 (.feederOn .l3 13), told .l3 (.feederOff .l3 0),
          told .l3 (.feederClear .l3 13), told .l1 (.readFeeder .l1 0), told .l1 (.readFeeder .l1 13)]
        = [some .badOperand, some .badOperand, some .badOperand, some .badOperand, some .badOperand, some .badOperand]
      ∧ told .l3 (.feederOff .l3 12) = some .wrongState ∧ told .l1 (.readFeeder .l1 12) = some .ok := by decide +kernel

/-- The restoring feeder waits, with the report of its cancellation on its way and without; and with that of its expiry,
which stops nothing: it is given up (R130). With its carried report on its way it is ON, and keeps its claim. -/
theorem test_witness_StationChangeAtTheFeeders :
    let s : State := { feederIn .pending with fdr := { (feederIn .pending).fdr with cursor := .restoring 0 } }
    let t : State := { s with transit := [.feederEndingReport 0 .cancelled] }
    let u : State := { s with transit := [.feederEndingReport 0 .expired] }
    let v : State := { s with transit := [.feederCarriedReport 0] }
    (s.held = false ∧ s.fdr.cursor = .restoring 0 ∧ (s.feeder 0).state = .pending ∧ s.cancellationAwaits 0 = false
        ∧ t.cancellationAwaits 0 = true ∧ u.cancellationAwaits 0 = false)
      ∧ (s.targetActive (.feeder 0) = true ∧ t.targetActive (.feeder 0) = false ∧ u.targetActive (.feeder 0) = true)
      ∧ (((after (.feederStateReport deficitEntry) u).feeder 0).state = .shed
        ∧ ((after (.feederStateReport deficitEntry) t).feeder 0).state = .pending)
      ∧ (v.dueTaken 0 = true ∧ s.dueTaken 0 = false
        ∧ ((after (.feederStateReport deficitEntry) v).feeder 0).state = .on
        ∧ (after (.feederStateReport deficitEntry) v).fdr.cursor = .idle
        ∧ (after (.feederStateReport deficitEntry) v).transit = []) := by decide +kernel

/-- Between the marks, below the fast threshold; and at the full mark, which is no longer between them. -/
theorem test_witness_ShedSteps_between :
    let at_ (now : Nat) : State :=
      { short with
        now := now, reg := { short.reg with history := [4700] }
        fdr := { short.fdr with step := .running 0 100 true } }
    (at_ 500000).belowFast = true ∧ (at_ 500000).clock < 0 + 100 ∧ ¬ (at_ 1000000).clock < 0 + 100
      ∧ (at_ 500000).stepBetweenMarks.fdr.step = .running 50 100 false := by decide +kernel

theorem test_witness_shedding :
    short.reg.reasons ≠ .empty ∧ shedList short.set.tables.shedOrder = .saw .feedHold :: shedList
        { Vector.replicate 16 none with } ++ (shedList short.set.tables.shedOrder).drop 1
      ∧ short.targetEffective (.saw .feedHold) = true ∧ short.targetEffective (.feeder 5) = false
      ∧ short.fdr.step = .running 0 100 false ∧ short.belowFast = false
      ∧ (let s : State := { short with reg := { short.reg with history := [4700] } }
         s.belowFast = true)
      ∧ (short.claim 11).state ≠ .carried ∧ (short.claim 2).state = .carried := by decide +kernel

/-- F1 and F2 are SHED, F1 of the lower rank; and the cursor holds or pauses. -/
theorem test_witness_restoration :
    let shed : Feeder := { Feeder.initial (.default 1) with state := .shed }
    let s : State :=
      { running with fdr := { running.fdr with feeders := (running.fdr.feeders.set 0 shed).set 1 shed, cursor := .hold 5 } }
    s.lowestShed = some 0 ∧ s.held = false ∧ s.fdr.cursor = .hold 5
      ∧ s.claimRequestStatus 12 (s.feederConfig 0).rating none = .ok
      ∧ (s.feederConfig 0).rank < (s.feederConfig 1).rank := by decide +kernel

theorem test_witness_saw :
    (let s : State := { running with saw := { running.saw with bladeQuiet := true } }
     s.saw.state = .stopped ∧ s.claimRequestStatus 4 2400 (some 800) = .ok)
      ∧ sawTargetActive .stop (sawIn .startWait).saw.state = true ∧ sawTargetActive .stop .stopping = false
      ∧ (sawIn .run).held = false ∧ (sawIn (.feedHold .shed .back)).pins.retEnd = false
      ∧ running.claimRequestStatus 5 600 none = .ok
      ∧ (let s : State := { sawIn .run with saw := { (sawIn .run).saw with stallRun := 2, pulses := 2 } }
         s.saw.state.stallWatched = true ∧ bladeSpeed 2 40 < 70)
      ∧ (sawIn .feeding).saw.state.direction = some .forward
      ∧ (let s : State := { sawIn .changeover with saw := { (sawIn .changeover).saw with starDisagree := some 0 } }
         s.saw.disagree .star = some 0 ∧ s.saw.state.isFault = false) := by decide +kernel

/-- Each timing of the saw runs; the star-time expiry finds a fast blade, a slow one, and a window end with it. -/
theorem test_witness_SawBladeAndTimings :
    let timed (st : SawState) (timing : SawUnit → SawUnit) : State :=
      { sawIn st with saw := timing (sawIn st).saw }
    ((starting 9).held = false ∧ (starting 9).saw.starTime = some 50
        ∧ ¬ (starting 9).set.tables.saw.start.startStallLevel ≤ (starting 9).saw.speed
        ∧ (after .starTimeExpiry (timed .star fun u => { u with starTime := some 50, speed := 60 })).saw.state
          = .changeover)
      ∧ (after .deadTimeExpiry (timed .changeover fun u => { u with deadTime := some 5 })).saw.state = .run
      ∧ (after .overloadTimingExpiry (timed .feeding fun u => { u with overload := some 5 })).saw.state
        = .feedHold .overload .forward
      ∧ (after .resumeTimingExpiry (timed (.feedHold .overload .forward) fun u => { u with resume := some 5 })).saw.state
        = .feeding
      ∧ (let s := sawIn .run
         s.saw.starTime = none ∧ s.saw.deadTime = none ∧ s.saw.overload = none ∧ s.saw.resume = none) := by
  decide +kernel

/-- Both limits active, with the saw running and in FAULT; the end limit of a feed; a reset held. -/
theorem test_witness_SawInputs :
    let both (st : SawState) : State := { sawIn st with pins := { (sawIn st).pins with fwdEnd := true } }
    ((both .feeding).held = false ∧ ((both .feeding).pins.setLimit .retEnd true).fwdEnd = true
        ∧ ((both .feeding).pins.setLimit .retEnd true).retEnd = true
        ∧ (after (.limitChange .retEnd true) (both .feeding)).saw.state = .fault .limit)
      ∧ (after (.limitChange .retEnd true) (both (.fault .stall))).saw.state = .fault .stall
      ∧ (((sawIn .feeding).pins.setLimit .fwdEnd true).retEnd = false
        ∧ (after (.limitChange .fwdEnd true) (sawIn .feeding)).saw.state = .run)
      ∧ (inReset.held = true ∧ (after (.limitChange .fwdEnd true) inReset).pins.fwdEnd = true
        ∧ (after (.estopChange true) inReset).saw.state = .stopped
        ∧ (after (.sawFeedbackChange .star true) inReset).pins.starFb = true) := by decide +kernel

/-- The discrepancy is judged with and without a capacity, and not in BLACK. -/
theorem test_witness_discrepancy :
    let none_ : State := { running with reg := { running.reg with ratings := #v[0, 0, 0, 0] } }
    let off : State := { running with meas := { running.meas with pb := 899 } }
    State.reset.meas.lastReport.state = .black ∧ none_.meas.lastReport.state ≠ .black ∧ none_.capacity = 0
      ∧ running.capacity = 1200 ∧ off.judgeDiscrepancy.meas.divergence = .running 0
      ∧ running.judgeDiscrepancy.meas.agreement = .running 0
      ∧ (State.judgeDiscrepancy { off with meas := { off.meas with pb := 900 } }).meas.divergence = .stopped
      ∧ running.meas.divergence = .stopped ∧ running.meas.agreement = .stopped := by decide +kernel

theorem test_witness_measurement :
    let s : State :=
      { running with
        meas :=
          { running.meas with
            captures := { running.meas.captures with l1 := some { count := 9, filtered := 0, pg := 0, pb := 0, ps := 0 } }
            snapshots := { running.meas.snapshots with l2 := { Snapshot.initial with ready := true } }
            divergence := .running 0, agreement := .running 0 } }
    (s.meas.captures.get .l1).isSome = true ∧ (s.meas.snapshots.get .l2).ready = true
      ∧ (s.meas.snapshots.get .l3).ready = false ∧ s.meas.captures.get .l3 = none
      ∧ s.meas.lastReport.state ≠ .black ∧ State.reset.meas.lastReport.state = .black := by decide

theorem test_witness_settings :
    proposed.set.proposal .bands = some { copy := .bands { hres := 900, wres := 600 }, proposer := .l3, expiry := 500 }
      ∧ proposed.set.proposal .shedOrder = none ∧ sharedOf .bands = some .bands ∧ sharedOf .saw = none
      ∧ proposed.committedFits (.bands { hres := 900, wres := 600 }) = true
      ∧ (let s : State := { busy with alw := { busy.alw with d := 600 } }
         s.committedFits (.bands { hres := 900, wres := 600 }) = false)
      ∧ tableFrom .bands [[3, 132, 2, 88]] = some (.bands { hres := 900, wres := 600 })
      ∧ tableFrom .bands [[255, 255, 0, 0]] = none ∧ (proposed.link .l2).window.isSome = true
      ∧ recordSize .bands 1 = 4 ∧ busy.liveStateAllows (.saw .default) = false := by decide +kernel

theorem test_witness_windows :
    tableOwner .channels = some .l1 ∧ tableOwner .bands = none ∧ recordCount .shedOrder = 16 ∧ running.held = false := by
  decide

theorem test_witness_supervision :
    let s : State :=
      { running with
        links :=
          { running.links with l1 := { running.links.l1 with supervision := some { period := 20, deadline := some 200 } } } }
    (s.link .l1).lost = false ∧ (s.link .l1).supervision = some { period := 20, deadline := some 200 }
      ∧ (s.link .l2).supervision.bind Supervision.deadline = none := by decide

theorem test_witness_resets :
    inReset.held = true ∧ running.held = false
      ∧ (let s : State := { inReset with pins := { inReset.pins with estop := true } }
         s.held = true ∧ s.pins.estop = true)
      ∧ (let s : State := { inReset with pins := { inReset.pins with fwdEnd := true, retEnd := true } }
         s.held = true ∧ s.pins.estop = false
           ∧ (after (.resetRelease true) s).saw.state = .fault .limit
           ∧ (after (.resetRelease true) { s with pins := { s.pins with estop := true } }).saw.state = .fault .estop)
      ∧ inReset.pins.fb[0] = true ∧ (inReset.feeder 0).close = false := by decide +kernel

/-- READ FEEDER and READ TABLE at the ends of their ranges, and a LOST link. -/
theorem test_witness_reads :
    recordCount .bands = 1 ∧ recordCount .shedOrder = 16 ∧ running.held = false
      ∧ (running.link .l1).lost = false
      ∧ (let s : State := { running with links := { running.links with l1 := { running.links.l1 with lost := true } } }
         (s.link .l1).lost = true) := by decide

/-- Tables at the ends of their ranges, and beside them; and what the live state of an owner allows. -/
theorem test_witness_loads :
    (tableFrom .channels [[5, 220], [0, 0], [0, 0], [0, 0], [7, 208, 255]]).isSome = true
      ∧ tableFrom .channels [[5, 221], [0, 0], [0, 0], [0, 0], [7, 208, 255]] = none
      ∧ tableFrom .channels [[5, 220], [0, 0], [0, 0], [0, 0], [7, 208, 0]] = none
      ∧ tableFrom .thresholds [] = none
      ∧ tableFrom .thresholds (tableBytes (.thresholds .default)) = some (.thresholds .default)
      ∧ tableFrom .feeders (tableBytes (.feeders feedersDefault)) = some (.feeders feedersDefault)
      ∧ (sawIn .run).liveStateAllows (.saw .default) = true ∧ (sawIn .star).liveStateAllows (.saw .default) = false
      ∧ (feederIn .on).liveStateAllows (.feeders feedersDefault) = false
      ∧ (feederIn .locked).liveStateAllows (.feeders feedersDefault) = true := by decide +kernel

end Sys2Proof.Tests
end

namespace Sys2Proof.Machine

/-! ### The TRIP latch (R16, R17)

Each operation on the latch has an equation per case; how its command runs is the command's effect on the state it finds,
since no reset is held. -/

/-- R16: setting the latch announces TRIP on every link only where the latch was clear. -/
theorem setTrip_eq (s : State) :
    s.setTrip =
      { s with
        reg := { s.reg with tripLatch := true }
        links := if s.reg.tripLatch then s.links else (s.addNotices [.l1, .l2, .l3] .trip).links } := by
  cases hlatch : s.reg.tripLatch with
  | true =>
    have latched : { s.reg with tripLatch := true } = s.reg := by rw [← hlatch]
    simp [State.setTrip, hlatch, latched]
  | false =>
    rw [State.setTrip, hlatch]
    rfl

/-- R5, R16: the expiry of a running trip timing takes place at the timing's own moment, leaves it complete and sets the
latch. -/
theorem expireTrip_of_running {s : State} {since : Nat} (h : s.reg.trip = .running since) :
    s.expireTrip =
      State.setTrip
        { s with
          now := max s.now ((since + 10 * s.reg.inForce.tripDelay) * 10000)
          reg := { s.reg with trip := .complete since } } := by
  simp [State.expireTrip, h, Timing.start?, Timing.expire, State.expireAt, State.reachTick, State.reach,
    Config.microsPerTick, Nat.mul_comm 10]

theorem exec_tripTimingExpiry {s : State} (h : s.held = false) : exec .tripTimingExpiry s = .next s.expireTrip :=
  whenReleased_running h

/-! ### ACK TRIP by its conditions (R17) -/

theorem ackTrip_of_other_link (s : State) {l : Link} (h : l ≠ .l1) : s.ackTrip l = (s, .notYourField) := if_pos h

theorem ackTrip_in_runaway {s : State} (h : s.reg.station = .runaway) : s.ackTrip .l1 = (s, .wrongState) := by
  simp [State.ackTrip, h]

theorem ackTrip_of_clear {s : State} (hst : s.reg.station ≠ .runaway) (h : s.reg.tripLatch = false) :
    s.ackTrip .l1 = (s, .ok) := by
  simp [State.ackTrip, hst, h]

theorem ackTrip_of_latched {s : State} (hst : s.reg.station ≠ .runaway) (h : s.reg.tripLatch = true) :
    s.ackTrip .l1 =
      ({ s with
          reg :=
            { s.reg with
              tripLatch := false
              trip := if s.tripCondition then .running s.clock else .stopped } }, .ok) := by
  simp [State.ackTrip, hst, h]

/-- The order is taken on its arrival, and its link is answered with the status that it earns there. -/
theorem exec_ackTrip {s t : State} {l : Link} {st : Status} (h : s.held = false)
    (hack : (s.arrive (.ackTrip l)).ackTrip l = (t, st)) : exec (.ackTrip l) s = .next (t.answer l 0x10 st) := by
  calc exec (.ackTrip l) s
      = .next ((((s.arrive (.ackTrip l)).ackTrip l).1).answer l 0x10 ((s.arrive (.ackTrip l)).ackTrip l).2) :=
        whenReleased_arrive_running (effect := fun u => (u.ackTrip l).1.answer l 0x10 (u.ackTrip l).2) h
    _ = .next (t.answer l 0x10 st) := by rw [hack]

/-- Settles O22: the expiry by `setTrip_eq`, and the order by the four cases of R17. -/
theorem tripLatchAndItsOrder : Obligations.TripLatchAndItsOrder := by
  intro s held
  refine ⟨?expiry, ?otherLink, ?inRunaway, ?clear, ?latched⟩
  case expiry =>
    intro since running
    rw [exec_tripTimingExpiry held, expireTrip_of_running running, setTrip_eq]
    rfl
  case otherLink => exact fun l other => exec_ackTrip held (ackTrip_of_other_link _ other)
  case inRunaway => exact fun runaway => exec_ackTrip held (ackTrip_in_runaway runaway)
  case clear => exact fun station clear => exec_ackTrip held (ackTrip_of_clear station clear)
  case latched => exact fun station latched => exec_ackTrip held (ackTrip_of_latched station latched)

end Sys2Proof.Machine

namespace Sys2Proof.Machine

/-! ### The split of READ CLAIM (R58)

A band is given out along a list of claims in ascending order. What the claims of a list receive together is the lesser of
what they have committed and the band, so what has been given and what has been committed leave the same remainder. -/

/-- What claim n receives of a band that is given out along a list of claims: the lesser of its committed amount and what
the claims before it have left. -/
def State.bandShare (s : State) (band : Nat) (ns : List (Fin 24)) (n : Fin 24) : Nat :=
  min (s.claim n).committed (band - s.committedOf (ns.filter fun m => m.val < n.val))

/-- The own portion of a claim is its share of its group's band. -/
theorem ownPortion_eq_bandShare (s : State) (n : Fin 24) :
    s.ownPortion n = s.bandShare (s.ownBand (groupOf n)) (groupOf n).claims n := rfl

@[simp] theorem committedOf_nil (s : State) : s.committedOf [] = 0 := rfl

@[simp] theorem committedOf_cons (s : State) (n : Fin 24) (ns : List (Fin 24)) :
    s.committedOf (n :: ns) = (s.claim n).committed + s.committedOf ns := by simp [State.committedOf]

/-- The first claim of an ascending list finds the whole band. -/
theorem bandShare_head (s : State) (band : Nat) {n : Fin 24} {ns : List (Fin 24)} (first : ∀ m ∈ ns, n < m) :
    s.bandShare band (n :: ns) n = min (s.claim n).committed band := by
  have noneBefore : ((n :: ns).filter fun m => m.val < n.val) = [] := by
    simpa using fun m hm => (first m hm).le
  rw [State.bandShare, noneBefore, committedOf_nil, Nat.sub_zero]

/-- A later claim of an ascending list finds what the first one has left. -/
theorem bandShare_tail (s : State) (band : Nat) {n m : Fin 24} (ns : List (Fin 24)) (later : n < m) :
    s.bandShare band (n :: ns) m = s.bandShare (band - (s.claim n).committed) ns m := by
  simp [State.bandShare, later, Nat.sub_add_eq]

/-- The claims of an ascending list receive together the lesser of what they have committed and the band. -/
theorem sum_bandShare (s : State) {ns : List (Fin 24)} (ascending : ns.Pairwise (· < ·)) (band : Nat) :
    (ns.map (s.bandShare band ns)).sum = min (s.committedOf ns) band := by
  induction ns generalizing band with
  | nil => simp
  | cons n ns ih =>
    obtain ⟨first, rest⟩ := List.pairwise_cons.1 ascending
    have tail : ns.map (s.bandShare band (n :: ns)) = ns.map (s.bandShare (band - (s.claim n).committed) ns) :=
      List.map_congr_left fun m hm => bandShare_tail s band ns (first m hm)
    rw [List.map_cons, List.sum_cons, bandShare_head s band first, tail, ih rest, committedOf_cons]
    omega

/-- The claims of a list that come before one of its own receive the same, whether or not the list goes on. -/
theorem bandShare_filter_lt (s : State) (band : Nat) (ns : List (Fin 24)) {n m : Fin 24} (before : m < n) :
    s.bandShare band (ns.filter fun k => k.val < n.val) m = s.bandShare band ns m := by
  have same : ((ns.filter fun k => k.val < n.val).filter fun k => k.val < m.val) = ns.filter fun k => k.val < m.val := by
    rw [List.filter_filter]
    exact List.filter_congr fun k _ => by simpa using fun h : k < m => h.trans before
  simp only [State.bandShare, same]

/-! ### The groups of the Claim Table (R39) -/

theorem groupOf_of_mem_claims {g : Group} {n : Fin 24} (h : n ∈ g.claims) : groupOf n = g := by
  have table : ∀ n ∈ g.claims, groupOf n = g := by cases g <;> decide
  exact table n h

theorem claims_ascending (g : Group) : g.claims.Pairwise (· < ·) := by cases g <;> decide

theorem map_ownPortion (s : State) {g : Group} {ns : List (Fin 24)} (sub : ∀ n ∈ ns, n ∈ g.claims) :
    ns.map s.ownPortion = ns.map (s.bandShare (s.ownBand g) g.claims) :=
  List.map_congr_left fun n hn => by rw [ownPortion_eq_bandShare, groupOf_of_mem_claims (sub n hn)]

/-! ### Own and common portions -/

theorem ownPortion_le_committed (s : State) (n : Fin 24) : s.ownPortion n ≤ (s.claim n).committed := Nat.min_le_left _ _

theorem ownPortion_add_commonPortion (s : State) (n : Fin 24) :
    s.ownPortion n + s.commonPortion n = (s.claim n).committed :=
  Nat.add_sub_cancel' (ownPortion_le_committed s n)

/-- R41: a claim that is FREE or WAITING has committed nothing. -/
theorem committed_of_free_or_waiting {c : Claim} (h : c.state = .free ∨ c.state = .waiting) : c.committed = 0 := by
  rcases h with h | h <;> simp [Claim.committed, h]

/-- The own portions of a group add up to what its band covers. -/
theorem sum_ownPortion (s : State) (g : Group) :
    (g.claims.map s.ownPortion).sum = min (s.committedOf g.claims) (s.ownBand g) := by
  rw [map_ownPortion s fun _ h => h, sum_bandShare s (claims_ascending g)]

/-- The own portions before a claim add up to what the band covers of the claims before it. -/
theorem sum_ownPortion_before (s : State) (g : Group) (n : Fin 24) :
    ((g.claims.filter fun m => m.val < n.val).map s.ownPortion).sum =
      min (s.committedOf (g.claims.filter fun m => m.val < n.val)) (s.ownBand g) := by
  have cut : (g.claims.filter fun m => m.val < n.val).map (s.bandShare (s.ownBand g) g.claims) =
      (g.claims.filter fun m => m.val < n.val).map
        (s.bandShare (s.ownBand g) (g.claims.filter fun m => m.val < n.val)) :=
    List.map_congr_left fun m hm =>
      (bandShare_filter_lt s _ _ (Fin.lt_def.2 (by simpa using (List.mem_filter.1 hm).2))).symm
  rw [map_ownPortion s fun m hm => (List.mem_filter.1 hm).1, cut, sum_bandShare s ((claims_ascending g).filter _)]

/-- A claim receives the lesser of its committed amount and what remains of the band after the portions given before it. -/
theorem ownPortion_eq_min_remainder (s : State) {g : Group} {n : Fin 24} (h : n ∈ g.claims) :
    s.ownPortion n =
      min (s.claim n).committed
        (s.ownBand g - ((g.claims.filter fun m => m.val < n.val).map s.ownPortion).sum) := by
  rw [sum_ownPortion_before, ownPortion_eq_bandShare, groupOf_of_mem_claims h, State.bandShare]
  omega

/-- The common portions of a group add up to what it has committed beyond its band. -/
theorem sum_commonPortion (s : State) (g : Group) :
    (g.claims.map s.commonPortion).sum = s.committedOf g.claims - s.ownBand g := by
  have total : (g.claims.map s.ownPortion).sum + (g.claims.map s.commonPortion).sum = s.committedOf g.claims := by
    simp only [← List.sum_map_add, ownPortion_add_commonPortion, State.committedOf]
  rw [sum_ownPortion] at total
  omega

/-- Settles O55: each group's clauses are `ownPortion_eq_min_remainder` and `sum_commonPortion`, the supply group's with no
band of its own. -/
theorem claimSplitAddsUpToTheNeed : Obligations.ClaimSplitAddsUpToTheNeed := by
  intro s
  refine ⟨ownPortion_add_commonPortion s, ?hamlet, ?saw, ?supply, ?uncommitted, ?hamletSum, ?sawSum, ?supplySum⟩
  case hamlet => exact fun n hn => ownPortion_eq_min_remainder s hn
  case saw => exact fun n hn => ownPortion_eq_min_remainder s hn
  case supply =>
    intro n hn
    rw [ownPortion_eq_min_remainder s hn]
    simp [State.ownBand]
  case uncommitted =>
    intro n hn
    have split := ownPortion_add_commonPortion s n
    rw [committed_of_free_or_waiting hn] at split
    exact Nat.add_eq_zero_iff.1 split
  case hamletSum => exact sum_commonPortion s .hamlet
  case sawSum => exact sum_commonPortion s .saw
  case supplySum => exact sum_commonPortion s .supply

/-! ### WITHDRAW and RELEASE by the claim's state (R51, R52) -/

theorem withdrawEffect_of_other_field {l : Link} {k : Nat} (s : State) (h : ∀ m ∈ freeClaims l, m.val ≠ k) :
    withdrawEffect l k s = s.answer l 0x21 .notYourField := by
  simp [withdrawEffect, claimInField_none h]

theorem withdrawEffect_of_unconnected {l : Link} {n : Fin 24} {s : State} (hn : n ∈ freeClaims l)
    (h : (s.claim n).state = .waiting ∨ (s.claim n).state = .pending) :
    withdrawEffect l n.val s = (s.endClaim n .withdrawn).answer l 0x21 .ok := by
  rcases h with h | h <;> simp [withdrawEffect, claimInField_some hn rfl, h]

theorem withdrawEffect_of_carried_or_free {l : Link} {n : Fin 24} {s : State} (hn : n ∈ freeClaims l)
    (h : (s.claim n).state = .carried ∨ (s.claim n).state = .free) :
    withdrawEffect l n.val s = s.answer l 0x21 .wrongState := by
  rcases h with h | h <;> simp [withdrawEffect, claimInField_some hn rfl, h]

theorem releaseEffect_of_other_field {l : Link} {k : Nat} (s : State) (h : ∀ m ∈ freeClaims l, m.val ≠ k) :
    releaseEffect l k s = s.answer l 0x22 .notYourField := by
  simp [releaseEffect, claimInField_none h]

theorem releaseEffect_of_carried {l : Link} {n : Fin 24} {s : State} (hn : n ∈ freeClaims l)
    (h : (s.claim n).state = .carried) :
    releaseEffect l n.val s = (s.endClaim n .released).answer l 0x22 .ok := by
  simp [releaseEffect, claimInField_some hn rfl, h]

theorem releaseEffect_of_not_carried {l : Link} {n : Fin 24} {s : State} (hn : n ∈ freeClaims l)
    (h : (s.claim n).state ≠ .carried) :
    releaseEffect l n.val s = s.answer l 0x22 .wrongState := by
  cases state : (s.claim n).state with
  | carried => exact absurd state h
  | free | waiting | pending => simp [releaseEffect, claimInField_some hn rfl, state]

/-- An order is taken on its arrival. -/
theorem exec_withdraw {s t : State} {l : Link} {k : Nat} (h : s.held = false)
    (effect : withdrawEffect l k (s.arrive (.withdraw l k)) = t) : exec (.withdraw l k) s = .next t :=
  effect ▸ whenReleased_arrive_running h

theorem exec_release {s t : State} {l : Link} {k : Nat} (h : s.held = false)
    (effect : releaseEffect l k (s.arrive (.release l k)) = t) : exec (.release l k) s = .next t :=
  effect ▸ whenReleased_arrive_running h

/-! ### What a CARRIED claim leaves (R45, R50) -/

/-- R50: a CARRIED claim that is let go steps its committed amount up. -/
theorem letGo_transit_of_carried {s : State} {n : Fin 24} (o : Ending) (h : (s.claim n).state = .carried) :
    (s.letGo n o).transit = s.transit ++ [.upStep (s.claim n).committed] := by
  unfold State.letGo
  simp only [h]
  split <;> rfl

theorem auxClosed_eq_false_iff (s : State) (x : Fin 6) :
    s.auxClosed x = false ↔ ∀ n : Fin 24, s.carryEnable n = true → (s.claim n).binding ≠ .aux x := by
  have every : ∀ n : Fin 24, n ∈ allClaims := by decide
  simp [State.auxClosed, every]

/-- An output is driven only by a claim that is CARRIED. -/
theorem carried_of_carryEnable {s : State} {n : Fin 24} (h : s.carryEnable n = true) : (s.claim n).state = .carried := by
  simp only [State.carryEnable, Bool.and_eq_true, decide_eq_true_eq] at h
  exact h.2

/-- R45: the output of a claim that is let go opens, since no other claim holds it. -/
theorem letGo_opens_output {s : State} {n : Fin 24} {x : Fin 6} (o : Ending) (once : OutputsHeldOnce s)
    (live : (s.claim n).state ≠ .free) (bound : (s.claim n).binding = .aux x) : (s.letGo n o).auxClosed x = false := by
  refine (auxClosed_eq_false_iff _ x).2 fun m enabled closes => ?_
  have carried := carried_of_carryEnable enabled
  by_cases same : m = n
  · subst same
    rw [letGo_claim s o live] at carried
    cases carried
  · rw [letGo_claim_of_ne s o same] at carried closes
    exact same (once m n x (by simp [carried]) live closes bound)

/-- Settles O30: each order by its field check and the state of its claim; what RELEASE leaves is R50's release from
CARRIED. -/
theorem withdrawAndReleaseOfAFreeClaim : Obligations.WithdrawAndReleaseOfAFreeClaim := by
  refine ⟨fun l k s held => ⟨?withdrawElsewhere, ?withdraw⟩, fun l k s held => ⟨?releaseElsewhere, ?release⟩⟩
  case withdrawElsewhere => exact fun other => exec_withdraw held (withdrawEffect_of_other_field _ other)
  case withdraw =>
    rintro n hn rfl
    exact ⟨fun state => exec_withdraw held (withdrawEffect_of_unconnected hn state),
      fun state => exec_withdraw held (withdrawEffect_of_carried_or_free hn state)⟩
  case releaseElsewhere => exact fun other => exec_release held (releaseEffect_of_other_field _ other)
  case release =>
    rintro n hn rfl
    refine ⟨fun carried => ⟨?_, ?_, fun x once bound => ?_⟩, fun state => ?_⟩
    · exact exec_release held (releaseEffect_of_carried hn carried)
    · exact letGo_transit_of_carried .released carried
    · exact letGo_opens_output .released once (by simp [carried]) bound
    · exact exec_release held (releaseEffect_of_not_carried hn state)

/-! ### End requests (R53) -/

theorem exec_endRequest {s t : State} {n : Fin 24} {o : Ending} (h : s.held = false)
    (effect : endRequestEffect n o (s.arrive (.endRequest n o)) = t) : exec (.endRequest n o) s = .next t :=
  effect ▸ whenReleased_arrive_running h

/-- R53: an end request that another ending has overtaken has no effect. -/
theorem endRequestEffect_of_free {s : State} {n : Fin 24} (o : Ending) (h : (s.claim n).state = .free) :
    endRequestEffect n o s = s := if_pos h

theorem endRequestEffect_of_live {s : State} {n : Fin 24} (o : Ending) (h : (s.claim n).state ≠ .free) :
    endRequestEffect n o s = (s.endClaim n o).sync := if_neg h

/-- Settles O31: the two cases of R53, the claim being in the same state when the request has arrived. -/
theorem endRequestLetsItsClaimGo : Obligations.EndRequestLetsItsClaimGo := by
  intro n o s held
  exact ⟨fun live => exec_endRequest held (endRequestEffect_of_live o live),
    fun free => exec_endRequest held (endRequestEffect_of_free o free)⟩

end Sys2Proof.Machine

namespace Sys2Proof.Machine

/-! ### DECLARE by the first check that fails (R84) -/

theorem declareStatus_of_other_link (s : State) {l : Link} (d : Nat) (h : l ≠ .l1) :
    s.declareStatus l d = .notYourField := if_pos h

theorem declareStatus_in_black {s : State} (d : Nat) (h : s.reported = .black) :
    s.declareStatus .l1 d = .stationBlack := by
  simp [State.declareStatus, h]

theorem declareStatus_of_large {s : State} {d : Nat} (hst : s.reported ≠ .black) (h : Config.maxPower < d) :
    s.declareStatus .l1 d = .badOperand := by
  simp [State.declareStatus, hst, h]

theorem declareStatus_of_passing {s : State} {d : Nat} (hst : s.reported ≠ .black) (h : d ≤ Config.maxPower) :
    s.declareStatus .l1 d = .ok := by
  simp [State.declareStatus, hst, h]

/-- R84: the order does nothing but answer with the check that refuses it. -/
theorem declareEffect_of_refused {s : State} {l : Link} {d : Nat} {st : Status} (h : s.declareStatus l d = st)
    (refused : st ≠ .ok) : declareEffect l d s = s.answer l 0x11 st := by
  subst h
  unfold declareEffect
  split
  next ok => exact absurd ok refused
  next => rfl

theorem declareEffect_of_passing {s : State} {l : Link} {d : Nat} (h : s.declareStatus l d = .ok) :
    declareEffect l d s = (((s.takeDeclaration d).budgetCheck).consider).answer l 0x11 .ok := by
  rw [declareEffect, h]

/-- R84 to R86: the declaration that is taken is divided by the two reserves in force. -/
theorem takeDeclaration_eq (s : State) (d : Nat) :
    s.takeDeclaration d =
      { s with alw := { s.alw with d := d, stale := false, bands := bandsFor d s.set.tables.bands } } := rfl

/-- The order is taken on its arrival. -/
theorem exec_declare {s t : State} {l : Link} {d : Nat} (h : s.held = false)
    (effect : declareEffect l d (s.arrive (.declare l d)) = t) : exec (.declare l d) s = .next t :=
  effect ▸ whenReleased_arrive_running h

theorem exec_declare_refused {s : State} {l : Link} {d : Nat} {st : Status} (h : s.held = false)
    (status : (s.arrive (.declare l d)).declareStatus l d = st) (refused : st ≠ .ok) :
    AnsweredOnly (.declare l d) l 0x11 st s :=
  exec_declare h (declareEffect_of_refused status refused)

/-- Settles O34: the three checks in order, each of which reads what the arrival leaves unchanged; and a declaration that
passes them, with the bands of `takeDeclaration_eq`. -/
theorem declareReplacesTheDeclaration : Obligations.DeclareReplacesTheDeclaration := by
  intro d s held
  refine ⟨?otherLink, ?inBlack, ?large, ?passes⟩
  case otherLink => exact fun l other => exec_declare_refused held (declareStatus_of_other_link _ d other) (by decide)
  case inBlack => exact fun black => exec_declare_refused held (declareStatus_in_black d black) (by decide)
  case large => exact fun notBlack large => exec_declare_refused held (declareStatus_of_large notBlack large) (by decide)
  case passes =>
    intro notBlack fits
    have passes : (s.arrive (.declare .l1 d)).declareStatus .l1 d = .ok := declareStatus_of_passing notBlack fits
    refine exec_declare held ?_
    rw [declareEffect_of_passing passes, takeDeclaration_eq]
    rfl

end Sys2Proof.Machine

namespace Sys2Proof.Machine

/-! ### The ATTN line after a change of its link (R162) -/

/-- A change of one link context moves that link's ATTN as the new set and the new mask say. -/
theorem attn_onLink (s : State) (l : Link) (f : LinkContext → LinkContext) :
    (s.onLink l f).attn l = (!s.held && decide ((f (s.link l)).notices &&& (f (s.link l)).mask ≠ 0)) := by
  rw [State.attn, onLink_held, onLink_link]

/-- R159: a reply is neither a notice nor a mask, so it moves no ATTN line. -/
theorem attn_reply (s : State) (l m : Link) (code : Byte) (st : Status) (data : List Byte) :
    (s.reply l code st data).attn m = s.attn m := by
  by_cases same : m = l
  case pos => subst same; simp [State.attn, State.reply]
  case neg => simp [State.attn, State.reply, onLink_link_of_ne _ _ same]

theorem attn_answer (s : State) (l m : Link) (code : Byte) (st : Status) : (s.answer l code st).attn m = s.attn m :=
  attn_reply s l m code st []

/-! ### READ NOTICES and SET NOTICE MASK (R163) -/

/-- The reply holds the set as the order found it, before it is emptied. -/
theorem exec_readNotices (l : Link) {s : State} (h : s.held = false) :
    exec (.readNotices l) s =
      .next (((s.arrive (.readNotices l)).onLink l fun c => { c with notices := 0 }).reply l 0x01 .ok
        (u16 (s.link l).notices.toNat)) :=
  whenReleased_arrive_running (effect := readNoticesEffect l) h

theorem exec_setNoticeMask (l : Link) (mask : NoticeSet) {s : State} (h : s.held = false) :
    exec (.setNoticeMask l mask) s =
      .next (((s.arrive (.setNoticeMask l mask)).onLink l fun c => { c with mask := mask }).answer l 0x02 .ok) :=
  whenReleased_arrive_running (effect := setNoticeMaskEffect l mask) h

/-- Settles O53: the two orders as they run, and ATTN judged, before the reply that does not move it, by the emptied set
under the old mask and by the old set under the new mask. -/
theorem noticesAreReadAndMasked : Obligations.NoticesAreReadAndMasked := by
  intro l mask s held
  refine ⟨exec_readNotices l held, ?released, exec_setNoticeMask l mask held, ?judged⟩
  case released => simp [attn_reply, attn_onLink]
  case judged =>
    rw [attn_answer, attn_onLink, arrive_held, held, arrive_link]
    exact Bool.true_and _

end Sys2Proof.Machine

namespace Sys2Proof.Machine

/-! ### How a command runs

Every command but a frame runs in one of three ways: as an effect on the state it finds, as an effect that a held reset
shuts out, or as such an effect after its arrival. -/

/-- A property that a command keeps. -/
abbrev Keeps (P : State → Prop) (i : Instr) : Prop := ∀ s t : State, exec i s = .next t → P s → P t

theorem keeps_of_next {P : State → Prop} {i : Instr} {f : State → State} (run : ∀ s, exec i s = .next (f s))
    (effect : ∀ s, P s → P (f s)) : Keeps P i := by
  intro s t next holds
  rw [run s] at next
  cases next
  exact effect s holds

theorem keeps_of_effect {P : State → Prop} {i : Instr} {f : State → State} (run : ∀ s, exec i s = whenReleased s f)
    (effect : ∀ s, s.held = false → P s → P (f s)) : Keeps P i :=
  keeps_of_next run fun s holds => by
    cases held : s.held with
    | true => simpa using holds
    | false => simpa using effect s held holds

theorem keeps_of_arrival {P : State → Prop} {i : Instr} {f : State → State}
    (run : ∀ s, exec i s = whenReleased (s.arrive i) f) (arrives : ∀ s, P s → P (s.arrive i))
    (effect : ∀ s, s.held = false → P s → P (f s)) : Keeps P i :=
  keeps_of_next (f := fun s => if s.held then s.arrive i else f (s.arrive i)) (fun s => run s) fun s holds => by
    cases held : s.held with
    | true => simpa using arrives s holds
    | false => simpa using effect (s.arrive i) held (arrives s holds)

/-! ### Every step, from every command -/

/-- What the queue of commands, the passing of time and every command keep, every step keeps. -/
theorem step_keeps {P : State → Prop} (queue : ∀ (s : State) (q : List Instr), P s → P { s with pending := q })
    (time : ∀ (s : State) (n : Nat), P s → P { s with now := n }) (commands : ∀ i, Keeps P i) {s t : State}
    (run : step s = .next t) (holds : P s) : P t := by
  have passes : ∀ until? : Option Nat, P (s.passTime until?) := by
    intro until?
    cases until? with
    | none => exact time s _ holds
    | some _ => exact time s _ holds
  unfold step State.idle at run
  split at run
  · split at run
    · cases run; exact passes _
    · split at run
      · exact commands _ _ _ run holds
      · split at run
        · cases run; exact passes _
        · split at run
          · exact commands _ _ _ run holds
          · cases run; exact passes _
  · exact commands _ _ _ run (queue s _ holds)

/-! ### A frame, from the order it carries -/

/-- An order, as a frame can carry it. -/
def isOrder (i : Instr) : Bool := (encodeOrder i).isSome

theorem takeOrder_of_order {i : Instr} (h : isOrder i = true) (s : State) : takeOrder i s = exec i s := by
  obtain ⟨o, ho⟩ := Option.isSome_iff_exists.1 h
  exact takeOrder_eq_exec ho s

theorem takeOrder_of_other {i : Instr} (h : isOrder i = false) (s : State) : takeOrder i s = .next s := by
  cases i <;> first | rfl | exact absurd h (by simp [isOrder, encodeOrder])

theorem order_ne_orderFrame {i : Instr} (h : isOrder i = true) (l : Link) (bytes : List Byte) (odd : Nat) :
    i ≠ .orderFrame l bytes odd := by
  rintro rfl
  exact absurd h (by simp [isOrder, encodeOrder])

/-! ### What a frame leaves of the reset and of all but the links -/

theorem loseClaim_held (s : State) (n : Fin 24) : (s.loseClaim n).held = s.held := by
  unfold State.loseClaim; split <;> simp

theorem foldl_loseClaim_held (ns : List (Fin 24)) (s : State) : (ns.foldl State.loseClaim s).held = s.held := by
  induction ns generalizing s with
  | nil => rfl
  | cons n ns ih => rw [List.foldl_cons, ih, loseClaim_held]

theorem linkLossAllowance_held (l : Link) (s : State) : (linkLossAllowanceEffect l s).held = s.held := by
  unfold linkLossAllowanceEffect
  dsimp only
  split <;> simp [foldl_loseClaim_held]

theorem linkLossSaw_held (l : Link) (s : State) : (linkLossSawEffect l s).held = s.held := by
  unfold linkLossSawEffect; split <;> simp

theorem takeReport_held {s : State} {m : Instr} {effect : State → State} (h : ∀ t, (effect t).held = t.held) :
    (s.takeReport m effect).held = s.held := by
  unfold State.takeReport; split <;> simp [h]

/-- A valid frame, once the loss of its link is taken, changes the link contexts alone before its order is taken. -/
theorem acceptFrame_eq (s : State) (l : Link) (code : Byte) :
    s.acceptFrame l code = { s.takeLoss l with links := (s.acceptFrame l code).links } := by
  have recovered (u : State) : u.recover l = { u with links := (u.recover l).links } := by
    unfold State.recover; split <;> cases l <;> rfl
  have closed (u : State) : u.closeWindow l code = { u with links := (u.closeWindow l code).links } := by
    unfold State.closeWindow; split <;> rfl
  unfold State.acceptFrame
  rw [closed, State.renew, State.onLink, recovered]
  rfl

/-- What the loss of a link, when its frame finds it still on its way, keeps: what its two reports keep. -/
theorem takeLoss_keeps {P : State → Prop} {l : Link} (allowance : Keeps P (.linkLossReportAllowance l))
    (saw : Keeps P (.linkLossReportSaw l)) {s : State} (held : s.held = false) (holds : P s) : P (s.takeLoss l) := by
  have first : P (s.takeReport (.linkLossReportAllowance l) (linkLossAllowanceEffect l)) := by
    by_cases way : .linkLossReportAllowance l ∈ s.transit
    · exact allowance _ _ (takeReport_allowance held way) holds
    · rwa [takeReport_none way]
  by_cases way : .linkLossReportSaw l ∈ (s.takeReport (.linkLossReportAllowance l) (linkLossAllowanceEffect l)).transit
  · exact saw _ _ (takeReport_saw ((takeReport_held (linkLossAllowance_held l)).trans held) way) first
  · rwa [State.takeLoss, takeReport_none way]

/-- R159: SELECT rises: the selection window of a link closes. -/
def State.deselect (s : State) (l : Link) : State :=
  s.onLink l fun c => { c with selectLow := false, selecting := false, output := none }

theorem exec_orderFrame (l : Link) (bytes : List Byte) (odd : Nat) (s : State) :
    exec (.orderFrame l bytes odd) s =
      if (s.held || !(s.link l).selecting) = true then .next (s.deselect l) else (s.deselect l).takeFrame l bytes odd := rfl

/-- How a frame runs: nothing but its link changes, or it is answered after it has been accepted, or its order is taken
then. -/
theorem exec_orderFrame_cases {l : Link} {bytes : List Byte} {odd : Nat} {s t : State}
    (run : exec (.orderFrame l bytes odd) s = .next t) :
    t = s.deselect l ∨ (∃ first : Byte, t = (s.deselect l).discardFrame l first)
      ∨ s.held = false ∧ ∃ (code : Byte) (ops : List Byte), judgeFrame bytes odd = some (code, ops)
          ∧ ((∃ st : Status, decodeOrder l code ops = .error st ∧ t = ((s.deselect l).acceptFrame l code).answer l code st)
            ∨ ∃ i : Instr, decodeOrder l code ops = .ok i ∧ takeOrder i ((s.deselect l).acceptFrame l code) = .next t) := by
  rw [exec_orderFrame] at run
  split at run
  · cases run; exact .inl rfl
  · next open_ =>
    have held : s.held = false := by
      simp only [Bool.or_eq_true, Bool.not_eq_true', not_or, Bool.not_eq_true] at open_
      exact open_.1
    unfold State.takeFrame at run
    split at run
    · cases run; exact .inl rfl
    · next first rest =>
      split at run
      · cases run; exact .inr (.inl ⟨first, rfl⟩)
      · next code ops judged =>
        refine .inr (.inr ⟨held, code, ops, judged, ?_⟩)
        dsimp only at run
        split at run
        · next st refused => cases run; exact .inl ⟨st, refused, rfl⟩
        · next i decoded => exact .inr ⟨i, decoded, run⟩

/-- A frame keeps what changes of the links, the reports of its link's loss and the orders keep. -/
theorem orderFrame_keeps {P : State → Prop} (links : ∀ (s : State) (ls : PerLink LinkContext), P s → P { s with links := ls })
    {l : Link} (allowance : Keeps P (.linkLossReportAllowance l)) (saw : Keeps P (.linkLossReportSaw l))
    (orders : ∀ i, isOrder i = true → Keeps P i) (bytes : List Byte) (odd : Nat) : Keeps P (.orderFrame l bytes odd) := by
  intro s t run holds
  have accepted (code : Byte) (u : State) (held : u.held = false) (hu : P u) : P (u.acceptFrame l code) := by
    rw [acceptFrame_eq]
    exact links _ _ (takeLoss_keeps allowance saw held hu)
  obtain rfl | ⟨first, rfl⟩ | ⟨held, code, ops, -, ⟨st, -, rfl⟩ | ⟨i, -, taken⟩⟩ := exec_orderFrame_cases run
  · exact links _ _ holds
  · exact links _ _ (links _ _ (links _ _ holds))
  · exact links _ _ (accepted _ _ held (links _ _ holds))
  · have before := accepted code (s.deselect l) held (links s _ holds)
    cases order : isOrder i with
    | true => exact orders i order _ _ ((takeOrder_of_order order _).symm.trans taken) before
    | false =>
      rw [takeOrder_of_other order] at taken
      cases taken
      exact before

/-- What changes of the links and every command but a frame keep, every command keeps. -/
theorem commands_keep {P : State → Prop} (links : ∀ (s : State) (ls : PerLink LinkContext), P s → P { s with links := ls })
    (commands : ∀ i, (∀ l bytes odd, i ≠ .orderFrame l bytes odd) → Keeps P i) : ∀ i, Keeps P i := by
  intro i
  by_cases frame : ∃ l bytes odd, i = .orderFrame l bytes odd
  · obtain ⟨l, bytes, odd, rfl⟩ := frame
    exact orderFrame_keeps links (commands _ (by simp)) (commands _ (by simp))
      (fun j order => commands j (order_ne_orderFrame order)) bytes odd
  · exact commands i fun l bytes odd e => frame ⟨l, bytes, odd, e⟩

end Sys2Proof.Machine

namespace Sys2Proof.Machine

/-! ### What the commands of a block leave as it was

Each relation names the fields that the commands of one block may change, so that a law that reads none of them is kept by
all of them at once. -/

/-- From s to t nothing but the time, the messages and the links has changed. -/
def LinksAct (s t : State) : Prop := ∃ n tr ls, t = { s with now := n, transit := tr, links := ls }

/-- ... or the regulator. -/
def RegulatorActs (s t : State) : Prop := ∃ n tr ls r, t = { s with now := n, transit := tr, links := ls, reg := r }

/-- ... or the Measurement Unit. -/
def MeasurementActs (s t : State) : Prop := ∃ n tr ls m, t = { s with now := n, transit := tr, links := ls, meas := m }

/-- ... or the Feeder Controller and its feedbacks. -/
def FeedersAct (s t : State) : Prop :=
  ∃ n tr ls f p, t = { s with now := n, transit := tr, links := ls, fdr := f, pins := { s.pins with fb := p } }

/-- ... or the Saw Sequencer and any input but those feedbacks. -/
def SawActs (s t : State) : Prop :=
  ∃ n tr ls w, ∃ p : Pins,
    t = { s with now := n, transit := tr, links := ls, saw := w, pins := { p with fb := s.pins.fb } }

theorem LinksAct.refl (s : State) : LinksAct s s := ⟨_, _, _, rfl⟩
theorem RegulatorActs.refl (s : State) : RegulatorActs s s := ⟨_, _, _, _, rfl⟩
theorem MeasurementActs.refl (s : State) : MeasurementActs s s := ⟨_, _, _, _, rfl⟩
theorem FeedersAct.refl (s : State) : FeedersAct s s := ⟨_, _, _, _, _, rfl⟩
theorem SawActs.refl (s : State) : SawActs s s := ⟨_, _, _, _, _, rfl⟩

theorem LinksAct.trans {s t u : State} : LinksAct s t → LinksAct t u → LinksAct s u := by
  rintro ⟨_, _, _, rfl⟩ ⟨_, _, _, rfl⟩; exact ⟨_, _, _, rfl⟩
theorem RegulatorActs.trans {s t u : State} : RegulatorActs s t → RegulatorActs t u → RegulatorActs s u := by
  rintro ⟨_, _, _, _, rfl⟩ ⟨_, _, _, _, rfl⟩; exact ⟨_, _, _, _, rfl⟩
theorem MeasurementActs.trans {s t u : State} : MeasurementActs s t → MeasurementActs t u → MeasurementActs s u := by
  rintro ⟨_, _, _, _, rfl⟩ ⟨_, _, _, _, rfl⟩; exact ⟨_, _, _, _, rfl⟩
theorem FeedersAct.trans {s t u : State} : FeedersAct s t → FeedersAct t u → FeedersAct s u := by
  rintro ⟨_, _, _, _, _, rfl⟩ ⟨_, _, _, _, _, rfl⟩; exact ⟨_, _, _, _, _, rfl⟩
theorem SawActs.trans {s t u : State} : SawActs s t → SawActs t u → SawActs s u := by
  rintro ⟨_, _, _, _, _, rfl⟩ ⟨_, _, _, _, _, rfl⟩; exact ⟨_, _, _, _, _, rfl⟩

variable (s : State)

/-! ### The links' own commands, and the reads -/

theorem linkReport_acts (l : Link) (r : StateReport) : LinksAct s (linkReportEffect l r s) := by
  unfold linkReportEffect; dsimp only; split <;> exact ⟨_, _, _, rfl⟩

theorem addNotices_acts (ls : List Link) (k : Notice) : LinksAct s (s.addNotices ls k) := by
  unfold State.addNotices
  induction ls generalizing s with
  | nil => exact .refl s
  | cons l ls ih => exact (show LinksAct s (s.addNotice l k) from ⟨_, _, _, rfl⟩).trans (ih _)

theorem supervisionExpiry_acts (l : Link) : LinksAct s (supervisionExpiryEffect l s) := by
  unfold supervisionExpiryEffect
  split
  · exact (LinksAct.trans ⟨_, _, _, rfl⟩ (addNotices_acts _ _ _)).trans ⟨_, _, _, rfl⟩
  · exact .refl s

theorem supervise_acts (l : Link) (p : Nat) : LinksAct s (superviseEffect l p s) := by
  unfold superviseEffect; split <;> exact ⟨_, _, _, rfl⟩

theorem readNotices_acts (l : Link) : LinksAct s (readNoticesEffect l s) := ⟨_, _, _, rfl⟩
theorem setNoticeMask_acts (l : Link) (m : NoticeSet) : LinksAct s (setNoticeMaskEffect l m s) := ⟨_, _, _, rfl⟩
theorem readLink_acts (l : Link) : LinksAct s (readLinkEffect l s) := ⟨_, _, _, rfl⟩

theorem readClaim_acts (l : Link) (n : Nat) : LinksAct s (readClaimEffect l n s) := by
  unfold readClaimEffect; split <;> exact ⟨_, _, _, rfl⟩

theorem readTable_acts (l : Link) (t : TableId) (r : Nat) (c : CopyId) : LinksAct s (readTableEffect l t r c s) := by
  unfold readTableEffect
  split
  · exact ⟨_, _, _, rfl⟩
  · split
    · exact ⟨_, _, _, rfl⟩
    · split <;> exact ⟨_, _, _, rfl⟩

theorem readFeeder_acts (l : Link) (k : Nat) : LinksAct s (readFeederEffect l k s) := by
  unfold readFeederEffect; split <;> exact ⟨_, _, _, rfl⟩

theorem selectFall_acts (l : Link) : LinksAct s (selectFallEffect l s) := by
  unfold selectFallEffect
  split
  · exact .refl s
  · split <;> exact ⟨_, _, _, rfl⟩

/-! ### The regulator -/

theorem takeRatings_acts : RegulatorActs s s.takeRatings := by
  unfold State.takeRatings; split <;> exact ⟨_, _, _, _, rfl⟩

theorem enterStation_acts (st : StationState) (r : Reasons) : RegulatorActs s (s.enterStation st r) := ⟨_, _, _, _, rfl⟩

theorem enterBlack_acts : RegulatorActs s s.enterBlack := ⟨_, _, _, _, rfl⟩

theorem waveformLoss_acts : RegulatorActs s s.waveformLoss := by
  unfold State.waveformLoss
  dsimp only
  split
  · exact ⟨_, _, _, _, rfl⟩
  · exact RegulatorActs.trans ⟨_, _, _, _, rfl⟩ (enterBlack_acts _)

theorem raiseFrequency_acts : RegulatorActs s s.raiseFrequency := by
  unfold State.raiseFrequency; split <;> exact ⟨_, _, _, _, rfl⟩

theorem leaveDeficit_acts : RegulatorActs s s.leaveDeficit := by
  unfold State.leaveDeficit; split <;> exact ⟨_, _, _, _, rfl⟩

theorem setTrip_acts : RegulatorActs s s.setTrip := by
  unfold State.setTrip; split <;> exact ⟨_, _, _, _, rfl⟩

theorem expireWarmBand_acts : RegulatorActs s s.expireWarmBand := by
  unfold State.expireWarmBand; split <;> exact ⟨_, _, _, _, rfl⟩

theorem expireShed_acts : RegulatorActs s s.expireShed := by
  unfold State.expireShed
  split
  · exact .refl s
  · exact RegulatorActs.trans ⟨_, _, _, _, rfl⟩ (raiseFrequency_acts _)

theorem expireFast_acts : RegulatorActs s s.expireFast := by
  unfold State.expireFast
  split
  · exact .refl s
  · exact RegulatorActs.trans ⟨_, _, _, _, rfl⟩ (raiseFrequency_acts _)

theorem expireRecovery_acts : RegulatorActs s s.expireRecovery := by
  unfold State.expireRecovery
  split
  · exact .refl s
  · exact RegulatorActs.trans ⟨_, _, _, _, rfl⟩ (leaveDeficit_acts _)

theorem expireRunaway_acts : RegulatorActs s s.expireRunaway := by
  unfold State.expireRunaway; split <;> exact ⟨_, _, _, _, rfl⟩

theorem expireTrip_acts : RegulatorActs s s.expireTrip := by
  unfold State.expireTrip
  split
  · exact .refl s
  · exact RegulatorActs.trans ⟨_, _, _, _, rfl⟩ (setTrip_acts _)

theorem acts_if {b : Bool} {f : State → State} (h : ∀ t, RegulatorActs t (f t)) :
    RegulatorActs s (if b = true then f s else s) := by
  split
  · exact h s
  · exact .refl s

theorem expireReached_acts : RegulatorActs s s.expireReached := by
  unfold State.expireReached
  dsimp only
  exact (((((acts_if s expireTrip_acts).trans (acts_if _ expireWarmBand_acts)).trans (acts_if _ expireShed_acts)).trans
    (acts_if _ expireFast_acts)).trans (acts_if _ expireRecovery_acts)).trans (acts_if _ expireRunaway_acts)

theorem testTimings_acts (changed : Bool) : RegulatorActs s (s.testTimings changed) := by
  unfold State.testTimings
  have judged : RegulatorActs s s.judgeTimings := ⟨_, _, _, _, rfl⟩
  have moved : ∀ t : State, RegulatorActs t
      (if t.reg.station = .black ∧ t.reg.validRun = Config.validLimit then t.enterWarming
        else if t.reg.station = .runaway ∧ t.filteredIs (fun f => f < t.reg.inForce.runawayExit) = true then
          t.enterStation .regulating .empty
        else t) := by
    intro t
    split
    · exact ⟨_, _, _, _, rfl⟩
    · split
      · exact ⟨_, _, _, _, rfl⟩
      · exact .refl t
  exact ((judged.trans (moved _)).trans (acts_if _ expireReached_acts)).trans ⟨_, _, _, _, rfl⟩

theorem loopStep_acts (f : Nat) : RegulatorActs s (s.loopStep f) := by
  unfold State.loopStep; split <;> exact ⟨_, _, _, _, rfl⟩

theorem countCycle_acts (m : CycleMark) (i : Nat) : RegulatorActs s (s.countCycle m i) := by
  unfold State.countCycle; split <;> exact ⟨_, _, _, _, rfl⟩

theorem beginPositive_acts : RegulatorActs s s.beginPositive := by
  unfold State.beginPositive; split <;> exact ⟨_, _, _, _, rfl⟩

theorem readThresholds_acts (m : CycleMark) : RegulatorActs s (s.readThresholds m) := by
  unfold State.readThresholds; split <;> exact ⟨_, _, _, _, rfl⟩

theorem takeCrossing_acts (i : Nat) : RegulatorActs s (s.takeCrossing i) := by
  unfold State.takeCrossing; dsimp only; split <;> exact ⟨_, _, _, _, rfl⟩

theorem regulatorCycle_acts (m : CycleMark) (i : Nat) : RegulatorActs s (s.regulatorCycle m i) := by
  have crossed : RegulatorActs s (((s.readThresholds m).beginPositive).countCycle m i).scheduleMidpoint :=
    (((readThresholds_acts s m).trans (beginPositive_acts _)).trans (countCycle_acts _ m i)).trans ⟨_, _, _, _, rfl⟩
  have rated : ∀ t : State, RegulatorActs t (if t.reg.station = .black then t else t.takeRatings) := by
    intro t
    split
    · exact .refl t
    · exact takeRatings_acts t
  have before := crossed.trans (rated _)
  unfold State.regulatorCycle
  cases m with
  | reference => exact before.trans ⟨_, _, _, _, rfl⟩
  | valid f => exact (before.trans (loopStep_acts _ f)).trans (testTimings_acts _ _)
  | discarded f =>
    have lost : ∀ t : State, RegulatorActs t
        (if Config.discardLimit ≤ t.reg.discardRun then t.waveformLoss else t) := by
      intro t
      split
      · exact waveformLoss_acts t
      · exact .refl t
    exact (before.trans (u := State.judgeTimings _) ⟨_, _, _, _, rfl⟩).trans (lost _)

theorem halfCycle_acts : RegulatorActs s (halfCycleEffect s) := by
  unfold halfCycleEffect
  split
  · exact .refl s
  · dsimp only; split <;> exact ⟨_, _, _, _, rfl⟩

theorem silence_acts : RegulatorActs s (silenceEffect s) := by
  unfold silenceEffect
  split
  · exact .refl s
  · exact RegulatorActs.trans ⟨_, _, _, _, rfl⟩ (waveformLoss_acts _)

theorem budgetRaise_acts : RegulatorActs s (budgetRaiseEffect s) := by
  unfold budgetRaiseEffect; split <;> exact ⟨_, _, _, _, rfl⟩

theorem budgetClear_acts : RegulatorActs s (budgetClearEffect s) := by
  unfold budgetClearEffect
  split
  · exact RegulatorActs.trans ⟨_, _, _, _, rfl⟩ (leaveDeficit_acts _)
  all_goals exact .refl s

theorem downStep_acts (a : Nat) : RegulatorActs s (downStepEffect a s) := by
  unfold downStepEffect; split <;> exact ⟨_, _, _, _, rfl⟩

theorem upStep_acts (a : Nat) : RegulatorActs s (upStepEffect a s) := by
  unfold upStepEffect; split <;> exact ⟨_, _, _, _, rfl⟩

theorem leadLineReport_acts (r : LineReport) : RegulatorActs s (leadLineReportEffect r s) := ⟨_, _, _, _, rfl⟩

theorem ackTrip_acts (l : Link) : RegulatorActs s (s.ackTrip l).1 := by
  unfold State.ackTrip
  split
  · exact .refl s
  · split
    · exact .refl s
    · split <;> exact ⟨_, _, _, _, rfl⟩

/-! ### The Measurement Unit -/

theorem voidCapture_acts (l : Link) : MeasurementActs s (s.voidCapture l) := by
  unfold State.voidCapture; split <;> exact ⟨_, _, _, _, rfl⟩

theorem measurementReport_acts (r : StateReport) : MeasurementActs s (measurementReportEffect r s) := by
  unfold measurementReportEffect
  dsimp only
  split
  · exact (((MeasurementActs.trans ⟨_, _, _, _, rfl⟩ (voidCapture_acts _ .l1)).trans (voidCapture_acts _ .l2))).trans
      (voidCapture_acts _ .l3)
  · exact ⟨_, _, _, _, rfl⟩

theorem divergence_acts : MeasurementActs s (divergenceEffect s) := by
  unfold divergenceEffect; split <;> exact ⟨_, _, _, _, rfl⟩

theorem agreement_acts : MeasurementActs s (agreementEffect s) := by
  unfold agreementEffect; split <;> exact ⟨_, _, _, _, rfl⟩

theorem takeSnapshot_acts (l : Link) : MeasurementActs s (takeSnapshotEffect l s) := by
  unfold takeSnapshotEffect
  split
  · exact ⟨_, _, _, _, rfl⟩
  · split <;> exact ⟨_, _, _, _, rfl⟩

theorem readSnapshot_acts (l : Link) : MeasurementActs s (readSnapshotEffect l s) := by
  unfold readSnapshotEffect; dsimp only; split <;> exact ⟨_, _, _, _, rfl⟩

theorem capturePosting_acts (l : Link) : MeasurementActs s (s.capturePosting l) := by
  unfold State.capturePosting
  split
  · exact .refl s
  · dsimp only; split <;> exact ⟨_, _, _, _, rfl⟩

theorem judgeDiscrepancy_acts : MeasurementActs s s.judgeDiscrepancy := by
  unfold State.judgeDiscrepancy; split <;> exact ⟨_, _, _, _, rfl⟩

/-! ### The Feeder Controller -/

theorem syncFeeders_acts : FeedersAct s s.syncFeeders := ⟨_, _, _, _, _, rfl⟩

theorem releaseCursor_acts (k : Fin 12) : FeedersAct s (s.releaseCursor k) := by
  unfold State.releaseCursor; split <;> exact ⟨_, _, _, _, _, rfl⟩

theorem faultFeeder_acts (k : Fin 12) (kind : FeederFault) : FeedersAct s (s.faultFeeder k kind) := by
  unfold State.faultFeeder
  dsimp only
  split <;>
    exact (FeedersAct.trans (s := s) ⟨_, _, _, _, _, rfl⟩ (releaseCursor_acts _ k)).trans (syncFeeders_acts _)

theorem forcedRelease_acts : FeedersAct s s.forcedRelease := by
  unfold State.forcedRelease; split <;> exact ⟨_, _, _, _, _, rfl⟩

theorem shedStep_acts : FeedersAct s s.shedStep := by
  unfold State.shedStep
  have ended (t : State) : FeedersAct t t.restartStep.syncFeeders := ⟨_, _, _, _, _, rfl⟩
  dsimp only
  split
  · exact ended s
  · split
    · exact FeedersAct.trans (t := s.shedFeeder _) ⟨_, _, _, _, _, rfl⟩ (ended _)
    · exact FeedersAct.trans (t := s.send _) ⟨_, _, _, _, _, rfl⟩ (ended _)
    · exact (forcedRelease_acts s).trans (ended _)

theorem stepBetweenMarks_acts : FeedersAct s s.stepBetweenMarks := by
  unfold State.stepBetweenMarks
  split
  · exact .refl s
  · split
    · exact shedStep_acts s
    · exact .refl s

theorem feedersAtBlack_acts : FeedersAct s s.feedersAtBlack := by
  unfold State.feedersAtBlack
  dsimp only
  split <;> exact ⟨_, _, _, _, _, rfl⟩

theorem feederCarried_acts (k : Fin 12) : FeedersAct s (feederCarriedEffect k s) := by
  unfold feederCarriedEffect
  dsimp only
  split
  · split <;>
      exact (FeedersAct.trans (s := s) ⟨_, _, _, _, _, rfl⟩ (releaseCursor_acts _ k)).trans (syncFeeders_acts _)
  · exact .refl s

theorem takeRestored_acts : FeedersAct s s.takeRestored := by
  unfold State.takeRestored
  split
  · split
    · unfold State.takeReport
      split
      · exact FeedersAct.trans (t := s.arrive _) ⟨_, _, _, _, _, rfl⟩ (feederCarried_acts _ _)
      · exact .refl s
    · exact .refl s
  all_goals exact .refl s

theorem cancelRestoring_acts : FeedersAct s s.cancelRestoring := by
  unfold State.cancelRestoring
  split
  · dsimp only; split <;> exact ⟨_, _, _, _, _, rfl⟩
  all_goals exact .refl s

theorem feederStateReport_acts (r : StateReport) : FeedersAct s (feederStateReportEffect r s) := by
  unfold feederStateReportEffect
  split
  · exact feedersAtBlack_acts s
  · exact .refl s
  · dsimp only; split <;> exact ⟨_, _, _, _, _, rfl⟩
  · exact (((takeRestored_acts s).trans (cancelRestoring_acts _)).trans (t := _) ⟨_, _, _, _, _, rfl⟩).trans
      (shedStep_acts _)
  · split
    · exact ⟨_, _, _, _, _, rfl⟩
    all_goals exact .refl s

theorem feederOff_acts (k : Fin 12) : FeedersAct s (s.feederOff k).1 := by
  unfold State.feederOff
  dsimp only
  split
  · exact FeedersAct.trans (s := s) ⟨_, _, _, _, _, rfl⟩ (releaseCursor_acts _ k)
  · exact FeedersAct.trans (s := s) ⟨_, _, _, _, _, rfl⟩ (releaseCursor_acts _ k)
  all_goals exact ⟨_, _, _, _, _, rfl⟩

theorem feederClear_acts (k : Fin 12) : FeedersAct s (s.feederClear k).1 := by
  unfold State.feederClear
  dsimp only
  split
  · split <;> exact ⟨_, _, _, _, _, rfl⟩
  · split <;> exact ⟨_, _, _, _, _, rfl⟩
  all_goals exact .refl s

theorem feederOffEffect_acts (l : Link) (k : Nat) : FeedersAct s (feederOffEffect l k s) := by
  unfold feederOffEffect
  split
  · exact ⟨_, _, _, _, _, rfl⟩
  · exact (feederOff_acts s _).trans ⟨_, _, _, _, _, rfl⟩

theorem feederClearEffect_acts (l : Link) (k : Nat) : FeedersAct s (feederClearEffect l k s) := by
  unfold feederClearEffect
  split
  · exact ⟨_, _, _, _, _, rfl⟩
  · exact (feederClear_acts s _).trans ⟨_, _, _, _, _, rfl⟩

theorem feederAdmission_acts (k : Fin 12) : FeedersAct s (feederAdmissionEffect k s) := by
  unfold feederAdmissionEffect; split <;> exact ⟨_, _, _, _, _, rfl⟩

theorem stepHalfMark_acts : FeedersAct s (stepHalfMarkEffect s) := by
  unfold stepHalfMarkEffect
  split
  · dsimp only
    split
    · exact FeedersAct.trans (t := s.reachTick _) ⟨_, _, _, _, _, rfl⟩ (shedStep_acts _)
    · exact ⟨_, _, _, _, _, rfl⟩
  all_goals exact .refl s

theorem stepFullMark_acts : FeedersAct s (stepFullMarkEffect s) := by
  unfold stepFullMarkEffect
  split
  · exact FeedersAct.trans (t := s.reachTick _) ⟨_, _, _, _, _, rfl⟩ (shedStep_acts _)
  · exact .refl s

theorem feederFeedback_acts (k : Fin 12) (closed : Bool) : FeedersAct s (feederFeedbackEffect k closed s) := by
  unfold feederFeedbackEffect
  dsimp only
  split
  · exact ⟨_, _, _, _, _, rfl⟩
  · split
    · exact FeedersAct.trans (s := s) ⟨_, _, _, _, _, rfl⟩ (faultFeeder_acts _ _ _)
    · exact ⟨_, _, _, _, _, rfl⟩

theorem followTiming_acts (k : Fin 12) : FeedersAct s (followTimingEffect k s) := by
  unfold followTimingEffect
  dsimp only
  split
  · split
    · exact FeedersAct.trans (t := s.reachTick _) ⟨_, _, _, _, _, rfl⟩ (faultFeeder_acts _ _ _)
    · exact ⟨_, _, _, _, _, rfl⟩
  all_goals exact .refl s

theorem stuckTiming_acts (k : Fin 12) : FeedersAct s (stuckTimingEffect k s) := by
  unfold stuckTimingEffect
  split
  · exact .refl s
  · exact FeedersAct.trans (t := s.reachTick _) ⟨_, _, _, _, _, rfl⟩ (faultFeeder_acts _ _ _)
  all_goals exact .refl s

/-! ### The Saw Sequencer -/

theorem sawMoving_acts (st : SawState) : SawActs s (sawMoving s st) := ⟨_, _, _, _, _, rfl⟩

theorem faultSaw_acts (kind : SawFault) : SawActs s (s.faultSaw kind) := by
  rw [faultSaw_eq]; exact ⟨_, _, _, _, _, rfl⟩

theorem stopSequence_acts (o : Ending) : SawActs s (s.stopSequence o) := by
  rw [stopSequence_eq]; exact ⟨_, _, _, _, _, rfl⟩

theorem judgeLimits_acts : SawActs s s.judgeLimits := by
  unfold State.judgeLimits
  split
  · exact faultSaw_acts s _
  · exact .refl s

theorem judgeOverload_acts : SawActs s s.judgeOverload := by
  unfold State.judgeOverload
  dsimp only
  split <;> exact ⟨_, _, _, _, _, rfl⟩

theorem endFeedAt_acts (d : Direction) : SawActs s (s.endFeedAt d) := by
  have moved (ends : Bool) : SawActs s
      (if ends then (s.send (.endRequest 5 .released)).moveSawNotified .run .running else s) := by
    cases ends <;> exact ⟨_, _, _, _, _, rfl⟩
  exact moved _

theorem sawOrder_acts (l : Link) (code : Byte) {f : State → State × Status} (h : ∀ t, SawActs t (f t).1) :
    SawActs s (sawOrder l code f s) := by
  unfold sawOrder
  split
  · exact ⟨_, _, _, _, _, rfl⟩
  · exact (h s).trans ⟨_, _, _, _, _, rfl⟩

theorem sawStop_acts : SawActs s s.sawStop.1 := by
  unfold State.sawStop
  simp only [stopRequests_eq]
  split
  · exact ⟨_, _, _, _, _, rfl⟩
  · split <;> exact ⟨_, _, _, _, _, rfl⟩

theorem sawHold_acts : SawActs s s.sawHold.1 := by
  unfold State.sawHold; split <;> exact ⟨_, _, _, _, _, rfl⟩

theorem sawResume_acts : SawActs s s.sawResume.1 := by
  unfold State.sawResume; split <;> exact ⟨_, _, _, _, _, rfl⟩

theorem sawClearFault_acts : SawActs s s.sawClearFault.1 := by
  unfold State.sawClearFault
  split
  · exact SawActs.trans (t := (s.moveSaw _ _).syncSaw) ⟨_, _, _, _, _, rfl⟩ (judgeLimits_acts _)
  · exact .refl s

theorem sawCarried_acts (c : SawClaim) : SawActs s (sawCarriedEffect c s) := by
  unfold sawCarriedEffect
  split
  · exact ⟨_, _, _, _, _, rfl⟩
  · split <;> exact ⟨_, _, _, _, _, rfl⟩
  · exact .refl s

theorem sawEnding_acts (c : SawClaim) (o : Ending) : SawActs s (sawEndingEffect c o s) := by
  unfold sawEndingEffect
  split
  · split
    · exact ⟨_, _, _, _, _, rfl⟩
    · split <;> exact ⟨_, _, _, _, _, rfl⟩
  · split
    all_goals first
      | exact .refl s
      | (split <;> exact ⟨_, _, _, _, _, rfl⟩)

theorem sawStateReport_acts (r : StateReport) : SawActs s (sawStateReportEffect r s) := by
  unfold sawStateReportEffect
  split
  · split
    · exact ⟨_, _, _, _, _, rfl⟩
    · split <;> exact ⟨_, _, _, _, _, rfl⟩
  · exact .refl s

theorem shedRequest_acts (t : SawTarget) : SawActs s (shedRequestEffect t s) := by
  unfold shedRequestEffect
  split
  · split <;> exact ⟨_, _, _, _, _, rfl⟩
  · split
    · exact stopSequence_acts s _
    · exact .refl s

theorem linkLossSaw_acts (l : Link) : SawActs s (linkLossSawEffect l s) := by
  unfold linkLossSawEffect
  split
  · exact stopSequence_acts s _
  · exact .refl s

theorem bladePulse_acts : SawActs s (bladePulseEffect s) := ⟨_, _, _, _, _, rfl⟩

theorem bladeWindow_acts : SawActs s (bladeWindowEffect s) := by
  have counted (t : State) (run : Nat) : SawActs t
      (if Config.stallWindows ≤ run then t.faultSaw .stall else { t with saw := { t.saw with stallRun := run } }) := by
    split
    · exact faultSaw_acts t _
    · exact ⟨_, _, _, _, _, rfl⟩
  unfold bladeWindowEffect
  dsimp only
  split
  · exact ⟨_, _, _, _, _, rfl⟩
  · split
    · exact SawActs.trans (s := s) ⟨_, _, _, _, _, rfl⟩ (counted _ _)
    · exact ⟨_, _, _, _, _, rfl⟩

theorem bladeQuiet_acts : SawActs s (bladeQuietEffect s) := by
  unfold bladeQuietEffect
  split
  · exact .refl s
  · dsimp only; split <;> exact ⟨_, _, _, _, _, rfl⟩

theorem starTime_acts : SawActs s (starTimeEffect s) := by
  unfold starTimeEffect
  split
  · exact .refl s
  · dsimp only
    split
    · exact ⟨_, _, _, _, _, rfl⟩
    · exact SawActs.trans (t := s.reachTick _) ⟨_, _, _, _, _, rfl⟩ (faultSaw_acts _ _)

theorem deadTime_acts : SawActs s (deadTimeEffect s) := by
  unfold deadTimeEffect
  split
  · exact .refl s
  · dsimp only; split <;> exact ⟨_, _, _, _, _, rfl⟩

/-- An input other than a feeder's feedback is read by the saw alone. -/
theorem pins_acts {p : Pins} (fb : p.fb = s.pins.fb) : SawActs s { s with pins := p } :=
  ⟨s.now, s.transit, s.links, s.saw, p, by rw [← fb]⟩

theorem sawFeedback_acts (c : MotorContactor) (closed : Bool) : SawActs s (sawFeedbackEffect c closed s) := by
  have read : SawActs s { s with pins := s.pins.setFb c closed } := pins_acts s (by cases c <;> rfl)
  unfold sawFeedbackEffect
  dsimp only
  split
  · exact read
  · split <;> exact read.trans ⟨_, _, _, _, _, rfl⟩

theorem disagreement_acts (c : MotorContactor) : SawActs s (disagreementEffect c s) := by
  unfold disagreementEffect
  split
  · exact .refl s
  · split
    · exact .refl s
    · exact SawActs.trans (t := s.reachTick _) ⟨_, _, _, _, _, rfl⟩ (faultSaw_acts _ _)

theorem limitChange_acts (w : LimitSwitch) (active : Bool) : SawActs s (limitChangeEffect w active s) := by
  have moved : SawActs s { s with pins := s.pins.setLimit w active } := pins_acts s (by cases w <;> rfl)
  unfold limitChangeEffect
  dsimp only
  split
  · exact moved
  · split
    · exact moved.trans (judgeLimits_acts _)
    · split
      · exact (moved.trans (endFeedAt_acts _ _)).trans ⟨_, _, _, _, _, rfl⟩
      · exact moved

theorem estop_acts (active : Bool) : SawActs s (estopEffect active s) := by
  have moved : SawActs s { s with pins := { s.pins with estop := active } } := pins_acts s rfl
  unfold estopEffect
  dsimp only
  split
  · exact moved
  · split
    · exact moved.trans (faultSaw_acts _ _)
    · exact moved

theorem overloadTiming_acts : SawActs s (overloadTimingEffect s) := by
  unfold overloadTimingEffect; split <;> exact ⟨_, _, _, _, _, rfl⟩

theorem resumeTiming_acts : SawActs s (resumeTimingEffect s) := by
  unfold resumeTimingEffect; split <;> exact ⟨_, _, _, _, _, rfl⟩

end Sys2Proof.Machine

namespace Sys2Proof.Machine

/-! ### The Settings Unit, but for the tables -/

/-- From s to t nothing but the time, the messages, the links, the KEY and the Settings Unit has changed, and of that no
table. -/
def ProposalsAct (s t : State) : Prop :=
  ∃ n tr ls b o th k p, t =
    { s with
      now := n, transit := tr, links := ls, pins := { s.pins with key := p }
      set := { s.set with bandsProposal := b, shedOrderProposal := o, thresholdsProposal := th, key := k } }

theorem ProposalsAct.refl (s : State) : ProposalsAct s s := ⟨_, _, _, _, _, _, _, _, rfl⟩

theorem ProposalsAct.trans {s t u : State} : ProposalsAct s t → ProposalsAct t u → ProposalsAct s u := by
  rintro ⟨_, _, _, _, _, _, _, _, rfl⟩ ⟨_, _, _, _, _, _, _, _, rfl⟩; exact ⟨_, _, _, _, _, _, _, _, rfl⟩

theorem LinksAct.proposals {s t : State} : LinksAct s t → ProposalsAct s t := by
  rintro ⟨_, _, _, rfl⟩; exact ⟨_, _, _, _, _, _, _, _, rfl⟩

theorem setProposal_acts (s : State) (t : SharedId) (p : Option Proposal) : ProposalsAct s (s.setProposal t p) := by
  cases t <;> exact ⟨_, _, _, _, _, _, _, _, rfl⟩

theorem propose_acts (s : State) (l : Link) (t : SharedId) (c : TableCopy) : ProposalsAct s (s.propose l t c) :=
  (setProposal_acts s t _).trans (addNotices_acts _ _ _).proposals

theorem endProposal_acts (s : State) (t : SharedId) (p : Proposal) : ProposalsAct s (s.endProposal t p) :=
  (setProposal_acts s t _).trans ⟨_, _, _, _, _, _, _, _, rfl⟩

theorem preempt_acts (s : State) (t : TableId) (other : Link) : LinksAct s (s.preempt t other) := by
  unfold State.preempt
  split
  · exact .refl s
  · split <;> exact ⟨_, _, _, rfl⟩

theorem breakLink_acts (s : State) (l : Link) : LinksAct s (s.breakLink l) := ⟨_, _, _, rfl⟩

theorem discardProposal_acts (s : State) (l : Link) (sh : SharedId) : ProposalsAct s (s.discardProposal l sh) := by
  unfold State.discardProposal
  split
  · exact .refl s
  · dsimp only
    split
    · exact (setProposal_acts s sh none).trans (addNotices_acts _ _ _).proposals
    · exact (setProposal_acts s sh none).trans ((breakLink_acts _ _).trans (addNotices_acts _ _ _)).proposals

theorem clearTheWay_acts (s : State) (l : Link) (t : TableId) : ProposalsAct s (s.clearTheWay l t) := by
  have preempted (ls : List Link) (u : State) : LinksAct u (ls.foldl (fun u other => u.preempt t other) u) := by
    induction ls generalizing u with
    | nil => exact .refl u
    | cons m ls ih => exact (preempt_acts u t m).trans (ih _)
  unfold State.clearTheWay
  split
  · exact .refl s
  · exact (preempted _ s).proposals.trans (discardProposal_acts _ _ _)

theorem openWindow_acts (l : Link) (t : TableId) (first last : Nat) (s : State) :
    ProposalsAct s (openWindowEffect l t first last s) := by
  unfold openWindowEffect
  split
  · exact (clearTheWay_acts s l t).trans ⟨_, _, _, _, _, _, _, _, rfl⟩
  · exact ⟨_, _, _, _, _, _, _, _, rfl⟩

theorem reject_acts (l : Link) (t : TableId) (s : State) : ProposalsAct s (rejectEffect l t s) := by
  unfold rejectEffect
  split
  · exact ⟨_, _, _, _, _, _, _, _, rfl⟩
  · exact (endProposal_acts s _ _).trans ⟨_, _, _, _, _, _, _, _, rfl⟩

theorem proposalExpiry_acts (t : SharedId) (s : State) : ProposalsAct s (proposalExpiryEffect t s) := by
  unfold proposalExpiryEffect
  split
  · exact .refl s
  · exact ProposalsAct.trans (t := s.reachTick _) ⟨_, _, _, _, _, _, _, _, rfl⟩ (endProposal_acts _ _ _)

theorem keyChange_acts (k : Key) (s : State) : ProposalsAct s (keyChangeEffect k s) := by
  unfold keyChangeEffect
  dsimp only
  split <;> exact ⟨_, _, _, _, _, _, _, _, rfl⟩

/-! ### The checks of a new claim -/

/-- R49: what a claim request that is not refused has passed. -/
theorem claimRequestStatus_ok {s : State} {n : Fin 24} {amount : Nat} {run : Option Nat}
    (h : s.claimRequestStatus n amount run = .ok) :
    s.reported ≠ .black ∧ (s.claim n).state = .free ∧ s.endAwaits n = false ∧ 1 ≤ amount ∧ run.getD 0 ≤ amount
      ∧ s.alw.queue.length < 4 := by
  unfold State.claimRequestStatus at h
  split at h
  · cases h
  · next live =>
    split at h
    · cases h
    · next free =>
      split at h
      · cases h
      · next amounts =>
        split at h
        · cases h
        · next room =>
          simp only [not_or, ne_eq, not_not, Bool.not_eq_true] at free amounts
          exact ⟨live, free.1, free.2, by omega, by omega, Nat.lt_of_not_le room⟩

/-- R46: what a CLAIM that is not refused has passed. -/
theorem claimCheck_ok {s : State} {l : Link} {o : ClaimOperands} {n : Fin 24} (h : s.claimCheck l o = .ok n) :
    s.reported ≠ .black ∧ claimInField l o.number = some n ∧ (s.claim n).state = .free ∧ ClaimOperandsSound n o = true
      ∧ s.outputHeld o.binding = false ∧ s.alw.queue.length < 4 := by
  unfold State.claimCheck at h
  split at h
  · cases h
  · next live =>
    split at h
    · cases h
    · next m field =>
      split at h
      · cases h
      · next free =>
        split at h
        · cases h
        · next sound =>
          split at h
          · cases h
          · next output =>
            split at h
            · cases h
            · next room =>
              cases h
              exact ⟨live, field, by simpa using free, by simpa using sound, by simpa using output, Nat.lt_of_not_le room⟩

theorem claimOperandsSound_iff (n : Fin 24) (o : ClaimOperands) :
    ClaimOperandsSound n o = true ↔
      1 ≤ o.amount ∧ o.amount ≤ Config.maxPower
        ∧ (o.runAmount = none ∧ o.surgeTime = none
          ∨ ∃ r t, o.runAmount = some r ∧ o.surgeTime = some t ∧ r ≤ o.amount ∧ 1 ≤ t ∧ t ≤ 600)
        ∧ o.leadTime ≤ 50 ∧ (∀ w ∈ o.waitLimit, 1 ≤ w ∧ w ≤ 300) ∧ bindingAllowed n o.binding = true := by
  unfold ClaimOperandsSound
  cases o.runAmount <;> cases o.surgeTime <;> cases o.waitLimit <;> simp [and_assoc]

theorem mem_freeClaims_of_field {l : Link} {k : Nat} {n : Fin 24} (h : claimInField l k = some n) : n ∈ freeClaims l :=
  List.mem_of_find?_eq_some h

theorem blockOwner_of_freeClaims {l : Link} {n : Fin 24} (h : n ∈ freeClaims l) : blockOwner n = none := by
  have table : ∀ n ∈ freeClaims l, blockOwner n = none := by cases l <;> decide
  exact table n h

theorem outputHeld_eq_false_iff (s : State) (b : Binding) :
    s.outputHeld b = false ↔
      ∀ (m : Fin 24) (x : Fin 6), (s.claim m).state ≠ .free → (s.claim m).binding = .aux x → b ≠ .aux x := by
  have every : ∀ n : Fin 24, n ∈ allClaims := by decide
  cases b with
  | nothing | feeder | saw => simp [State.outputHeld]
  | aux y =>
    simp only [State.outputHeld, List.any_eq_false, every, Bool.and_eq_true, decide_eq_true_eq, not_and, forall_const]
    constructor
    · rintro h m x live bound ⟨⟩
      exact h m live bound
    · exact fun h m live bound => h m y live bound rfl

theorem bindingFits_feeder (k : Fin 12) : bindingFits (feederClaim k) (.feeder k) = true := by revert k; decide

theorem moveSaw_acts (s : State) (st : SawState) (cmd : SawCommands) : SawActs s (s.moveSaw st cmd) := ⟨_, _, _, _, _, rfl⟩

/-- R108: a feeder whose claim has ended involuntarily, before the cursor goes on. -/
def State.dropFeeder (s : State) (k : Fin 12) (toShed : Bool) : State :=
  (s.setFeeder k
    { s.feeder k with state := if toShed then .shed else .off, close := false, restoring := false }).addNotice .l3 .feeder

theorem feederLetGo_eq (s : State) (k : Fin 12) (toShed : Bool) :
    s.feederLetGo k toShed =
      (if s.fdr.cursor = .ready ∧ toShed = true then (s.dropFeeder k toShed).restorationChoice
        else (s.dropFeeder k toShed).releaseCursor k).syncFeeders := rfl

theorem dropFeeder_acts (s : State) (k : Fin 12) (toShed : Bool) : FeedersAct s (s.dropFeeder k toShed) :=
  ⟨_, _, _, _, _, rfl⟩

/-- R137: a SAW START changes nothing, or makes claim 4 in STOPPED. -/
theorem sawStart_cases (s : State) :
    (∃ st, st ≠ .ok ∧ s.sawStart = (s, st))
      ∨ s.saw.state = .stopped
        ∧ s.claimRequestStatus 4 s.set.tables.saw.start.startSurge (some s.set.tables.saw.start.runAmount) = .ok
        ∧ s.sawStart =
          ((s.acceptClaim 4 s.set.tables.saw.start.startSurge (some s.set.tables.saw.start.runAmount) none
            s.set.tables.saw.start.startLead none .saw 0).moveSaw .startWait .allOff, .ok) := by
  unfold State.sawStart
  split
  · exact .inl ⟨_, by decide, rfl⟩
  · next stopped =>
    split
    · exact .inl ⟨_, by decide, rfl⟩
    · dsimp only
      split
      · next passes => exact .inr ⟨not_not.1 stopped, passes, rfl⟩
      · next refused => exact .inl ⟨_, refused, rfl⟩

/-- R140: the amount and the tag of the claim that a feed makes. -/
def State.feedAmount (s : State) : Direction → Nat
  | .forward => s.set.tables.saw.feed.feedAmount
  | .back => s.set.tables.saw.feed.returnAmount

def feedTag : Direction → Nat
  | .forward => 1
  | .back => 2

/-- R140: SAW FEED or SAW RETURN changes nothing, or makes claim 5 in RUN or in a shed hold. -/
theorem sawFeed_cases (s : State) (d : Direction) :
    (∃ st, st ≠ .ok ∧ s.sawFeed d = (s, st))
      ∨ (s.saw.state = .run ∨ ∃ e, s.saw.state = .feedHold .shed e)
        ∧ s.claimRequestStatus 5 (s.feedAmount d) none = .ok
        ∧ s.sawFeed d =
          ((s.acceptClaim 5 (s.feedAmount d) none none s.set.tables.saw.feed.feedLead none .saw (feedTag d)).moveSaw
            (.feedWait d) .running, .ok) := by
  unfold State.sawFeed
  extract_lets ready feed amount tag
  split
  · exact .inl ⟨_, by decide, rfl⟩
  · next isReady =>
    have state : s.saw.state = .run ∨ ∃ e, s.saw.state = .feedHold .shed e := by
      cases hs : s.saw.state with
      | run => exact .inl rfl
      | feedHold r e =>
        cases r with
        | shed => exact .inr ⟨e, rfl⟩
        | overload | manual => exact absurd (show ready = false by simp [ready, hs]) (by simpa using isReady)
      | _ => exact absurd (show ready = false by simp [ready, hs]) (by simpa using isReady)
    split
    · exact .inl ⟨_, by decide, rfl⟩
    · split
      · next passes => exact .inr ⟨state, by cases d <;> exact passes, by cases d <;> rfl⟩
      · next refused => exact .inl ⟨_, refused, rfl⟩

theorem answer_acts (s : State) (l : Link) (code : Byte) (st : Status) : LinksAct s (s.answer l code st) := ⟨_, _, _, rfl⟩

theorem reachTick_acts (s : State) (t : Nat) : LinksAct s (s.reachTick t) := ⟨_, _, _, rfl⟩

theorem sendAll_acts (s : State) (ms : List Instr) : LinksAct s (s.sendAll ms) := ⟨_, _, _, rfl⟩

theorem arrive_acts (s : State) (m : Instr) : LinksAct s (s.arrive m) := ⟨_, _, _, rfl⟩

theorem onLink_acts (s : State) (l : Link) (f : LinkContext → LinkContext) : LinksAct s (s.onLink l f) := ⟨_, _, _, rfl⟩

/-! ### The commands of each block

The commands that act on one block alone, the commands about claims, which may reach the contactors too, and the rest: the
resets, a cycle, a frame and the commits. -/

inductive Block where
  | links | regulator | measurement | feeders | saw | settings | claims | other
  deriving DecidableEq

/-- The block whose command this is. -/
def blockOf : Instr → Block
  | .powerOnReset => .other
  | .panelReset => .other
  | .resetRelease _ => .other
  | .cycleCompletion _ _ _ => .other
  | .halfCycleMidpoint => .regulator
  | .silenceExpiry => .regulator
  | .warmBandExpiry => .regulator
  | .shedTimingExpiry => .regulator
  | .fastTimingExpiry => .regulator
  | .recoveryTimingExpiry => .regulator
  | .runawayTimingExpiry => .regulator
  | .tripTimingExpiry => .regulator
  | .budgetRaiseRequest => .regulator
  | .budgetClearRequest => .regulator
  | .downStep _ => .regulator
  | .upStep _ => .regulator
  | .leadLineReport _ => .regulator
  | .allowanceStateReport _ => .claims
  | .feederStateReport _ => .feeders
  | .sawStateReport _ => .saw
  | .measurementStateReport _ => .measurement
  | .linkStateReport _ _ => .links
  | .waitExpiry _ => .claims
  | .dueEvent _ => .claims
  | .surgeExpiry _ => .claims
  | .surgeEndRequest => .claims
  | .endRequest _ _ => .claims
  | .feederAdmissionReport _ => .feeders
  | .feederCarriedReport _ => .feeders
  | .feederEndingReport _ _ => .claims
  | .sawAdmissionReport _ => .links
  | .sawCarriedReport _ => .saw
  | .sawEndingReport _ _ => .saw
  | .shedRequest _ => .saw
  | .stepTimingHalfMark => .feeders
  | .stepTimingFullMark => .feeders
  | .restoreHoldExpiry => .claims
  | .staggerExpiry => .claims
  | .feederFeedbackChange _ _ => .feeders
  | .followTimingExpiry _ => .feeders
  | .stuckTimingExpiry _ => .feeders
  | .bladePulse => .saw
  | .bladeWindowEnd => .saw
  | .bladeQuietExpiry => .saw
  | .starTimeExpiry => .saw
  | .deadTimeExpiry => .saw
  | .sawFeedbackChange _ _ => .saw
  | .disagreementTimingExpiry _ => .saw
  | .limitChange _ _ => .saw
  | .estopChange _ => .saw
  | .overloadTimingExpiry => .saw
  | .resumeTimingExpiry => .saw
  | .divergenceTimingExpiry => .measurement
  | .agreementTimingExpiry => .measurement
  | .proposalExpiry _ => .settings
  | .keyChange _ => .settings
  | .selectFall _ => .links
  | .orderFrame _ _ _ => .other
  | .supervisionExpiry _ => .links
  | .linkLossReportAllowance _ => .claims
  | .linkLossReportSaw _ => .saw
  | .null _ => .links
  | .readNotices _ => .links
  | .setNoticeMask _ _ => .links
  | .openWindow _ _ _ _ => .settings
  | .loadData _ _ => .other
  | .supervise _ _ => .links
  | .readLink _ => .links
  | .readResetCause _ => .links
  | .readStation _ => .links
  | .ackTrip _ => .regulator
  | .declare _ _ => .claims
  | .claim _ _ => .claims
  | .withdraw _ _ => .claims
  | .release _ _ => .claims
  | .readClaim _ _ => .links
  | .readTable _ _ _ _ => .links
  | .confirm _ _ => .other
  | .reject _ _ => .settings
  | .feederOn _ _ => .claims
  | .feederOff _ _ => .feeders
  | .feederClear _ _ => .feeders
  | .readFeeder _ _ => .links
  | .sawStart _ => .claims
  | .sawStop _ => .saw
  | .sawFeed _ => .claims
  | .sawReturn _ => .claims
  | .sawHold _ => .saw
  | .sawResume _ => .saw
  | .sawClearFault _ => .saw
  | .readSaw _ => .links
  | .takeSnapshot _ => .measurement
  | .readSnapshot _ => .measurement

variable {i : Instr} {s t : State}

/-- A read, or a command of the links, acts on the links alone. -/
theorem linksCommand_acts (command : blockOf i = .links) (run : exec i s = .next t) : LinksAct s t := by
  have arrives (m : Instr) (u : State) (h : LinksAct s u) : LinksAct s (u.arrive m) := h.trans ⟨_, _, _, rfl⟩
  have kept : Keeps (LinksAct s) i := by
    cases i with
    | linkStateReport l r =>
      exact keeps_of_arrival (fun _ => rfl) (arrives _) fun u _ h => h.trans (linkReport_acts u l r)
    | sawAdmissionReport c => exact keeps_of_arrival (f := id) (fun _ => rfl) (arrives _) fun _ _ h => h
    | selectFall l => exact keeps_of_next (fun _ => rfl) fun u h => h.trans (selectFall_acts u l)
    | supervisionExpiry l => exact keeps_of_effect (fun _ => rfl) fun u _ h => h.trans (supervisionExpiry_acts u l)
    | null l =>
      exact keeps_of_arrival (f := fun u => u.answer l Code.null .ok) (fun _ => rfl) (arrives _) fun _ _ h =>
        h.trans ⟨_, _, _, rfl⟩
    | readNotices l =>
      exact keeps_of_arrival (fun _ => rfl) (arrives _) fun u _ h => h.trans (readNotices_acts u l)
    | setNoticeMask l m =>
      exact keeps_of_arrival (fun _ => rfl) (arrives _) fun u _ h => h.trans (setNoticeMask_acts u l m)
    | supervise l p =>
      exact keeps_of_arrival (fun _ => rfl) (arrives _) fun u _ h => h.trans (supervise_acts u l p)
    | readLink l => exact keeps_of_arrival (fun _ => rfl) (arrives _) fun u _ h => h.trans (readLink_acts u l)
    | readResetCause l =>
      exact keeps_of_arrival (f := fun u => u.reply l Code.readResetCause .ok (u8 (resetCauseCode u.cause))) (fun _ =>
        rfl) (arrives _) fun _ _ h => h.trans ⟨_, _, _, rfl⟩
    | readStation l =>
      exact keeps_of_arrival (f := fun u => u.reply l Code.readStation .ok u.stationRecord) (fun _ => rfl) (arrives _) fun _ _ h => h.trans ⟨_, _, _, rfl⟩
    | readClaim l n =>
      exact keeps_of_arrival (fun _ => rfl) (arrives _) fun u _ h => h.trans (readClaim_acts u l n)
    | readTable l t r c =>
      exact keeps_of_arrival (fun _ => rfl) (arrives _) fun u _ h => h.trans (readTable_acts u l t r c)
    | readFeeder l k =>
      exact keeps_of_arrival (fun _ => rfl) (arrives _) fun u _ h => h.trans (readFeeder_acts u l k)
    | readSaw l =>
      exact keeps_of_arrival (f := fun u => u.reply l Code.readSaw .ok u.sawRecord) (fun _ => rfl) (arrives _) fun _ _ h => h.trans ⟨_, _, _, rfl⟩
    | _ => cases command
  exact kept s t run (.refl s)

/-- A command of the regulator acts on it alone. -/
theorem regulatorCommand_acts (command : blockOf i = .regulator) (run : exec i s = .next t) : RegulatorActs s t := by
  have arrives (m : Instr) (u : State) (h : RegulatorActs s u) : RegulatorActs s (u.arrive m) := h.trans ⟨_, _, _, _, rfl⟩
  have kept : Keeps (RegulatorActs s) i := by
    cases i with
    | halfCycleMidpoint => exact keeps_of_effect (fun _ => rfl) fun u _ h => h.trans (halfCycle_acts u)
    | silenceExpiry => exact keeps_of_effect (fun _ => rfl) fun u _ h => h.trans (silence_acts u)
    | warmBandExpiry => exact keeps_of_effect (fun _ => rfl) fun u _ h => h.trans (expireWarmBand_acts u)
    | shedTimingExpiry => exact keeps_of_effect (fun _ => rfl) fun u _ h => h.trans (expireShed_acts u)
    | fastTimingExpiry => exact keeps_of_effect (fun _ => rfl) fun u _ h => h.trans (expireFast_acts u)
    | recoveryTimingExpiry => exact keeps_of_effect (fun _ => rfl) fun u _ h => h.trans (expireRecovery_acts u)
    | runawayTimingExpiry => exact keeps_of_effect (fun _ => rfl) fun u _ h => h.trans (expireRunaway_acts u)
    | tripTimingExpiry => exact keeps_of_effect (fun _ => rfl) fun u _ h => h.trans (expireTrip_acts u)
    | budgetRaiseRequest =>
      exact keeps_of_arrival (fun _ => rfl) (arrives _) fun u _ h => h.trans (budgetRaise_acts u)
    | budgetClearRequest =>
      exact keeps_of_arrival (fun _ => rfl) (arrives _) fun u _ h => h.trans (budgetClear_acts u)
    | downStep a => exact keeps_of_arrival (fun _ => rfl) (arrives _) fun u _ h => h.trans (downStep_acts u a)
    | upStep a => exact keeps_of_arrival (fun _ => rfl) (arrives _) fun u _ h => h.trans (upStep_acts u a)
    | leadLineReport r =>
      exact keeps_of_arrival (fun _ => rfl) (arrives _) fun u _ h => h.trans (leadLineReport_acts u r)
    | ackTrip l =>
      exact keeps_of_arrival (f := fun u => (u.ackTrip l).1.answer l Code.ackTrip (u.ackTrip l).2) (fun _ => rfl) (arrives _) fun u _ h => (h.trans (ackTrip_acts u l)).trans ⟨_, _, _, _, rfl⟩
    | _ => cases command
  exact kept s t run (.refl s)

/-- A command of the Measurement Unit acts on it alone. -/
theorem measurementCommand_acts (command : blockOf i = .measurement) (run : exec i s = .next t) : MeasurementActs s t := by
  have arrives (m : Instr) (u : State) (h : MeasurementActs s u) : MeasurementActs s (u.arrive m) := h.trans ⟨_, _, _, _, rfl⟩
  have kept : Keeps (MeasurementActs s) i := by
    cases i with
    | measurementStateReport r =>
      exact keeps_of_arrival (fun _ => rfl) (arrives _) fun u _ h => h.trans (measurementReport_acts u r)
    | divergenceTimingExpiry => exact keeps_of_effect (fun _ => rfl) fun u _ h => h.trans (divergence_acts u)
    | agreementTimingExpiry => exact keeps_of_effect (fun _ => rfl) fun u _ h => h.trans (agreement_acts u)
    | takeSnapshot l =>
      exact keeps_of_arrival (fun _ => rfl) (arrives _) fun u _ h => h.trans (takeSnapshot_acts u l)
    | readSnapshot l =>
      exact keeps_of_arrival (fun _ => rfl) (arrives _) fun u _ h => h.trans (readSnapshot_acts u l)
    | _ => cases command
  exact kept s t run (.refl s)

/-- A command of the Feeder Controller that asks for no claim acts on it alone. -/
theorem feedersCommand_acts (command : blockOf i = .feeders) (run : exec i s = .next t) : FeedersAct s t := by
  have arrives (m : Instr) (u : State) (h : FeedersAct s u) : FeedersAct s (u.arrive m) := h.trans ⟨_, _, _, _, _, rfl⟩
  have kept : Keeps (FeedersAct s) i := by
    cases i with
    | feederStateReport r =>
      exact keeps_of_arrival (fun _ => rfl) (arrives _) fun u _ h => h.trans (feederStateReport_acts u r)
    | feederAdmissionReport k =>
      exact keeps_of_arrival (fun _ => rfl) (arrives _) fun u _ h => h.trans (feederAdmission_acts u k)
    | feederCarriedReport k =>
      exact keeps_of_arrival (fun _ => rfl) (arrives _) fun u _ h => h.trans (feederCarried_acts u k)
    | stepTimingHalfMark => exact keeps_of_effect (fun _ => rfl) fun u _ h => h.trans (stepHalfMark_acts u)
    | stepTimingFullMark => exact keeps_of_effect (fun _ => rfl) fun u _ h => h.trans (stepFullMark_acts u)
    | feederFeedbackChange k b => exact keeps_of_next (fun _ => rfl) fun u h => h.trans (feederFeedback_acts u k b)
    | followTimingExpiry k => exact keeps_of_effect (fun _ => rfl) fun u _ h => h.trans (followTiming_acts u k)
    | stuckTimingExpiry k => exact keeps_of_effect (fun _ => rfl) fun u _ h => h.trans (stuckTiming_acts u k)
    | feederOff l k =>
      exact keeps_of_arrival (fun _ => rfl) (arrives _) fun u _ h => h.trans (feederOffEffect_acts u l k)
    | feederClear l k =>
      exact keeps_of_arrival (fun _ => rfl) (arrives _) fun u _ h => h.trans (feederClearEffect_acts u l k)
    | _ => cases command
  exact kept s t run (.refl s)

/-- A command of the Saw Sequencer that asks for no claim acts on it alone. -/
theorem sawCommand_acts (command : blockOf i = .saw) (run : exec i s = .next t) : SawActs s t := by
  have arrives (m : Instr) (u : State) (h : SawActs s u) : SawActs s (u.arrive m) := h.trans ⟨_, _, _, _, _, rfl⟩
  have kept : Keeps (SawActs s) i := by
    cases i with
    | sawStateReport r =>
      exact keeps_of_arrival (fun _ => rfl) (arrives _) fun u _ h => h.trans (sawStateReport_acts u r)
    | sawCarriedReport c =>
      exact keeps_of_arrival (fun _ => rfl) (arrives _) fun u _ h => h.trans (sawCarried_acts u c)
    | sawEndingReport c o =>
      exact keeps_of_arrival (fun _ => rfl) (arrives _) fun u _ h => h.trans (sawEnding_acts u c o)
    | shedRequest t =>
      exact keeps_of_arrival (fun _ => rfl) (arrives _) fun u _ h => h.trans (shedRequest_acts u t)
    | bladePulse => exact keeps_of_effect (fun _ => rfl) fun u _ h => h.trans (bladePulse_acts u)
    | bladeWindowEnd => exact keeps_of_effect (fun _ => rfl) fun u _ h => h.trans (bladeWindow_acts u)
    | bladeQuietExpiry => exact keeps_of_effect (fun _ => rfl) fun u _ h => h.trans (bladeQuiet_acts u)
    | starTimeExpiry => exact keeps_of_effect (fun _ => rfl) fun u _ h => h.trans (starTime_acts u)
    | deadTimeExpiry => exact keeps_of_effect (fun _ => rfl) fun u _ h => h.trans (deadTime_acts u)
    | sawFeedbackChange c b => exact keeps_of_next (fun _ => rfl) fun u h => h.trans (sawFeedback_acts u c b)
    | disagreementTimingExpiry c => exact keeps_of_effect (fun _ => rfl) fun u _ h => h.trans (disagreement_acts u c)
    | limitChange w b => exact keeps_of_next (fun _ => rfl) fun u h => h.trans (limitChange_acts u w b)
    | estopChange b => exact keeps_of_next (fun _ => rfl) fun u h => h.trans (estop_acts u b)
    | overloadTimingExpiry => exact keeps_of_effect (fun _ => rfl) fun u _ h => h.trans (overloadTiming_acts u)
    | resumeTimingExpiry => exact keeps_of_effect (fun _ => rfl) fun u _ h => h.trans (resumeTiming_acts u)
    | linkLossReportSaw l =>
      exact keeps_of_arrival (fun _ => rfl) (arrives _) fun u _ h => h.trans (linkLossSaw_acts u l)
    | sawStop l =>
      exact keeps_of_arrival (fun _ => rfl) (arrives _) fun u _ h => h.trans (sawOrder_acts u l _
        sawStop_acts)
    | sawHold l =>
      exact keeps_of_arrival (fun _ => rfl) (arrives _) fun u _ h => h.trans (sawOrder_acts u l _
        sawHold_acts)
    | sawResume l =>
      exact keeps_of_arrival (fun _ => rfl) (arrives _) fun u _ h => h.trans (sawOrder_acts u l _
        sawResume_acts)
    | sawClearFault l =>
      exact keeps_of_arrival (fun _ => rfl) (arrives _) fun u _ h => h.trans (sawOrder_acts u l _
        sawClearFault_acts)
    | _ => cases command
  exact kept s t run (.refl s)

/-- A command of the Settings Unit that commits nothing leaves the tables. -/
theorem settingsCommand_acts (command : blockOf i = .settings) (run : exec i s = .next t) : ProposalsAct s t := by
  have arrives (m : Instr) (u : State) (h : ProposalsAct s u) : ProposalsAct s (u.arrive m) := h.trans ⟨_, _, _, _, _, _, _, _, rfl⟩
  have kept : Keeps (ProposalsAct s) i := by
    cases i with
    | proposalExpiry t => exact keeps_of_effect (fun _ => rfl) fun u _ h => h.trans (proposalExpiry_acts t u)
    | keyChange k => exact keeps_of_next (fun _ => rfl) fun u h => h.trans (keyChange_acts k u)
    | openWindow l t a b =>
      exact keeps_of_arrival (fun _ => rfl) (arrives _) fun u _ h => h.trans (openWindow_acts l t a b u)
    | reject l t => exact keeps_of_arrival (fun _ => rfl) (arrives _) fun u _ h => h.trans (reject_acts l t u)
    | _ => cases command
  exact kept s t run (.refl s)

end Sys2Proof.Machine

namespace Sys2Proof.Machine

/-! ### Laws of the Allowance Unit

A law that reads the Allowance Unit and the committed BANDS table alone is kept by every step once it is kept by the
operations below: letting a claim go, admitting the head, the due event, a surge's end, a new claim, the budget check, a new
division of the declaration, and the reports of a station change. -/

/-- A claim as a CLAIM or a block's request makes it (R48): WAITING with its wait deadline alone, its amounts in order, and a
binding that its number allows and that no other claim holds. -/
structure NewClaim (s : State) (n : Fin 24) (c : Claim) : Prop where
  state : c.state = .waiting
  waits : c.waitDeadline.isSome = true
  noDue : c.dueTime = none
  noSurgeEnd : c.surgeEnd = none
  surgeEnded : c.surgeEnded = c.runAmount.map fun _ => false
  amount : 1 ≤ c.amount
  runAmount : c.runAmount.getD 0 ≤ c.amount
  surgeTime : c.surgeTime.isSome = true → c.runAmount.isSome = true
  binding : bindingFits n c.binding = true
  outputFree : ∀ (m : Fin 24) (x : Fin 6), (s.claim m).state ≠ .free → (s.claim m).binding = .aux x → c.binding ≠ .aux x

/-- R48: a claim joins the queue. -/
def State.enqueue (s : State) (n : Fin 24) (c : Claim) : State :=
  { s.setClaim n c with alw := { (s.setClaim n c).alw with queue := s.alw.queue ++ [n] } }

/-- R54, R55: a surge has ended, before what follows of it. -/
def State.surgeOver (s : State) (n : Fin 24) : State :=
  s.setClaim n { s.claim n with surgeEnded := some true, surgeEnd := none }

/-- R77: the Allowance Unit takes the report of a change. -/
def State.withReport (s : State) (r : LastReport) : State := { s with alw := { s.alw with lastReport := r } }

/-- What an admission, a new claim, the end of a surge, the budget check and a new division keep, where the rest of the part
does not touch it. -/
structure AdmissionLaw (P : State → Prop) : Prop where
  frame : ∀ {s t : State}, t.alw = { s.alw with stale := t.alw.stale } → t.set.tables.bands = s.set.tables.bands → P s → P t
  admitHead : ∀ {s : State} {n : Fin 24} {rest : List (Fin 24)}, s.alw.queue = n :: rest → s.headPasses n = true → P s →
    P (s.admitHead n rest)
  surgeOver : ∀ {s : State} {n : Fin 24}, (s.claim n).state = .carried →
    (s.claim n).surgeEnded = some false ∨ (s.claim n).surgeEnd.isSome = true → P s → P (s.surgeOver n)
  enqueue : ∀ {s : State} {n : Fin 24} {c : Claim}, s.reported ≠ .black → (s.claim n).state = .free →
    s.alw.queue.length < 4 → NewClaim s n c → P s → P (s.enqueue n c)
  budgetCheck : ∀ {s : State}, P s → P s.budgetCheck
  /-- A new declaration or new reserves: the bands are divided anew and the budget is checked, but where they stay. -/
  divide : ∀ {s t : State} (d : Nat) (stale : Bool),
    t.alw = { s.alw with d := d, stale := stale, bands := bandsFor d t.set.tables.bands } → P s → P t.budgetCheck
  divideSame : ∀ {s t : State}, t.alw = s.alw → s.alw.bands = bandsFor s.alw.d t.set.tables.bands → P s → P t

/-- A law that the letting go of a claim, a due event, the reports of a station change and the resets keep too. -/
structure AllowanceLaw (P : State → Prop) : Prop extends AdmissionLaw P where
  letGo : ∀ {s : State} (n : Fin 24) (o : Ending), P s → P (s.letGo n o)
  dueEvent : ∀ {s : State} {m : Mark}, m ∈ s.alw.line → P s → P (s.dueEvent m)
  reportLive : ∀ {s : State} {r : LastReport}, r.state ≠ .black → P s → P (s.withReport r)
  reportBlack : ∀ {s : State} {r : LastReport}, r.state = .black → P s → P (s.withReport r).cancelAll
  initial : ∀ {s : State}, s.alw = .initial → P s

namespace AdmissionLaw

variable {P : State → Prop} (law : AdmissionLaw P) {s : State}
include law

/-! What leaves the Allowance Unit and the reserves as they are keeps the law. -/

theorem same {t : State} (alw : t.alw = s.alw) (set : t.set = s.set) (h : P s) : P t :=
  law.frame (by rw [alw]) (by rw [set]) h

theorem links {t : State} (acts : LinksAct s t) (h : P s) : P t := by
  obtain ⟨_, _, _, rfl⟩ := acts; exact law.same (s := s) rfl rfl h
theorem regulator {t : State} (acts : RegulatorActs s t) (h : P s) : P t := by
  obtain ⟨_, _, _, _, rfl⟩ := acts; exact law.same (s := s) rfl rfl h
theorem measurement {t : State} (acts : MeasurementActs s t) (h : P s) : P t := by
  obtain ⟨_, _, _, _, rfl⟩ := acts; exact law.same (s := s) rfl rfl h
theorem feeders {t : State} (acts : FeedersAct s t) (h : P s) : P t := by
  obtain ⟨_, _, _, _, _, rfl⟩ := acts; exact law.same (s := s) rfl rfl h
theorem saw {t : State} (acts : SawActs s t) (h : P s) : P t := by
  obtain ⟨_, _, _, _, _, rfl⟩ := acts; exact law.same (s := s) rfl rfl h

/-! The compound operations of the Allowance Unit. -/

theorem consider (h : P s) : P s.consider :=
  consider_induction s (fun _ _ _ queue passes ht => law.admitHead queue passes ht) h

theorem budgetCheckInDeficit (h : P s) : P s.budgetCheckInDeficit := by
  unfold State.budgetCheckInDeficit
  split
  · exact law.budgetCheck h
  · exact h

theorem afterRelease (was : ClaimState) (wasHead : Bool) (h : P s) : P (s.afterRelease was wasHead) := by
  unfold State.afterRelease
  split
  · exact h
  · split
    · exact law.consider h
    · exact h
  all_goals exact law.consider (law.budgetCheckInDeficit h)

theorem endSurge {n : Fin 24} (carried : (s.claim n).state = .carried)
    (surges : (s.claim n).surgeEnded = some false ∨ (s.claim n).surgeEnd.isSome = true) (h : P s) : P (s.endSurge n) :=
  law.consider (law.budgetCheckInDeficit (law.same (s := s.surgeOver n) rfl rfl (law.surgeOver carried surges h)))

theorem acceptClaim {n : Fin 24} {amount : Nat} {run surge : Option Nat} {lead : Nat} {wait : Option Nat} {b : Binding}
    {tag : Nat} (live : s.reported ≠ .black) (free : (s.claim n).state = .free) (room : s.alw.queue.length < 4)
    (positive : 1 ≤ amount) (ordered : run.getD 0 ≤ amount) (surgeRuns : surge.isSome = true → run.isSome = true)
    (binding : bindingFits n b = true)
    (outputFree : ∀ (m : Fin 24) (x : Fin 6), (s.claim m).state ≠ .free → (s.claim m).binding = .aux x → b ≠ .aux x)
    (h : P s) : P (s.acceptClaim n amount run surge lead wait b tag) := by
  have joined := law.enqueue live free room (c := {
    state := .waiting, amount := amount, runAmount := run, surgeEnded := run.map fun _ => false,
    surgeTime := surge, leadTime := lead, waitLimit := wait, binding := b, tag := tag,
    waitDeadline := some (s.clock + Config.tenths (wait.getD Config.defaultWaitTenths)), dueTime := none,
    surgeEnd := none, last := (s.claim n).last }) ⟨rfl, rfl, rfl, rfl, rfl, positive, ordered, surgeRuns, binding, outputFree⟩ h
  unfold State.acceptClaim
  dsimp only
  split
  · exact law.consider joined
  · exact joined

/-! The requests of the blocks, and the claims of the stations. -/

theorem requestClaim {n : Fin 24} {amount : Nat} {run : Option Nat} {lead : Nat} {wait : Option Nat} {b : Binding}
    {tag : Nat} (passes : s.claimRequestStatus n amount run = .ok) (binding : bindingFits n b = true)
    (noOutput : ∀ x, b ≠ .aux x) (h : P s) : P (s.acceptClaim n amount run none lead wait b tag) := by
  obtain ⟨live, free, -, positive, ordered, room⟩ := claimRequestStatus_ok passes
  exact law.acceptClaim live free room positive ordered (by simp) binding (fun _ x _ _ => noOutput x) h

theorem requestFeeder (k : Fin 12) (h : P s) : P (s.requestFeeder k).1 := by
  unfold State.requestFeeder
  dsimp only
  split
  · next passes => exact law.requestClaim passes (bindingFits_feeder k) (by simp) h
  · exact h

theorem restorationChoice (h : P s) : P s.restorationChoice := by
  unfold State.restorationChoice
  split
  · exact law.same (s := s) rfl rfl h
  · next k _ =>
    have requested := law.requestFeeder k h
    split
    · next t request => rw [request] at requested; exact law.same (s := t) rfl rfl requested
    · next t _ _ request => rw [request] at requested; exact law.same (s := t) rfl rfl requested

theorem feederOn (k : Fin 12) (h : P s) : P (s.feederOn k).1 := by
  unfold State.feederOn
  split
  · exact h
  · split
    · exact h
    · have requested := law.requestFeeder k h
      split
      · next t request => rw [request] at requested; exact law.same (s := t) rfl rfl requested
      · next t _ _ request => rw [request] at requested; exact requested

theorem feederLetGo (k : Fin 12) (toShed : Bool) (h : P s) : P (s.feederLetGo k toShed) := by
  have dropped := law.feeders (dropFeeder_acts s k toShed) h
  rw [feederLetGo_eq]
  refine law.feeders (syncFeeders_acts _) ?_
  split
  · exact law.restorationChoice dropped
  · exact law.feeders (releaseCursor_acts _ k) dropped

theorem sawStart (h : P s) : P s.sawStart.1 := by
  obtain ⟨st, -, unchanged⟩ | ⟨-, passes, made⟩ := sawStart_cases s
  · rw [unchanged]; exact h
  · rw [made]
    exact law.saw (moveSaw_acts _ _ _) (law.requestClaim passes (n := 4) (b := .saw) rfl (by simp) h)

theorem sawFeed (d : Direction) (h : P s) : P (s.sawFeed d).1 := by
  obtain ⟨st, -, unchanged⟩ | ⟨-, passes, made⟩ := sawFeed_cases s d
  · rw [unchanged]; exact h
  · rw [made]
    exact law.saw (moveSaw_acts _ _ _) (law.requestClaim passes (n := 5) (b := .saw) rfl (by simp) h)

theorem commit (c : TableCopy) (h : P s) : P (s.commit c) := by
  cases c with
  | channels t =>
    have stored : P { s with set := { s.set with tables := s.set.tables.store (.channels t) } } :=
      law.frame (s := s) rfl rfl h
    unfold State.commit
    dsimp only
    split
    · exact law.same (s := { s with set := _ }) rfl rfl stored
    · exact stored
  | bands t =>
    unfold State.commit
    dsimp only
    split
    · next stays =>
      have unmoved : s.alw.bands = bandsFor s.alw.d t := stays.symm
      exact law.divideSame (s := s) (by simp [State.recomputeBands, Tables.store, ← unmoved]) unmoved h
    · exact law.consider (law.divide (s := s) s.alw.d s.alw.stale rfl h)
  | saw t => exact law.frame (s := s) rfl rfl h
  | feeders t => exact law.frame (s := s) rfl rfl h
  | shedOrder t => exact law.frame (s := s) rfl rfl h
  | thresholds t => exact law.frame (s := s) rfl rfl h

theorem proposals {t : State} (acts : ProposalsAct s t) (h : P s) : P t := by
  obtain ⟨_, _, _, _, _, _, _, _, rfl⟩ := acts; exact law.frame (s := s) rfl rfl h

theorem takeLoad (l : Link) (t : TableId) (staging : List (List Byte)) (h : P s) : P (s.takeLoad l t staging).1 := by
  unfold State.takeLoad
  split
  · exact h
  · split
    · exact h
    · split
      · exact law.commit _ h
      · split
        · split
          · exact law.commit _ h
          · exact h
        · exact law.proposals (propose_acts s l _ _) h

theorem sync (h : P s) : P s.sync := law.same (s := s) rfl rfl h

theorem cycleCompletion (interval : Nat) (first : Sample) (rest : List Sample) (h : P s) :
    P (cycleCompletionEffect interval first rest s) := by
  have counted (m : CycleMark) : P ((s.takeCrossing interval).regulatorCycle m interval) :=
    law.regulator ((takeCrossing_acts s interval).trans (regulatorCycle_acts _ m interval)) h
  have posted (t : State) (pg ps pb : Nat) (ht : P t) : P (t.post pg ps pb) := by
    have moved : P { t with meas := { t.meas with pg := pg, ps := ps, pb := pb } } := law.same (s := t) rfl rfl ht
    exact law.measurement ((((capturePosting_acts _ .l1).trans (capturePosting_acts _ .l2)).trans
      (capturePosting_acts _ .l3)).trans (judgeDiscrepancy_acts _)) (law.saw (judgeOverload_acts _) moved)
  unfold cycleCompletionEffect
  dsimp only
  split
  · exact law.feeders (stepBetweenMarks_acts _) (law.consider (posted _ _ _ _ (counted _)))
  · exact law.consider (counted _)
  · exact law.consider (counted _)

theorem surgeExpiry (n : Fin 24) (h : P s) : P (surgeExpiryEffect n s) := by
  unfold surgeExpiryEffect
  split
  · next t carried surges =>
    exact law.endSurge (s := s.reachTick t) carried (.inr (Option.isSome_iff_exists.2 ⟨t, surges⟩))
      (law.links (reachTick_acts s _) h)
  · exact h

theorem surgeEndRequest (h : P s) : P (surgeEndRequestEffect s) := by
  unfold surgeEndRequestEffect
  split
  · next surges => exact law.endSurge surges.1 (.inl surges.2) h
  · exact h

theorem loadData (l : Link) (bytes : List Byte) (h : P s) : P (loadDataEffect l bytes s) := by
  unfold loadDataEffect
  split
  · exact law.links (answer_acts _ _ _ _) h
  · split
    · exact law.links (answer_acts _ _ _ _) h
    · dsimp only
      split
      · exact law.links (answer_acts _ _ _ _) (law.links (onLink_acts s _ _) h)
      · exact law.links (answer_acts _ _ _ _) (law.takeLoad _ _ _ (law.links (onLink_acts s _ _) h))

theorem declare (l : Link) (d : Nat) (h : P s) : P (declareEffect l d s) := by
  unfold declareEffect
  split
  · exact law.links (answer_acts _ _ _ _) (law.consider (law.divide (s := s) d false rfl h))
  · exact law.links (answer_acts _ _ _ _) h

theorem claim (l : Link) (o : ClaimOperands) (h : P s) : P (claimEffect l o s) := by
  unfold claimEffect
  split
  · exact law.links (answer_acts _ _ _ _) h
  · next n passes =>
    obtain ⟨live, field, free, sound, output, room⟩ := claimCheck_ok passes
    obtain ⟨positive, -, run, -, -, binding⟩ := (claimOperandsSound_iff n o).1 sound
    refine law.links (answer_acts _ _ _ _) (law.acceptClaim live free room positive ?_ ?_ ?_
      ((outputHeld_eq_false_iff s _).1 output) h)
    · obtain ⟨run, -⟩ | ⟨r, t, run, -, le, -⟩ := run <;> simp [*]
    · obtain ⟨run, surge⟩ | ⟨r, t, run, surge, -⟩ := run <;> simp [run, surge]
    · simpa [bindingFits, blockOwner_of_freeClaims (mem_freeClaims_of_field field)] using binding

theorem confirm (l : Link) (t : TableId) (h : P s) : P (confirmEffect l t s) := by
  unfold confirmEffect
  split
  · exact law.links (answer_acts _ _ _ _) h
  · split
    · exact law.links (answer_acts _ _ _ _) (law.commit _ (law.proposals (endProposal_acts s _ _) h))
    · exact law.links (answer_acts _ _ _ _) (law.proposals (endProposal_acts s _ _) h)

theorem feederOnEffect (l : Link) (k : Nat) (h : P s) : P (feederOnEffect l k s) := by
  unfold Sys2Proof.Machine.feederOnEffect
  split
  · exact law.links (answer_acts _ _ _ _) h
  · exact law.links (answer_acts _ _ _ _) (law.feederOn _ h)

theorem feederEnding (k : Fin 12) (o : Ending) (h : P s) : P (feederEndingEffect k o s) := by
  unfold feederEndingEffect
  dsimp only
  split
  · split
    · exact law.feederLetGo k _ h
    · exact h
  · split
    · exact law.feederLetGo k _ h
    · exact h
  · split
    · exact law.feederLetGo k _ h
    · exact h
  all_goals exact h

theorem restoreHold (h : P s) : P (restoreHoldEffect s) := by
  unfold restoreHoldEffect
  split
  · exact law.feeders (syncFeeders_acts _) (law.restorationChoice (law.links (reachTick_acts s _) h))
  all_goals exact h

theorem stagger (h : P s) : P (staggerEffect s) := by
  unfold staggerEffect
  split
  · exact law.feeders (syncFeeders_acts _) (law.restorationChoice (law.links (reachTick_acts s _) h))
  all_goals exact h

theorem sawOrder (l : Link) (code : Byte) {f : State → State × Status} (hf : ∀ t, P t → P (f t).1) (h : P s) :
    P (sawOrder l code f s) := by
  unfold Sys2Proof.Machine.sawOrder
  split
  · exact law.links (answer_acts _ _ _ _) h
  · exact law.links (answer_acts _ _ _ _) (hf s h)

theorem resetRelease (strap : Bool) (h : P s) : P (resetReleaseEffect strap s) := by
  unfold resetReleaseEffect
  split
  · have released : P (s.released strap).sync := law.frame (s := s) rfl rfl h
    unfold State.startChecks
    dsimp only
    split
    · exact law.saw (faultSaw_acts _ _) released
    · exact law.saw (judgeLimits_acts _) released
  · exact h

theorem arrives (i : Instr) (h : P s) : P (s.arrive i) := law.links (arrive_acts s i) h

end AdmissionLaw

namespace AllowanceLaw

variable {P : State → Prop} (law : AllowanceLaw P) {s : State}
include law

theorem endClaim (n : Fin 24) (o : Ending) (h : P s) : P (s.endClaim n o) := law.afterRelease _ _ (law.letGo n o h)

theorem cancelClaim (n : Fin 24) (h : P s) : P (s.cancelClaim n) := by
  unfold State.cancelClaim
  split
  · exact h
  · exact law.links (sendAll_acts _ _) (law.letGo n _ h)

theorem cancelMark (n : Fin 24) (h : P s) : P (s.cancelMark n) := by
  unfold State.cancelMark
  split
  · exact law.letGo n _ (law.links (arrive_acts s _) h)
  · exact law.cancelClaim n h

theorem cancelMarks (h : P s) : P s.cancelMarks := by
  have fold (ns : List (Fin 24)) (t : State) (ht : P t) :
      P (ns.foldl (fun t n => (t.cancelMark n).budgetCheckInDeficit) t) := by
    induction ns generalizing t with
    | nil => exact ht
    | cons n ns ih => exact ih _ (law.budgetCheckInDeficit (law.cancelMark n ht))
  exact law.budgetCheck (fold _ s h)

theorem allowanceReport (r : StateReport) (h : P s) : P (allowanceReportEffect r s) := by
  unfold allowanceReportEffect
  split
  · next e => exact law.sync (law.reportBlack (r := ⟨r.entered, r.reasons⟩) e h)
  · next e => exact law.reportLive (r := ⟨r.entered, r.reasons⟩) (by simp [e]) h
  · next e => exact law.consider (law.reportLive (r := ⟨r.entered, r.reasons⟩) (by simp [e]) h)
  · next e => exact law.sync (law.cancelMarks (law.reportLive (r := ⟨r.entered, r.reasons⟩) (by simp [e]) h))
  · next e => exact law.consider (law.reportLive (r := ⟨r.entered, r.reasons⟩) (by simp [e]) h)

theorem waitExpiry (n : Fin 24) (h : P s) : P (waitExpiryEffect n s) := by
  unfold waitExpiryEffect
  split
  · exact law.afterRelease _ _ (law.links (sendAll_acts _ _) (law.letGo n _ (law.links (reachTick_acts s _) h)))
  · exact h

theorem dueEventEffect (n : Fin 24) (h : P s) : P (dueEventEffect n s) := by
  unfold Sys2Proof.Machine.dueEventEffect
  split
  · exact h
  · next m found =>
    exact law.sync (law.consider (law.dueEvent (s := s.reachTick m.due) (List.mem_of_find?_eq_some found)
      (law.links (reachTick_acts s _) h)))

theorem endRequest (n : Fin 24) (o : Ending) (h : P s) : P (endRequestEffect n o s) := by
  unfold endRequestEffect
  split
  · exact h
  · exact law.sync (law.endClaim n o h)

theorem loseClaim (n : Fin 24) (h : P s) : P (s.loseClaim n) := by
  unfold State.loseClaim
  split
  · exact law.letGo n _ h
  · exact law.budgetCheckInDeficit (law.letGo n _ h)
  all_goals exact h

theorem linkLossAllowance (l : Link) (h : P s) : P (linkLossAllowanceEffect l s) := by
  have fold (ns : List (Fin 24)) (t : State) (ht : P t) : P (ns.foldl State.loseClaim t) := by
    induction ns generalizing t with
    | nil => exact ht
    | cons n ns ih => exact ih _ (law.loseClaim n ht)
  have lost := fold (freeClaims l) { s with alw := { s.alw with stale := s.alw.stale || l = .l1 } }
    (law.frame (s := s) rfl rfl h)
  unfold linkLossAllowanceEffect
  dsimp only
  split
  · exact lost
  · exact law.consider lost

theorem withdraw (l : Link) (n : Nat) (h : P s) : P (withdrawEffect l n s) := by
  unfold withdrawEffect
  split
  · exact law.links (answer_acts _ _ _ _) h
  · split
    · exact law.links (answer_acts _ _ _ _) (law.endClaim _ _ h)
    · exact law.links (answer_acts _ _ _ _) (law.endClaim _ _ h)
    all_goals exact law.links (answer_acts _ _ _ _) h

theorem release (l : Link) (n : Nat) (h : P s) : P (releaseEffect l n s) := by
  unfold releaseEffect
  split
  · exact law.links (answer_acts _ _ _ _) h
  · split
    · exact law.links (answer_acts _ _ _ _) (law.endClaim _ _ h)
    all_goals exact law.links (answer_acts _ _ _ _) h

/-- The commands about claims. -/
theorem claimsCommand {i : Instr} (block : blockOf i = .claims) : Keeps P i := by
  cases i with
  | allowanceStateReport r =>
    exact keeps_of_arrival (fun _ => rfl) (fun _ => law.arrives _) fun _ _ => law.allowanceReport r
  | waitExpiry n => exact keeps_of_effect (fun _ => rfl) fun _ _ => law.waitExpiry n
  | dueEvent n => exact keeps_of_effect (fun _ => rfl) fun _ _ => law.dueEventEffect n
  | surgeExpiry n => exact keeps_of_effect (fun _ => rfl) fun _ _ => law.surgeExpiry n
  | surgeEndRequest => exact keeps_of_arrival (fun _ => rfl) (fun _ => law.arrives _) fun _ _ => law.surgeEndRequest
  | endRequest n o => exact keeps_of_arrival (fun _ => rfl) (fun _ => law.arrives _) fun _ _ => law.endRequest n o
  | feederEndingReport k o =>
    exact keeps_of_arrival (fun _ => rfl) (fun _ => law.arrives _) fun _ _ => law.feederEnding k o
  | restoreHoldExpiry => exact keeps_of_effect (fun _ => rfl) fun _ _ => law.restoreHold
  | staggerExpiry => exact keeps_of_effect (fun _ => rfl) fun _ _ => law.stagger
  | linkLossReportAllowance l =>
    exact keeps_of_arrival (fun _ => rfl) (fun _ => law.arrives _) fun _ _ => law.linkLossAllowance l
  | declare l d => exact keeps_of_arrival (fun _ => rfl) (fun _ => law.arrives _) fun _ _ => law.declare l d
  | claim l o => exact keeps_of_arrival (fun _ => rfl) (fun _ => law.arrives _) fun _ _ => law.claim l o
  | withdraw l n => exact keeps_of_arrival (fun _ => rfl) (fun _ => law.arrives _) fun _ _ => law.withdraw l n
  | release l n => exact keeps_of_arrival (fun _ => rfl) (fun _ => law.arrives _) fun _ _ => law.release l n
  | feederOn l k => exact keeps_of_arrival (fun _ => rfl) (fun _ => law.arrives _) fun _ _ => law.feederOnEffect l k
  | sawStart l =>
    exact keeps_of_arrival (fun _ => rfl) (fun _ => law.arrives _) fun _ _ => law.sawOrder l _ fun _ => law.sawStart
  | sawFeed l =>
    exact keeps_of_arrival (fun _ => rfl) (fun _ => law.arrives _) fun _ _ => law.sawOrder l _ fun _ => law.sawFeed _
  | sawReturn l =>
    exact keeps_of_arrival (fun _ => rfl) (fun _ => law.arrives _) fun _ _ => law.sawOrder l _ fun _ => law.sawFeed _
  | _ => cases block

/-- The resets, a cycle and the commits. -/
theorem otherCommand {i : Instr} (block : blockOf i = .other) (notFrame : ∀ l bytes odd, i ≠ .orderFrame l bytes odd) :
    Keeps P i := by
  cases i with
  | orderFrame l bytes odd => exact absurd rfl (notFrame l bytes odd)
  | powerOnReset => exact keeps_of_next (fun _ => rfl) fun _ _ => law.initial rfl
  | panelReset => exact keeps_of_next (fun _ => rfl) fun _ _ => law.initial rfl
  | resetRelease b => exact keeps_of_next (fun _ => rfl) fun _ => law.resetRelease b
  | cycleCompletion p x xs => exact keeps_of_effect (fun _ => rfl) fun _ _ => law.cycleCompletion p x xs
  | loadData l bs => exact keeps_of_arrival (fun _ => rfl) (fun _ => law.arrives _) fun _ _ => law.loadData l bs
  | confirm l t => exact keeps_of_arrival (fun _ => rfl) (fun _ => law.arrives _) fun _ _ => law.confirm l t
  | _ => cases block

/-- Every command but a frame keeps a law of the Allowance Unit. -/
theorem command (i : Instr) (notFrame : ∀ l bytes odd, i ≠ .orderFrame l bytes odd) : Keeps P i := by
  cases block : blockOf i with
  | links => exact fun _ _ run => law.links (linksCommand_acts block run)
  | regulator => exact fun _ _ run => law.regulator (regulatorCommand_acts block run)
  | measurement => exact fun _ _ run => law.measurement (measurementCommand_acts block run)
  | feeders => exact fun _ _ run => law.feeders (feedersCommand_acts block run)
  | saw => exact fun _ _ run => law.saw (sawCommand_acts block run)
  | settings => exact fun _ _ run => law.proposals (settingsCommand_acts block run)
  | claims => exact law.claimsCommand block
  | other => exact law.otherCommand block notFrame

/-- Every step keeps a law of the Allowance Unit. -/
theorem step {t : State} (run : step s = .next t) (h : P s) : P t :=
  step_keeps (fun s _ h => law.same (s := s) rfl rfl h) (fun s _ h => law.same (s := s) rfl rfl h)
    (commands_keep (fun s _ h => law.same (s := s) rfl rfl h) law.command) run h

end AllowanceLaw

end Sys2Proof.Machine

namespace Sys2Proof.Machine

/-! ### One claim record replaced -/

theorem claim_of_set_self {s t : State} {n : Fin 24} {c : Claim} (h : t.alw.claims = s.alw.claims.set n c) :
    t.claim n = c := by
  simp [State.claim, h]

theorem claim_of_set_ne {s t : State} {n m : Fin 24} {c : Claim} (h : t.alw.claims = s.alw.claims.set n c) (ne : m ≠ n) :
    t.claim m = s.claim m := by
  have : n.val ≠ m.val := fun e => ne (Fin.ext e.symm)
  simp [State.claim, h, this]

/-! ### What the operations make of the claims, the queue and the line -/

@[simp] theorem budgetCheck_claims (s : State) : s.budgetCheck.alw.claims = s.alw.claims := by
  unfold State.budgetCheck; split <;> split <;> rfl
@[simp] theorem budgetCheck_queue (s : State) : s.budgetCheck.alw.queue = s.alw.queue := by
  unfold State.budgetCheck; split <;> split <;> rfl
@[simp] theorem budgetCheck_line (s : State) : s.budgetCheck.alw.line = s.alw.line := by
  unfold State.budgetCheck; split <;> split <;> rfl
@[simp] theorem budgetCheck_d (s : State) : s.budgetCheck.alw.d = s.alw.d := by
  unfold State.budgetCheck; split <;> split <;> rfl
@[simp] theorem budgetCheck_bands (s : State) : s.budgetCheck.alw.bands = s.alw.bands := by
  unfold State.budgetCheck; split <;> split <;> rfl
@[simp] theorem budgetCheck_lastReport (s : State) : s.budgetCheck.alw.lastReport = s.alw.lastReport := by
  unfold State.budgetCheck; split <;> split <;> rfl
@[simp] theorem budgetCheck_claim (s : State) (n : Fin 24) : s.budgetCheck.claim n = s.claim n := by simp [State.claim]

theorem admitHead_alw (s : State) (n : Fin 24) (rest : List (Fin 24)) :
    (s.admitHead n rest).alw =
      { s.alw with
        claims := s.alw.claims.set n
          { s.claim n with
            state := .pending, waitDeadline := none
            dueTime := some (placeMark (s.clock + Config.tenths (s.claim n).leadTime) s.alw.line) }
        queue := rest
        line := insertMark
          { claim := n, due := placeMark (s.clock + Config.tenths (s.claim n).leadTime) s.alw.line,
            amount := (s.claim n).amount } s.alw.line } := by
  unfold State.admitHead; dsimp only; split <;> rfl

theorem dueEvent_alw (s : State) (m : Mark) :
    (s.dueEvent m).alw =
      { s.alw with
        claims := s.alw.claims.set m.claim
          { s.claim m.claim with
            state := .carried, dueTime := none
            surgeEnd := (s.claim m.claim).surgeTime.map fun t => s.clock + Config.tenths t }
        line := s.alw.line.filter fun x => x.claim ≠ m.claim } := by
  unfold State.dueEvent; dsimp only; split <;> rfl

/-! ### The Claim Table, the Admission Queue and the Lead Line (R40, R61, R70) -/

theorem claimTableLaws_congr {s t : State} (claims : t.alw.claims = s.alw.claims) (queue : t.alw.queue = s.alw.queue)
    (line : t.alw.line = s.alw.line) (h : ClaimTableLaws s) : ClaimTableLaws t := by
  have claim (n : Fin 24) : t.claim n = s.claim n := by simp [State.claim, claims]
  simpa only [ClaimTableLaws, QueueLaws, LineLaws, queue, line, claim] using h

/-- A claim that leaves the queue and the line, and is in neither state that they hold, keeps the laws. -/
theorem claimTableLaws_leave {s t : State} {n : Fin 24} {c : Claim} (claims : t.alw.claims = s.alw.claims.set n c)
    (queue : t.alw.queue = s.alw.queue.erase n) (line : t.alw.line = s.alw.line.filter fun m => m.claim ≠ n)
    (state : c.state ≠ .waiting ∧ c.state ≠ .pending) (fits : ClaimFits c) (h : ClaimTableLaws s) : ClaimTableLaws t := by
  obtain ⟨⟨qlen, qnodup, qmem⟩, ⟨llen, lnodup, lmem, apart, marks⟩, allFit⟩ := h
  have self := claim_of_set_self claims
  have others {m : Fin 24} (ne : m ≠ n) := claim_of_set_ne claims ne
  have sub : t.alw.line.Sublist s.alw.line := line ▸ List.filter_sublist
  refine ⟨⟨?_, ?_, fun m => ?_⟩, ⟨?_, ?_, fun m => ?_, ?_, fun m hm => ?_⟩, fun m => ?_⟩
  · exact queue ▸ (List.length_erase_le).trans qlen
  · exact queue ▸ qnodup.erase n
  · rw [queue]
    by_cases e : m = n
    · subst e; simp [self, state, qnodup.not_mem_erase]
    · rw [others e, List.mem_erase_of_ne e, qmem]
  · exact sub.length_le.trans llen
  · exact (sub.map _).nodup lnodup
  · by_cases e : m = n
    · subst e; simp [self, state, line]
    · rw [others e, ← lmem, line]
      simp only [List.mem_map, List.mem_filter, decide_eq_true_eq]
      exact ⟨fun ⟨k, hk, same⟩ => ⟨k, hk.1, same⟩, fun ⟨k, hk, same⟩ => ⟨k, ⟨hk, same ▸ e⟩, same⟩⟩
  · exact apart.sublist sub
  · rw [line, List.mem_filter, decide_eq_true_eq] at hm
    rw [others hm.2]
    exact marks m hm.1
  · by_cases e : m = n
    · subst e; rw [self]; exact fits
    · rw [others e]; exact allFit m

theorem claimFits_freed {c : Claim} (o : Ending) (h : ClaimFits c) : ClaimFits (c.freed o) := by
  obtain ⟨-, -, -, surged, ordered, surge, -, -⟩ := h
  simp only [ClaimFits, Claim.freed]
  simpa [surged, ordered] using surge

theorem claimFits_admitted {c : Claim} (due : Nat) (waiting : c.state = .waiting) (h : ClaimFits c) :
    ClaimFits { c with state := .pending, waitDeadline := none, dueTime := some due } := by
  obtain ⟨-, -, surgeEnd, surged, ordered, surge, positive, fresh⟩ := h
  simp only [waiting, reduceCtorEq, false_and, iff_false] at surgeEnd
  refine ⟨by simp, by simp, by simpa using surgeEnd, surged, ordered, surge, fun _ => positive (by simp [waiting]),
    fun _ => fresh (.inl waiting)⟩

theorem claimFits_connected {c : Claim} (clock : Nat) (pending : c.state = .pending) (h : ClaimFits c) :
    ClaimFits { c with
      state := .carried, dueTime := none, surgeEnd := c.surgeTime.map fun t => clock + Config.tenths t } := by
  obtain ⟨waits, -, -, surged, ordered, surge, positive, fresh⟩ := h
  have unsurged : c.surgeTime.isSome = true → c.surgeEnded = some false := by
    intro present
    obtain ⟨ended, he⟩ := Option.isSome_iff_exists.1 (surged.trans (surge present))
    cases ended with
    | false => exact he
    | true => exact absurd he (fresh (.inr pending))
  refine ⟨by simpa [pending] using waits, by simp, ?_, surged, ordered, surge, fun _ => positive (by simp [pending]),
    by simp⟩
  simpa using unsurged

theorem claimFits_surgeOver {c : Claim} (carried : c.state = .carried)
    (surges : c.surgeEnded = some false ∨ c.surgeEnd.isSome = true) (h : ClaimFits c) :
    ClaimFits { c with surgeEnded := some true, surgeEnd := none } := by
  obtain ⟨waits, due, surgeEnd, surged, ordered, surge, positive, -⟩ := h
  have run : c.runAmount.isSome = true := by
    rcases surges with surges | surges
    · simp [← surged, surges]
    · simp [← surged, (surgeEnd.1 surges).2.1]
  exact ⟨waits, due, by simp, by simp [run], ordered, surge, positive, by simp [carried]⟩

theorem claimFits_new {s : State} {n : Fin 24} {c : Claim} (new : NewClaim s n c) : ClaimFits c :=
  ⟨by simp [new.waits, new.state], by simp [new.noDue, new.state], by simp [new.noSurgeEnd, new.state],
    by simp [new.surgeEnded], new.runAmount, new.surgeTime, fun _ => new.amount, fun _ => by simp [new.surgeEnded]⟩

theorem erase_of_not_waiting {s : State} {n : Fin 24} (h : QueueLaws s) (state : (s.claim n).state ≠ .waiting) :
    s.alw.queue.erase n = s.alw.queue :=
  List.erase_of_not_mem fun mem => state ((h.2.2 n).1 mem)

theorem filter_of_not_pending {s : State} {n : Fin 24} (h : LineLaws s) (state : (s.claim n).state ≠ .pending) :
    (s.alw.line.filter fun m => m.claim ≠ n) = s.alw.line := by
  obtain ⟨-, -, mem, -⟩ := h
  refine List.filter_eq_self.2 fun m hm => decide_eq_true fun e => state ?_
  exact (mem n).1 (List.mem_map.2 ⟨m, hm, e⟩)

theorem claimTableLaws_letGo {s : State} (n : Fin 24) (o : Ending) (h : ClaimTableLaws s) :
    ClaimTableLaws (s.letGo n o) := by
  by_cases free : (s.claim n).state = .free
  · rwa [letGo_free s o free]
  obtain ⟨queueLaws, lineLaws, fits⟩ := h
  have alw := letGo_alw s o free
  refine claimTableLaws_leave (s := s) (n := n) (c := (s.claim n).freed o) (by rw [alw]) ?_ ?_ (by simp [Claim.freed])
    (claimFits_freed o (fits n)) ⟨queueLaws, lineLaws, fits⟩
  · rw [alw]
    by_cases w : (s.claim n).state = .waiting
    · simp [w]
    · simp [w, erase_of_not_waiting queueLaws w]
  · rw [alw]
    by_cases p : (s.claim n).state = .pending
    · simp [p]
    · simp only [p, if_false]; exact (filter_of_not_pending lineLaws p).symm

theorem claimTableLaws_dueEvent {s : State} {m : Mark} (hm : m ∈ s.alw.line) (h : ClaimTableLaws s) :
    ClaimTableLaws (s.dueEvent m) := by
  have ⟨queueLaws, ⟨_, _, lineMem, _⟩, fits⟩ := h
  have pending : (s.claim m.claim).state = .pending := (lineMem _).1 (List.mem_map_of_mem hm)
  have alw := dueEvent_alw s m
  refine claimTableLaws_leave (n := m.claim) (by rw [alw]) ?_ (by rw [alw]) (by simp)
    (claimFits_connected s.clock pending (fits m.claim)) h
  rw [alw, erase_of_not_waiting queueLaws (by simp [pending])]

/-- A new mark keeps the line in order of due time and the marks the step guard apart. -/
theorem insertMark_guarded {m : Mark} : ∀ {line : List Mark}, Guarded line → ApartFrom line m.due →
    Guarded (insertMark m line)
  | [], _, _ => by simp [insertMark]
  | x :: xs, guarded, apart => by
    obtain ⟨before, rest⟩ := List.pairwise_cons.1 guarded
    have fromHead := apart x (by simp)
    simp only [Config.stepGuard] at before fromHead
    unfold insertMark
    split
    · refine List.pairwise_cons.2 ⟨fun y hy => ?_, guarded⟩
      simp only [Config.stepGuard]
      rcases List.mem_cons.1 hy with rfl | hy
      · omega
      · have := before y hy; omega
    · refine List.pairwise_cons.2 ⟨fun y hy => ?_, insertMark_guarded rest fun y hy => apart y (by simp [hy])⟩
      simp only [Config.stepGuard]
      rcases List.mem_cons.1 ((insertMark_perm m xs).mem_iff.1 hy) with rfl | hy
      · omega
      · exact before y hy

theorem headPasses_room {s : State} {n : Fin 24} (h : s.headPasses n = true) : s.alw.line.length < 4 := by
  simp only [State.headPasses, Bool.and_eq_true, decide_eq_true_eq] at h
  obtain ⟨⟨⟨-, room⟩, -⟩, -⟩ := h
  exact room

theorem claimTableLaws_admitHead {s : State} {n : Fin 24} {rest : List (Fin 24)} (head : s.alw.queue = n :: rest)
    (passes : s.headPasses n = true) (h : ClaimTableLaws s) : ClaimTableLaws (s.admitHead n rest) := by
  obtain ⟨⟨qlen, qnodup, qmem⟩, ⟨llen, lnodup, lmem, apart, marks⟩, fits⟩ := h
  have waiting : (s.claim n).state = .waiting := (qmem n).1 (by simp [head])
  have notInRest : n ∉ rest := (List.nodup_cons.1 (head ▸ qnodup)).1
  have notOnLine : n ∉ s.alw.line.map Mark.claim := fun mem => by
    have := (lmem n).1 mem
    simp [waiting] at this
  have alw := admitHead_alw s n rest
  have queue : (s.admitHead n rest).alw.queue = rest := by rw [alw]
  obtain ⟨due, hdue⟩ : ∃ due, due = placeMark (s.clock + Config.tenths (s.claim n).leadTime) s.alw.line := ⟨_, rfl⟩
  rw [← hdue] at alw
  have perm : ((s.admitHead n rest).alw.line).Perm ({ claim := n, due := due, amount := (s.claim n).amount } :: s.alw.line) := by
    rw [alw]; exact insertMark_perm _ _
  have self : (s.admitHead n rest).claim n =
      { s.claim n with state := .pending, waitDeadline := none, dueTime := some due } :=
    claim_of_set_self (s := s) (by rw [alw])
  have others {m : Fin 24} (ne : m ≠ n) : (s.admitHead n rest).claim m = s.claim m :=
    claim_of_set_ne (by rw [alw]) ne
  refine ⟨⟨?_, ?_, fun m => ?_⟩, ⟨?_, ?_, fun m => ?_, ?_, fun m hm => ?_⟩, fun m => ?_⟩
  · rw [queue]; simp only [head, List.length_cons] at qlen; omega
  · rw [queue]; exact (List.nodup_cons.1 (head ▸ qnodup)).2
  · rw [queue]
    by_cases e : m = n
    · subst e; simp [self, notInRest]
    · rw [others e, ← qmem, head, List.mem_cons]; simp [e]
  · rw [perm.length_eq]; exact headPasses_room passes
  · rw [(perm.map Mark.claim).nodup_iff]; exact List.nodup_cons.2 ⟨notOnLine, lnodup⟩
  · rw [(perm.map Mark.claim).mem_iff, List.map_cons, List.mem_cons]
    by_cases e : m = n
    · subst e; simp [self]
    · rw [others e, ← lmem]; simp [e]
  · rw [alw]
    refine insertMark_guarded apart ?_
    rw [hdue]
    exact (placeMark_spec s.alw.line _ apart).2.1
  · rcases List.mem_cons.1 (perm.mem_iff.1 hm) with rfl | hm
    · simp [self]
    · have ne : m.claim ≠ n := fun e => notOnLine (e ▸ List.mem_map_of_mem hm)
      rw [others ne]; exact marks m hm
  · by_cases e : m = n
    · subst e
      rw [self]; exact claimFits_admitted due waiting (fits m)
    · rw [others e]; exact fits m

theorem claimTableLaws_enqueue {s : State} {n : Fin 24} {c : Claim} (free : (s.claim n).state = .free)
    (room : s.alw.queue.length < 4) (new : NewClaim s n c) (h : ClaimTableLaws s) : ClaimTableLaws (s.enqueue n c) := by
  obtain ⟨⟨qlen, qnodup, qmem⟩, ⟨llen, lnodup, lmem, apart, marks⟩, fits⟩ := h
  have notQueued : n ∉ s.alw.queue := fun mem => by
    have := (qmem n).1 mem
    simp [free] at this
  have notOnLine : n ∉ s.alw.line.map Mark.claim := fun mem => by
    have := (lmem n).1 mem
    simp [free] at this
  have self : (s.enqueue n c).claim n = c := claim_of_set_self (s := s) rfl
  have others {m : Fin 24} (ne : m ≠ n) : (s.enqueue n c).claim m = s.claim m := claim_of_set_ne rfl ne
  have queue : (s.enqueue n c).alw.queue = s.alw.queue ++ [n] := rfl
  refine ⟨⟨?_, ?_, fun m => ?_⟩, ⟨llen, lnodup, fun m => ?_, apart, fun m hm => ?_⟩, fun m => ?_⟩
  · rw [queue, List.length_append]; exact room
  · rw [queue]; exact List.nodup_append.2 ⟨qnodup, List.nodup_singleton n, fun m hm k hk => by
      rw [List.mem_singleton.1 hk]; rintro rfl; exact notQueued hm⟩
  · rw [queue, List.mem_append]
    by_cases e : m = n
    · subst e; simp [self, new.state]
    · rw [others e, ← qmem]; simp [e]
  · show m ∈ s.alw.line.map Mark.claim ↔ _
    by_cases e : m = n
    · subst e; simp only [self, new.state]; exact ⟨fun mem => absurd mem notOnLine, fun e => by cases e⟩
    · rw [others e, lmem]
  · have ne : m.claim ≠ n := fun e => notOnLine (e ▸ List.mem_map_of_mem hm)
    rw [others ne]; exact marks m hm
  · by_cases e : m = n
    · subst e
      rw [self]; exact claimFits_new new
    · rw [others e]; exact fits m

theorem claimTableLaws_surgeOver {s : State} {n : Fin 24} (carried : (s.claim n).state = .carried)
    (surges : (s.claim n).surgeEnded = some false ∨ (s.claim n).surgeEnd.isSome = true) (h : ClaimTableLaws s) :
    ClaimTableLaws (s.surgeOver n) := by
  have ⟨queueLaws, lineLaws, fits⟩ := h
  exact claimTableLaws_leave (n := n) rfl
    (erase_of_not_waiting queueLaws (by simp [carried])).symm (filter_of_not_pending lineLaws (by simp [carried])).symm
    (by simp [carried]) (claimFits_surgeOver carried surges (fits n)) h

theorem claim_initial (b : Binding) : (Claim.initial b).state = .free ∧ ClaimFits (Claim.initial b) :=
  ⟨rfl, by simp [ClaimFits, Claim.initial]⟩

/-- R44, R60: every claim record after reset, by its fixed binding. -/
theorem claim_of_initial {s : State} (h : s.alw = .initial) (n : Fin 24) :
    ∃ b : Binding, s.claim n = .initial b ∧ bindingFits n b = true := by
  rw [State.claim, h]
  fin_cases n
  all_goals exact ⟨_, rfl, rfl⟩

theorem claimTableLaws_initial {s : State} (h : s.alw = .initial) : ClaimTableLaws s := by
  have table (n : Fin 24) : (s.claim n).state = .free ∧ ClaimFits (s.claim n) := by
    obtain ⟨b, record, -⟩ := claim_of_initial h n
    exact record ▸ claim_initial b
  refine ⟨⟨by simp [h, Allowance.initial], by simp [h, Allowance.initial], fun n => ?_⟩,
    ⟨by simp [h, Allowance.initial], by simp [h, Allowance.initial], fun n => ?_, by simp [h, Allowance.initial],
      by simp [h, Allowance.initial]⟩, fun n => (table n).2⟩
  · simp [h, Allowance.initial, (table n).1]
  · simp [h, Allowance.initial, (table n).1]

/-- What letting claims go keeps, the report of entry to BLACK keeps too, but for the mark and STALE. -/
theorem foldl_cancelClaim_keeps {P : State → Prop} (letGo : ∀ (t : State) (n : Fin 24), P t → P (t.letGo n .cancelled))
    (sent : ∀ (t : State) (ms : List Instr), P t → P (t.sendAll ms)) (ns : List (Fin 24)) {s : State} (h : P s) :
    P (ns.foldl State.cancelClaim s) := by
  induction ns generalizing s with
  | nil => exact h
  | cons n ns ih =>
    refine ih ?_
    unfold State.cancelClaim
    split
    · exact h
    · exact sent _ _ (letGo s n h)

theorem claimTableLaws_cancelAll {s : State} (h : ClaimTableLaws s) : ClaimTableLaws s.cancelAll := by
  have cancelled := foldl_cancelClaim_keeps (fun _ n ht => claimTableLaws_letGo n _ ht)
    (fun _ _ ht => claimTableLaws_congr rfl rfl rfl ht) allClaims h
  have marked (t : State) (ht : ClaimTableLaws t) :
      ClaimTableLaws { t with alw := { t.alw with stale := true, budgetRaised := false } } :=
    claimTableLaws_congr (s := t) rfl rfl rfl ht
  exact marked _ cancelled

theorem claimTableLaws_budgetCheck {s : State} (h : ClaimTableLaws s) : ClaimTableLaws s.budgetCheck :=
  claimTableLaws_congr (by simp) (by simp) (by simp) h

theorem claimTableLaws_law : AllowanceLaw ClaimTableLaws where
  frame alw _ h := claimTableLaws_congr (by rw [alw]) (by rw [alw]) (by rw [alw]) h
  letGo n o h := claimTableLaws_letGo n o h
  admitHead head passes h := claimTableLaws_admitHead head passes h
  dueEvent hm h := claimTableLaws_dueEvent hm h
  surgeOver carried surges h := claimTableLaws_surgeOver carried surges h
  enqueue _ free room new h := claimTableLaws_enqueue free room new h
  budgetCheck h := claimTableLaws_budgetCheck h
  divide _ _ alw h :=
    claimTableLaws_budgetCheck (claimTableLaws_congr (by rw [alw]) (by rw [alw]) (by rw [alw]) h)
  divideSame alw _ h := claimTableLaws_congr (by rw [alw]) (by rw [alw]) (by rw [alw]) h
  reportLive _ h := claimTableLaws_congr rfl rfl rfl h
  reportBlack _ h := claimTableLaws_cancelAll (claimTableLaws_congr rfl rfl rfl h)
  initial h := claimTableLaws_initial h

/-- Settles O5: each operation of the Allowance Unit keeps the laws of the Claim Table, the queue and the line
(`claimTableLaws_law`), and every step is made of them (`AllowanceLaw.step`). -/
theorem stepKeepsQueueAndLine : Obligations.StepKeepsQueueAndLine :=
  fun _ _ run laws => claimTableLaws_law.step run laws

end Sys2Proof.Machine

namespace Sys2Proof.Machine

/-! ### Entry to BLACK frees every claim (R79) -/

theorem cancelClaim_claim (s : State) (n : Fin 24) : ((s.cancelClaim n).claim n).state = .free := by
  unfold State.cancelClaim
  split
  · next free => exact free
  · next live => rw [sendAll_claim, letGo_claim s _ live]; rfl

theorem cancelClaim_claim_of_ne (s : State) {n m : Fin 24} (ne : m ≠ n) : (s.cancelClaim n).claim m = s.claim m := by
  unfold State.cancelClaim
  split
  · rfl
  · rw [sendAll_claim, letGo_claim_of_ne s _ ne]

theorem foldl_cancelClaim_free (ns : List (Fin 24)) : ∀ (s : State) (n : Fin 24),
    n ∈ ns ∨ (s.claim n).state = .free → ((ns.foldl State.cancelClaim s).claim n).state = .free := by
  induction ns with
  | nil => exact fun s n h => h.resolve_left (by simp)
  | cons m ns ih =>
    intro s n h
    refine ih _ n ?_
    by_cases same : n = m
    · subst same; exact .inr (cancelClaim_claim s n)
    · rw [cancelClaim_claim_of_ne s same]
      exact h.imp_left fun mem => (List.mem_cons.1 mem).resolve_left same

theorem mem_allClaims (n : Fin 24) : n ∈ allClaims := by revert n; decide

/-- What entry to BLACK does to the Allowance Unit once every claim has been let go. -/
def State.markStale (t : State) : State := { t with alw := { t.alw with stale := true, budgetRaised := false } }

theorem cancelAll_eq (s : State) : s.cancelAll = (allClaims.foldl State.cancelClaim s).markStale := by
  unfold State.cancelAll State.markStale
  rfl

theorem cancelAll_claims (s : State) : s.cancelAll.alw.claims = (allClaims.foldl State.cancelClaim s).alw.claims := by
  rw [cancelAll_eq, State.markStale]

theorem cancelAll_free (s : State) (n : Fin 24) : (s.cancelAll.claim n).state = .free := by
  have cancelled := foldl_cancelClaim_free allClaims s n (.inl (mem_allClaims n))
  rwa [State.claim, ← cancelAll_claims] at cancelled

/-! ### Bindings (R44, R45, R79) -/

/-- A claim whose record is replaced keeps the bindings lawful where its binding stays and it does not wake. -/
theorem bindings_update {s t : State} {n : Fin 24} {c : Claim} (claims : t.alw.claims = s.alw.claims.set n c)
    (binding : c.binding = (s.claim n).binding) (awake : c.state ≠ .free → (s.claim n).state ≠ .free)
    (h : BindingsAllowed s ∧ OutputsHeldOnce s) : BindingsAllowed t ∧ OutputsHeldOnce t := by
  obtain ⟨allowed, once⟩ := h
  have same (m : Fin 24) : (t.claim m).binding = (s.claim m).binding
      ∧ ((t.claim m).state ≠ .free → (s.claim m).state ≠ .free) := by
    by_cases e : m = n
    · subst e; rw [claim_of_set_self claims]; exact ⟨binding, awake⟩
    · rw [claim_of_set_ne claims e]; exact ⟨rfl, id⟩
  exact ⟨fun m => (same m).1 ▸ allowed m,
    fun m k x hm hk bm bk => once m k x ((same m).2 hm) ((same k).2 hk) ((same m).1 ▸ bm) ((same k).1 ▸ bk)⟩

theorem bindings_congr {s t : State} (claims : t.alw.claims = s.alw.claims) (h : BindingsAllowed s ∧ OutputsHeldOnce s) :
    BindingsAllowed t ∧ OutputsHeldOnce t := by
  have claim (n : Fin 24) : t.claim n = s.claim n := by simp [State.claim, claims]
  simpa only [BindingsAllowed, OutputsHeldOnce, claim] using h

theorem bindings_letGo {s : State} (n : Fin 24) (o : Ending) (h : BindingsAllowed s ∧ OutputsHeldOnce s) :
    BindingsAllowed (s.letGo n o) ∧ OutputsHeldOnce (s.letGo n o) := by
  by_cases free : (s.claim n).state = .free
  · rwa [letGo_free s o free]
  · exact bindings_update (n := n) (c := (s.claim n).freed o) (by rw [letGo_alw s o free]) rfl (by simp [Claim.freed]) h

theorem bindings_cancelAll {s : State} (h : BindingsAllowed s ∧ OutputsHeldOnce s) :
    BindingsAllowed s.cancelAll ∧ OutputsHeldOnce s.cancelAll := by
  have cancelled := foldl_cancelClaim_keeps (P := fun t => BindingsAllowed t ∧ OutputsHeldOnce t)
    (fun _ n ht => bindings_letGo n _ ht) (fun t _ ht => bindings_congr (s := t) rfl ht) allClaims h
  exact bindings_congr (cancelAll_claims s) cancelled

theorem bindings_enqueue {s : State} {n : Fin 24} {c : Claim} (new : NewClaim s n c)
    (h : BindingsAllowed s ∧ OutputsHeldOnce s) :
    BindingsAllowed (s.enqueue n c) ∧ OutputsHeldOnce (s.enqueue n c) := by
  obtain ⟨allowed, once⟩ := h
  have self : (s.enqueue n c).claim n = c := claim_of_set_self (s := s) rfl
  have others {m : Fin 24} (ne : m ≠ n) : (s.enqueue n c).claim m = s.claim m := claim_of_set_ne rfl ne
  refine ⟨fun m => ?_, fun m k x hm hk bm bk => ?_⟩
  · by_cases e : m = n
    · subst e; rw [self]; exact new.binding
    · rw [others e]; exact allowed m
  · by_cases em : m = n
    · by_cases ek : k = n
      · rw [em, ek]
      · rw [others ek] at hk bk
        rw [em, self] at bm
        exact absurd bm (new.outputFree k x hk bk)
    · rw [others em] at hm bm
      by_cases ek : k = n
      · rw [ek, self] at bk
        exact absurd bk (new.outputFree m x hm bm)
      · rw [others ek] at hk bk
        exact once m k x hm hk bm bk

/-- The laws that O6 speaks of. -/
abbrev BindingLaws (s : State) : Prop := FreeInBlack s ∧ BindingsAllowed s ∧ OutputsHeldOnce s

/-- Where the report stays, a replaced record that does not wake keeps the laws of bindings. -/
theorem bindingLaws_update {s t : State} {n : Fin 24} {c : Claim} (claims : t.alw.claims = s.alw.claims.set n c)
    (report : t.alw.lastReport = s.alw.lastReport) (binding : c.binding = (s.claim n).binding)
    (awake : c.state ≠ .free → (s.claim n).state ≠ .free) (h : BindingLaws s) : BindingLaws t := by
  obtain ⟨free, bindings⟩ := h
  refine ⟨fun black m => ?_, bindings_update claims binding awake bindings⟩
  have allFree := free (by rwa [State.reported, ← report])
  by_cases e : m = n
  · subst e
    rw [claim_of_set_self claims]
    exact by_contra fun live => awake live (allFree m)
  · rw [claim_of_set_ne claims e]; exact allFree m

theorem bindingLaws_congr {s t : State} (claims : t.alw.claims = s.alw.claims)
    (report : t.alw.lastReport = s.alw.lastReport) (h : BindingLaws s) : BindingLaws t := by
  obtain ⟨free, bindings⟩ := h
  have claim (n : Fin 24) : t.claim n = s.claim n := by simp [State.claim, claims]
  exact ⟨fun black m => by rw [claim]; exact free (by rwa [State.reported, ← report]) m, bindings_congr claims bindings⟩

theorem bindingLaws_letGo {s : State} (n : Fin 24) (o : Ending) (h : BindingLaws s) : BindingLaws (s.letGo n o) := by
  by_cases free : (s.claim n).state = .free
  · rwa [letGo_free s o free]
  · exact bindingLaws_update (n := n) (c := (s.claim n).freed o) (by rw [letGo_alw s o free]) (by rw [letGo_alw s o free])
      rfl (by simp [Claim.freed]) h

theorem bindings_initial {s : State} (h : s.alw = .initial) : BindingLaws s := by
  have free (n : Fin 24) : (s.claim n).state = .free := by
    obtain ⟨b, record, -⟩ := claim_of_initial h n
    rw [record]; rfl
  refine ⟨fun _ => free, fun n => ?_, fun n _ _ live => absurd (free n) live⟩
  obtain ⟨b, record, fits⟩ := claim_of_initial h n
  rw [record]; exact fits

theorem waiting_of_head {s : State} {n : Fin 24} {rest : List (Fin 24)} (h : ClaimTableLaws s)
    (head : s.alw.queue = n :: rest) : (s.claim n).state = .waiting := by
  obtain ⟨⟨-, -, mem⟩, -⟩ := h
  exact (mem n).1 (by simp [head])

theorem pending_of_mark {s : State} {m : Mark} (h : ClaimTableLaws s) (hm : m ∈ s.alw.line) :
    (s.claim m.claim).state = .pending := by
  obtain ⟨-, ⟨-, -, mem, -⟩, -⟩ := h
  exact (mem _).1 (List.mem_map_of_mem hm)

theorem bindingLaws_law : AllowanceLaw fun s => ClaimTableLaws s ∧ BindingLaws s where
  frame alw bands h :=
    ⟨claimTableLaws_law.frame alw bands h.1, bindingLaws_congr (by rw [alw]) (by rw [alw]) h.2⟩
  letGo n o h := ⟨claimTableLaws_letGo n o h.1, bindingLaws_letGo n o h.2⟩
  admitHead {s n rest} head passes h :=
    ⟨claimTableLaws_admitHead head passes h.1,
      bindingLaws_update (n := n) (by rw [admitHead_alw]) (by rw [admitHead_alw]) (by rfl)
        (by simp [waiting_of_head h.1 head]) h.2⟩
  dueEvent {s m} hm h :=
    ⟨claimTableLaws_dueEvent hm h.1,
      bindingLaws_update (n := m.claim) (by rw [dueEvent_alw]) (by rw [dueEvent_alw]) (by rfl)
        (by simp [pending_of_mark h.1 hm]) h.2⟩
  surgeOver carried surges h :=
    ⟨claimTableLaws_surgeOver carried surges h.1, bindingLaws_update rfl rfl rfl (by simp [carried]) h.2⟩
  enqueue {s n c} live free room new h :=
    ⟨claimTableLaws_enqueue free room new h.1, fun black => absurd black live, bindings_enqueue new h.2.2⟩
  budgetCheck h := ⟨claimTableLaws_budgetCheck h.1, bindingLaws_congr (by simp) (by simp) h.2⟩
  divide d stale alw h :=
    ⟨claimTableLaws_law.divide d stale alw h.1, bindingLaws_congr (by simp [alw]) (by simp [alw]) h.2⟩
  divideSame alw bands h :=
    ⟨claimTableLaws_law.divideSame alw bands h.1, bindingLaws_congr (by rw [alw]) (by rw [alw]) h.2⟩
  reportLive live h :=
    ⟨claimTableLaws_law.reportLive live h.1, fun black => absurd black live, bindings_congr rfl h.2.2⟩
  reportBlack black h :=
    ⟨claimTableLaws_law.reportBlack black h.1, fun _ => cancelAll_free _, bindings_cancelAll (bindings_congr rfl h.2.2)⟩
  initial h := ⟨claimTableLaws_initial h, bindings_initial h⟩

/-- Settles O6: with the laws of the Claim Table each operation of the Allowance Unit keeps the bindings lawful
(`bindingLaws_law`), and every step is made of them. -/
theorem stepKeepsBindings : Obligations.StepKeepsBindings :=
  fun _ _ run laws free allowed once => (bindingLaws_law.step run ⟨laws, free, allowed, once⟩).2

/-! ### The bands and the common need (R41, R86 to R88) -/

theorem bandsFor_sum (d : Nat) (t : BandsTable) : (bandsFor d t).h + (bandsFor d t).w + (bandsFor d t).c = d := by
  simp only [bandsFor]; omega

theorem committedOf_le {s t : State} (less : ∀ n : Fin 24, (t.claim n).committed ≤ (s.claim n).committed)
    (ns : List (Fin 24)) : t.committedOf ns ≤ s.committedOf ns := by
  induction ns with
  | nil => simp
  | cons n ns ih => simp only [committedOf_cons]; exact Nat.add_le_add (less n) ih

theorem commonNeed_mono (b : Bands) {h h' w w' u u' : Nat} (hh : h ≤ h') (hw : w ≤ w') (hu : u ≤ u') :
    commonNeed b h w u ≤ commonNeed b h' w' u' := by
  simp only [commonNeed]; omega

/-- R88: amounts that fall do not raise the common need. -/
theorem need_le {s t : State} (bands : t.alw.bands = s.alw.bands)
    (less : ∀ n : Fin 24, (t.claim n).committed ≤ (s.claim n).committed) : t.need ≤ s.need := by
  rw [State.need, State.need, bands]
  exact commonNeed_mono _ (committedOf_le less _) (committedOf_le less _) (committedOf_le less _)

abbrev BudgetLaws (s : State) : Prop := BandsDivide s ∧ BudgetHolds s

theorem budgetLaws_of_less {s t : State} (d : t.alw.d = s.alw.d) (bands : t.alw.bands = s.alw.bands)
    (table : t.set.tables.bands = s.set.tables.bands) (mark : t.alw.budgetRaised = s.alw.budgetRaised)
    (less : ∀ n : Fin 24, (t.claim n).committed ≤ (s.claim n).committed) (h : BudgetLaws s) : BudgetLaws t := by
  obtain ⟨divide, holds⟩ := h
  refine ⟨by simpa only [BandsDivide, d, bands, table] using divide, fun clear => ?_⟩
  rw [bands]
  exact (need_le bands less).trans (holds (mark ▸ clear))

/-- One record replaced by one that has committed no more. -/
theorem budgetLaws_update {s t : State} {n : Fin 24} {c : Claim} (claims : t.alw.claims = s.alw.claims.set n c)
    (d : t.alw.d = s.alw.d) (bands : t.alw.bands = s.alw.bands) (table : t.set.tables.bands = s.set.tables.bands)
    (mark : t.alw.budgetRaised = s.alw.budgetRaised) (less : c.committed ≤ (s.claim n).committed) (h : BudgetLaws s) :
    BudgetLaws t := by
  refine budgetLaws_of_less d bands table mark (fun m => ?_) h
  by_cases e : m = n
  · subst e; rw [claim_of_set_self claims]; exact less
  · rw [claim_of_set_ne claims e]

theorem budgetLaws_congr {s t : State} (claims : t.alw.claims = s.alw.claims) (d : t.alw.d = s.alw.d)
    (bands : t.alw.bands = s.alw.bands) (table : t.set.tables.bands = s.set.tables.bands)
    (mark : t.alw.budgetRaised = s.alw.budgetRaised) (h : BudgetLaws s) : BudgetLaws t :=
  budgetLaws_of_less d bands table mark (fun n => by simp [State.claim, claims]) h

/-- R88: after a budget check the bands fit or the mark stands. -/
theorem budgetHolds_budgetCheck (s : State) : BudgetHolds s.budgetCheck := by
  intro clear
  have needs : s.budgetCheck.need = s.need := by
    simp [State.need, State.hSum, State.wSum, State.sSum, State.committedOf]
  rw [needs, budgetCheck_bands]
  by_contra exceeds
  have unfit : s.bandsFit = false := by simpa [State.bandsFit] using exceeds
  unfold State.budgetCheck at clear
  rw [unfit] at clear
  split at clear
  · cases ‹false = true›
  · split at clear
    · next raised => rw [raised] at clear; cases clear
    · cases clear

theorem bandsDivide_budgetCheck {s : State} (h : BandsDivide s) : BandsDivide s.budgetCheck := by
  simpa [BandsDivide] using h

/-- One record of a list of claims replaced. -/
theorem committedOf_update {s t : State} {n : Fin 24} (others : ∀ m : Fin 24, m ≠ n → t.claim m = s.claim m)
    {ns : List (Fin 24)} (nodup : ns.Nodup) :
    t.committedOf ns + (if n ∈ ns then (s.claim n).committed else 0) =
      s.committedOf ns + if n ∈ ns then (t.claim n).committed else 0 := by
  induction ns with
  | nil => simp
  | cons m ns ih =>
    obtain ⟨fresh, nodup⟩ := List.nodup_cons.1 nodup
    have tail := ih nodup
    simp only [committedOf_cons]
    by_cases e : m = n
    · subst e
      simp only [fresh, if_false, List.mem_cons_self, if_true] at tail ⊢
      omega
    · rw [others m e]
      simp only [List.mem_cons, show n ≠ m from fun h => e h.symm, false_or]
      omega

theorem mem_groupOf_claims : ∀ n : Fin 24, n ∈ (groupOf n).claims := by decide

/-- R65: a head that passes fits the bands with its amount added. -/
theorem need_admitHead {s : State} {n : Fin 24} {rest : List (Fin 24)} (waiting : (s.claim n).state = .waiting)
    (passes : s.headPasses n = true) : (s.admitHead n rest).need ≤ s.alw.bands.c := by
  have alw := admitHead_alw s n rest
  have bands : (s.admitHead n rest).alw.bands = s.alw.bands := by rw [alw]
  have self : ((s.admitHead n rest).claim n).committed = (s.claim n).amount := by
    rw [claim_of_set_self (s := s) (t := s.admitHead n rest) (by rw [alw])]; rfl
  have none_ : (s.claim n).committed = 0 := committed_of_free_or_waiting (.inr waiting)
  have sums (g : Group) : (s.admitHead n rest).committedOf g.claims =
      s.committedOf g.claims + if n ∈ g.claims then (s.claim n).amount else 0 := by
    have := committedOf_update (s := s) (t := s.admitHead n rest) (n := n)
      (fun m e => claim_of_set_ne (by rw [alw]) e) (claims_ascending g).nodup
    rw [self, none_] at this
    simpa using this
  have member (g : Group) : n ∈ g.claims ↔ groupOf n = g := by
    constructor
    · exact groupOf_of_mem_claims
    · rintro rfl
      exact mem_groupOf_claims n
  have fits : s.bandFitWith n = true := by
    simp only [State.headPasses, Bool.and_eq_true] at passes
    exact passes.1.2
  rw [State.need, bands, State.hSum, State.wSum, State.sSum, sums, sums, sums]
  simp only [member]
  unfold State.bandFitWith at fits
  cases g : groupOf n <;> rw [g] at fits <;> simpa [State.hSum, State.wSum, State.sSum] using of_decide_eq_true fits

theorem budgetLaws_cancelAll {s : State} (h : BandsDivide s) : BudgetLaws s.cancelAll := by
  have divide := foldl_cancelClaim_keeps (P := BandsDivide)
    (fun t n ht => by
      by_cases free : (t.claim n).state = .free
      · rwa [letGo_free t _ free]
      · simpa only [BandsDivide, letGo_alw t _ free, letGo_set] using ht)
    (fun _ _ ht => ht) allClaims h
  have marked (t : State) (ht : BandsDivide t) : BandsDivide t.markStale := ht
  have cancelled : BandsDivide s.cancelAll := cancelAll_eq s ▸ marked _ divide
  have idle (ns : List (Fin 24)) : s.cancelAll.committedOf ns = 0 := by
    induction ns with
    | nil => rfl
    | cons n ns ih => rw [committedOf_cons, ih, committed_of_free_or_waiting (.inl (cancelAll_free s n))]
  have unclaimed : s.cancelAll.need = 0 := by simp [State.need, State.hSum, State.wSum, State.sSum, idle, commonNeed]
  exact ⟨cancelled, fun _ => unclaimed ▸ Nat.zero_le _⟩

theorem budgetLaws_initial {s : State} (h : s.alw = .initial) : BudgetLaws s := by
  have idle (ns : List (Fin 24)) : s.committedOf ns = 0 := by
    induction ns with
    | nil => rfl
    | cons n ns ih =>
      obtain ⟨b, record, -⟩ := claim_of_initial h n
      rw [committedOf_cons, ih, record]; rfl
  refine ⟨⟨by simp [h, Allowance.initial, bandsFor], by simp [h, Allowance.initial]⟩, fun _ => ?_⟩
  simp [State.need, State.hSum, State.wSum, State.sSum, idle, commonNeed]

theorem budgetLaws_law : AllowanceLaw fun s => ClaimTableLaws s ∧ BudgetLaws s where
  frame alw bands h :=
    ⟨claimTableLaws_law.frame alw bands h.1,
      budgetLaws_congr (by rw [alw]) (by rw [alw]) (by rw [alw]) bands (by rw [alw]) h.2⟩
  letGo {s} n o h := by
    refine ⟨claimTableLaws_letGo n o h.1, ?_⟩
    by_cases free : (s.claim n).state = .free
    · rw [letGo_free s o free]; exact h.2
    · have alw := letGo_alw s o free
      exact budgetLaws_update (n := n) (c := (s.claim n).freed o) (by rw [alw]) (by rw [alw]) (by rw [alw])
        (by rw [letGo_set]) (by rw [alw]) (Nat.zero_le _) h.2
  admitHead {s n rest} head passes h := by
    have alw := admitHead_alw s n rest
    refine ⟨claimTableLaws_admitHead head passes h.1, by simpa only [BandsDivide, alw, admitHead_set] using h.2.1, fun _ => ?_⟩
    have bands : (s.admitHead n rest).alw.bands = s.alw.bands := by rw [alw]
    rw [bands]
    exact need_admitHead (waiting_of_head h.1 head) passes
  dueEvent {s m} hm h := by
    have alw := dueEvent_alw s m
    have pending := pending_of_mark h.1 hm
    obtain ⟨-, -, -, -, -, -, -, fresh⟩ := h.1.2.2 m.claim
    exact ⟨claimTableLaws_dueEvent hm h.1,
      budgetLaws_update (n := m.claim) (by rw [alw]) (by rw [alw]) (by rw [alw])
        (by unfold State.dueEvent; dsimp only; split <;> rfl) (by rw [alw])
        (by simp [Claim.committed, pending, fresh (.inr pending)]) h.2⟩
  surgeOver {s n} carried surges h := by
    obtain ⟨-, -, surgeEnd, surged, ordered, -⟩ := h.1.2.2 n
    have running : (s.claim n).surgeEnded = some false := by
      rcases surges with surges | surges
      · exact surges
      · exact (surgeEnd.1 surges).2.1
    obtain ⟨run, hrun⟩ := Option.isSome_iff_exists.1 (show (s.claim n).runAmount.isSome = true by rw [← surged, running]; rfl)
    refine ⟨claimTableLaws_surgeOver carried surges h.1, budgetLaws_update rfl rfl rfl rfl rfl ?_ h.2⟩
    simpa [Claim.committed, carried, running, hrun] using ordered
  enqueue {s n c} live free room new h :=
    ⟨claimTableLaws_enqueue free room new h.1,
      budgetLaws_update (n := n) rfl rfl rfl rfl rfl (by simp [Claim.committed, new.state]) h.2⟩
  budgetCheck h := ⟨claimTableLaws_budgetCheck h.1, bandsDivide_budgetCheck h.2.1, budgetHolds_budgetCheck _⟩
  divide d stale alw h :=
    ⟨claimTableLaws_law.divide d stale alw h.1,
      bandsDivide_budgetCheck ⟨by rw [alw], by rw [alw]; exact bandsFor_sum _ _⟩, budgetHolds_budgetCheck _⟩
  divideSame {s t} alw bands h := by
    refine ⟨claimTableLaws_law.divideSame alw bands h.1, ⟨by rw [alw, bands], by rw [alw]; exact h.2.1.2⟩, fun clear => ?_⟩
    rw [alw] at clear ⊢
    exact (need_le (by rw [alw]) fun n => by simp [State.claim, alw]).trans (h.2.2 clear)
  reportLive live h := ⟨claimTableLaws_law.reportLive live h.1, budgetLaws_congr rfl rfl rfl rfl rfl h.2⟩
  reportBlack black h := ⟨claimTableLaws_law.reportBlack black h.1, budgetLaws_cancelAll h.2.1⟩
  initial h := ⟨claimTableLaws_initial h, budgetLaws_initial h⟩

/-- Settles O7: with the laws of the Claim Table each operation of the Allowance Unit keeps the division and the budget
(`budgetLaws_law`), and every step is made of them. -/
theorem stepKeepsBudget : Obligations.StepKeepsBudget :=
  fun _ _ run laws divide holds => (budgetLaws_law.step run ⟨laws, divide, holds⟩).2

end Sys2Proof.Machine

namespace Sys2Proof.Machine

/-! ### The laws of the regulator, in the parts that its operations keep

Within a cycle the laws do not hold at once: the ballast stays sound throughout, the timings follow their conditions from
their judgement on, and QUIET is judged last. -/

/-- R5: each timing runs, or has run out, exactly while its condition holds. -/
abbrev TimingsFollow (s : State) : Prop :=
  (s.reg.warmBand ≠ .stopped ↔ s.warmCondition = true) ∧ (s.reg.shed ≠ .stopped ↔ s.shedCondition = true)
    ∧ (s.reg.fast ≠ .stopped ↔ s.fastCondition = true) ∧ (s.reg.recovery ≠ .stopped ↔ s.recoveryCondition = true)
    ∧ (s.reg.runaway ≠ .stopped ↔ s.runawayCondition = true) ∧ (s.reg.trip ≠ .stopped ↔ s.tripCondition = true)

/-- R25: outside BLACK the levels share out Bd. -/
abbrev LevelsShared (s : State) : Prop := s.reg.station ≠ .black → s.reg.levels = levelsFor s.reg.bd s.reg.ratings

/-- The part that no cycle breaks. -/
structure BallastSound (s : State) : Prop where
  ballast : BallastLaws s
  reasons : ReasonsLaw s
  shared : LevelsShared s

/-- The laws of the regulator, with that of QUIET where it has been judged. -/
structure RegulatorSound (judged : Prop) (s : State) : Prop where
  sound : BallastSound s
  history : HistoryLaws s
  timings : TimingsFollow s
  quiet : judged → s.reg.quiet = s.quietCondition

theorem regulatorSound_iff (s : State) :
    RegulatorSound True s ↔ BallastLaws s ∧ HistoryLaws s ∧ ReasonsLaw s ∧ RegulatorTimingsLaw s := by
  constructor
  · rintro ⟨⟨ballast, reasons, shared⟩, history, ⟨warm, shed, fast, recovery, runaway, trip⟩, quiet⟩
    exact ⟨ballast, history, reasons, warm, shed, fast, recovery, runaway, trip, quiet trivial, shared⟩
  · rintro ⟨ballast, history, reasons, warm, shed, fast, recovery, runaway, trip, quiet, shared⟩
    exact ⟨⟨ballast, reasons, shared⟩, history, ⟨warm, shed, fast, recovery, runaway, trip⟩, fun _ => quiet⟩

/-- The laws read the regulator alone. -/
theorem RegulatorSound.of_reg {j : Prop} {s t : State} (h : RegulatorSound j s) (same : t.reg = s.reg) :
    RegulatorSound j t := by
  obtain ⟨⟨ballast, reasons, shared⟩, history, timings, quiet⟩ := h
  cases t
  cases same
  exact ⟨⟨ballast, reasons, shared⟩, history, timings, quiet⟩

/-! ### Timings and conditions -/

theorem judge_ne_stopped (t : Timing) (c : Bool) (clock : Nat) : t.judge c clock ≠ .stopped ↔ c = true := by
  cases c <;> cases t <;> simp [Timing.judge]

theorem expire_ne_stopped (t : Timing) : t.expire ≠ .stopped ↔ t ≠ .stopped := by cases t <;> simp [Timing.expire]

theorem ne_stopped_of_start {t : Timing} {since : Nat} (h : t.start? = some since) : t ≠ .stopped := by
  rintro rfl; cases h

theorem timingsFollow_judgeTimings (s : State) : TimingsFollow s.judgeTimings :=
  ⟨judge_ne_stopped _ _ _, judge_ne_stopped _ _ _, judge_ne_stopped _ _ _, judge_ne_stopped _ _ _,
    judge_ne_stopped _ _ _, judge_ne_stopped _ _ _⟩

theorem timingsFollow_enterStation (s : State) (st : StationState) (r : Reasons) : TimingsFollow (s.enterStation st r) :=
  timingsFollow_judgeTimings { s with reg := { s.reg with station := st, reasons := r } }

theorem quietCondition_black {s : State} (black : s.reg.station = .black) : s.quietCondition = false := by
  simp [State.quietCondition, black]

theorem station_of_warmCondition {s : State} (h : s.warmCondition = true) : s.reg.station = .warming := by
  simp only [State.warmCondition, Bool.and_eq_true, decide_eq_true_eq] at h
  exact h.1

theorem station_of_runawayCondition {s : State} (h : s.runawayCondition = true) : s.reg.station = .regulating := by
  simp only [State.runawayCondition, Bool.and_eq_true, decide_eq_true_eq] at h
  exact h.1.1

/-! ### Ballast -/

theorem BallastSound.setDemand {s : State} (h : BallastSound s) (live : s.reg.station ≠ .black) (x : Int) :
    BallastSound (s.setDemand x) := by
  obtain ⟨⟨-, -, counts, -⟩, reasons, -⟩ := h
  exact ⟨⟨Nat.min_le_right _ _, fun i => levelsFor_le _ _ i, counts, fun black => absurd black live⟩, reasons,
    fun _ => rfl⟩

theorem BallastSound.takeRatings {s : State} (h : BallastSound s) (live : s.reg.station ≠ .black) :
    BallastSound s.takeRatings := by
  unfold State.takeRatings
  split
  · exact h
  · obtain ⟨⟨-, -, counts, -⟩, reasons, -⟩ := h
    exact ⟨⟨Nat.min_le_right _ _, fun i => levelsFor_le _ _ i, counts, fun black => absurd black live⟩, reasons,
      fun _ => rfl⟩

/-- R22: a firing step keeps the counts below 64. -/
theorem BallastSound.fireStep {s : State} (h : BallastSound s) (live : s.reg.station ≠ .black) :
    BallastSound s.fireStep := by
  obtain ⟨⟨bd, levels, counts, -⟩, reasons, shared⟩ := h
  refine ⟨⟨bd, levels, fun i => ?_, fun black => absurd black live⟩, reasons, shared⟩
  have level := levels i
  have count := counts i
  have made : s.fireStep.reg.counts[i] = if 64 ≤ s.reg.counts[i] + s.reg.levels[i] then
      s.reg.counts[i] + s.reg.levels[i] - 64 else s.reg.counts[i] + s.reg.levels[i] := by
    fin_cases i <;> rfl
  rw [made]
  split <;> omega

theorem BallastSound.beginPositive {s : State} (h : BallastSound s) : BallastSound s.beginPositive := by
  unfold State.beginPositive
  split
  · exact h
  · next live => exact h.fireStep live

theorem BallastSound.readThresholds {s : State} (h : BallastSound s) (m : CycleMark) : BallastSound (s.readThresholds m) := by
  obtain ⟨ballast, reasons, shared⟩ := h
  cases m <;> exact ⟨ballast, reasons, shared⟩

theorem BallastSound.countCycle {s : State} (h : BallastSound s) (m : CycleMark) (i : Nat) :
    BallastSound (s.countCycle m i) := by
  obtain ⟨ballast, reasons, shared⟩ := h
  cases m <;> exact ⟨ballast, reasons, shared⟩

theorem BallastSound.loopStep {s : State} (h : BallastSound s) (f : Nat) : BallastSound (s.loopStep f) := by
  unfold State.loopStep
  split
  · exact h
  · next live => exact h.setDemand live _

theorem BallastSound.judgeTimings {s : State} (h : BallastSound s) : BallastSound s.judgeTimings :=
  ⟨h.ballast, h.reasons, h.shared⟩

theorem fullLevels_le : ∀ i : Fin 4, (#v[64, 64, 64, 64] : Vector Nat 4)[i] ≤ 64 := by decide
theorem noCounts_lt : ∀ i : Fin 4, (#v[0, 0, 0, 0] : Vector Nat 4)[i] < 64 := by decide

/-- R31: in BLACK full ballast is sound with whatever ratings the table holds. -/
theorem BallastSound.fullBallast {s : State} (h : BallastSound s) (black : s.reg.station = .black) :
    BallastSound s.fullBallast := by
  obtain ⟨⟨-, -, counts, full⟩, reasons, -⟩ := h
  obtain ⟨-, -, noCounts, conducting⟩ := full black
  exact ⟨⟨le_refl _, fullLevels_le, counts, fun _ => ⟨rfl, rfl, noCounts, conducting⟩⟩, reasons,
    fun live => absurd black live⟩

/-! ### Entering a station state -/

/-- R15: from any state but BLACK the station may enter any state but BLACK. -/
theorem RegulatorSound.enterStation {j k : Prop} {s : State} {st : StationState} {r : Reasons} (h : RegulatorSound j s)
    (live : s.reg.station ≠ .black) (entered : st ≠ .black) (reasons : st ≠ .deficit → r = .empty) :
    RegulatorSound k (s.enterStation st r) := by
  obtain ⟨⟨⟨bd, levels, counts, -⟩, -, shared⟩, ⟨length, valid, discard, heard⟩, -, -⟩ := h
  exact ⟨⟨⟨bd, levels, counts, fun black => absurd black entered⟩, reasons, fun _ => shared live⟩,
    ⟨length, valid, discard, fun _ => heard live⟩, timingsFollow_judgeTimings _, fun _ => rfl⟩

/-- R8, R33: WARMING is entered from BLACK once cycles are heard. -/
theorem RegulatorSound.enterWarming {j k : Prop} {s : State} (h : RegulatorSound j s) (heard : s.reg.history ≠ []) :
    RegulatorSound k s.enterWarming := by
  obtain ⟨⟨⟨bd, -, counts, -⟩, -, -⟩, ⟨length, valid, discard, -⟩, -, -⟩ := h
  exact ⟨⟨⟨bd, fun i => levelsFor_le _ _ i, counts, fun black => StationState.noConfusion black⟩, fun _ => rfl, fun _ => rfl⟩,
    ⟨length, valid, discard, fun _ => heard⟩, timingsFollow_judgeTimings _, fun _ => rfl⟩

/-- R3, R7, R31: the loss of the waveform leaves everything as the laws of BLACK ask. -/
theorem BallastSound.waveformLoss {s : State} (h : BallastSound s)
    (quiet : s.reg.station = .black → s.reg.quiet = s.quietCondition) : RegulatorSound True s.waveformLoss := by
  unfold State.waveformLoss
  dsimp only
  split
  · next black =>
    obtain ⟨ballast, reasons, shared⟩ := h
    refine ⟨⟨ballast, reasons, shared⟩, ⟨by simp, by simp, by simp, fun live => absurd black live⟩,
      timingsFollow_judgeTimings _, fun _ => ?_⟩
    rw [quietCondition_black black] at quiet
    rw [quietCondition_black (by simpa using black)]
    simpa using quiet black
  · refine ⟨⟨⟨le_refl _, fullLevels_le, noCounts_lt, fun _ => ⟨rfl, rfl, rfl, rfl⟩⟩, fun _ => rfl, fun live => absurd rfl live⟩,
      ⟨by simp [State.enterBlack], by simp [State.enterBlack], by simp [State.enterBlack], fun live => absurd rfl live⟩,
      timingsFollow_enterStation _ _ _, fun _ => rfl⟩

/-! ### The timings' expiries -/

section
variable {j : Prop} {s : State}

theorem RegulatorSound.raiseFrequency (h : RegulatorSound j s) : RegulatorSound j s.raiseFrequency := by
  unfold State.raiseFrequency
  split
  · next e => exact h.enterStation (by simp [e]) (by simp) (by simp)
  · next e =>
    obtain ⟨⟨ballast, -, shared⟩, history, timings, quiet⟩ := h
    exact ⟨⟨ballast, fun other => absurd e other, shared⟩, history, timings, quiet⟩
  all_goals exact h

theorem RegulatorSound.leaveDeficit (h : RegulatorSound j s) : RegulatorSound j s.leaveDeficit := by
  unfold State.leaveDeficit
  split
  · next leaves =>
    obtain ⟨e, -⟩ := leaves
    exact h.enterStation (by simp [e]) (by simp) (fun _ => rfl)
  · exact h

theorem RegulatorSound.setTrip (h : RegulatorSound j s) : RegulatorSound j s.setTrip := by
  unfold State.setTrip
  split
  · exact h
  · obtain ⟨⟨ballast, reasons, shared⟩, history, timings, quiet⟩ := h
    exact ⟨⟨ballast, reasons, shared⟩, history, timings, quiet⟩

theorem RegulatorSound.expireWarmBand (h : RegulatorSound j s) : RegulatorSound j s.expireWarmBand := by
  unfold State.expireWarmBand
  split
  · exact h
  · next since runs =>
    have warming := station_of_warmCondition (h.timings.1.1 (ne_stopped_of_start runs))
    obtain ⟨⟨ballast, reasons, shared⟩, history, ⟨warm, others⟩, quiet⟩ := h
    have expired : RegulatorSound j { s.expireAt since (Config.seconds s.reg.inForce.warmUp) with
        reg := { s.reg with warmBand := s.reg.warmBand.expire } } :=
      ⟨⟨ballast, reasons, shared⟩, history, ⟨(expire_ne_stopped _).trans warm, others⟩, quiet⟩
    exact expired.enterStation (by simp [warming]) (by simp) (fun _ => rfl)

theorem RegulatorSound.expireShed (h : RegulatorSound j s) : RegulatorSound j s.expireShed := by
  unfold State.expireShed
  split
  · exact h
  · next since runs =>
    obtain ⟨⟨ballast, reasons, shared⟩, history, ⟨warm, shed, others⟩, quiet⟩ := h
    exact RegulatorSound.raiseFrequency
      ⟨⟨ballast, reasons, shared⟩, history, ⟨warm, (expire_ne_stopped _).trans shed, others⟩, quiet⟩

theorem RegulatorSound.expireFast (h : RegulatorSound j s) : RegulatorSound j s.expireFast := by
  unfold State.expireFast
  split
  · exact h
  · next since runs =>
    obtain ⟨⟨ballast, reasons, shared⟩, history, ⟨warm, shed, fast, others⟩, quiet⟩ := h
    exact RegulatorSound.raiseFrequency
      ⟨⟨ballast, reasons, shared⟩, history, ⟨warm, shed, (expire_ne_stopped _).trans fast, others⟩, quiet⟩

theorem RegulatorSound.expireRecovery (h : RegulatorSound j s) : RegulatorSound j s.expireRecovery := by
  unfold State.expireRecovery
  split
  · exact h
  · next since runs =>
    obtain ⟨⟨ballast, reasons, shared⟩, history, ⟨warm, shed, fast, recovery, others⟩, quiet⟩ := h
    exact RegulatorSound.leaveDeficit
      ⟨⟨ballast, reasons, shared⟩, history, ⟨warm, shed, fast, (expire_ne_stopped _).trans recovery, others⟩, quiet⟩

theorem RegulatorSound.expireRunaway (h : RegulatorSound j s) : RegulatorSound j s.expireRunaway := by
  unfold State.expireRunaway
  split
  · exact h
  · next since runs =>
    obtain ⟨⟨ballast, reasons, shared⟩, history, ⟨warm, shed, fast, recovery, runaway, trip⟩, quiet⟩ := h
    have regulating := station_of_runawayCondition (runaway.1 (ne_stopped_of_start runs))
    have expired : RegulatorSound j { s.expireAt since (Config.tenths s.reg.inForce.runawayDelay) with
        reg := { s.reg with runaway := s.reg.runaway.expire } } :=
      ⟨⟨ballast, reasons, shared⟩, history,
        ⟨warm, shed, fast, recovery, (expire_ne_stopped _).trans runaway, trip⟩, quiet⟩
    exact expired.enterStation (by simp [regulating]) (by simp) (fun _ => rfl)

theorem RegulatorSound.expireTrip (h : RegulatorSound j s) : RegulatorSound j s.expireTrip := by
  unfold State.expireTrip
  split
  · exact h
  · next since runs =>
    obtain ⟨⟨ballast, reasons, shared⟩, history, ⟨warm, shed, fast, recovery, runaway, trip⟩, quiet⟩ := h
    exact RegulatorSound.setTrip
      ⟨⟨ballast, reasons, shared⟩, history, ⟨warm, shed, fast, recovery, runaway, (expire_ne_stopped _).trans trip⟩, quiet⟩

/-- R6: so do the expiries that a THRESHOLDS commit brings forward. -/
theorem RegulatorSound.expireReached (h : RegulatorSound j s) : RegulatorSound j s.expireReached := by
  have when? {f : State → State} (kept : ∀ t, RegulatorSound j t → RegulatorSound j (f t)) {t : State} (b : Bool)
      (ht : RegulatorSound j t) : RegulatorSound j (if b then f t else t) := by
    cases b with
    | false => exact ht
    | true => exact kept t ht
  unfold State.expireReached
  dsimp only
  exact when? (fun _ => expireRunaway) _ (when? (fun _ => expireRecovery) _ (when? (fun _ => expireFast) _
    (when? (fun _ => expireShed) _ (when? (fun _ => expireWarmBand) _ (when? (fun _ => expireTrip) _ h)))))

end

/-! ### A cycle -/

/-- R8, R14, R18: the test of the timings at a valid cycle. -/
theorem BallastSound.testTimings {s : State} (h : BallastSound s) (history : HistoryLaws s) (heard : s.reg.history ≠ [])
    (changed : Bool) : RegulatorSound True (s.testTimings changed) := by
  have judged : RegulatorSound False s.judgeTimings :=
    ⟨h.judgeTimings, history, timingsFollow_judgeTimings s, False.elim⟩
  have moved (t : State) (ht : RegulatorSound False t) (heard : t.reg.history ≠ []) : RegulatorSound False
      (if t.reg.station = .black ∧ t.reg.validRun = Config.validLimit then t.enterWarming
        else if t.reg.station = .runaway ∧ t.filteredIs (fun f => f < t.reg.inForce.runawayExit) = true then
          t.enterStation .regulating .empty
        else t) := by
    split
    · exact ht.enterWarming heard
    · split
      · next leaves =>
        obtain ⟨e, -⟩ := leaves
        exact ht.enterStation (by simp [e]) (by simp) (fun _ => rfl)
      · exact ht
  have expired (t : State) (ht : RegulatorSound False t) : RegulatorSound False (if changed then t.expireReached else t) := by
    cases changed with
    | false => exact ht
    | true => exact ht.expireReached
  obtain ⟨⟨ballast, reasons, shared⟩, history, timings, -⟩ := expired _ (moved _ judged heard)
  exact ⟨⟨ballast, reasons, shared⟩, history, timings, fun _ => rfl⟩

/-- R4: the history holds at most eight frequencies, and one after a valid cycle. -/
theorem joinFrequency_length {h : List Nat} (f : Nat) (bound : h.length ≤ 8) :
    1 ≤ (joinFrequency h f).length ∧ (joinFrequency h f).length ≤ 8 := by
  unfold joinFrequency
  dsimp only
  split
  · next full => simp [Config.historyLimit] at full ⊢; omega
  · next room => simp [Config.historyLimit] at room ⊢; omega

/-- The crossing as counted, with the ratings taken, before the timings are judged. -/
def State.crossed (s : State) (m : CycleMark) (interval : Nat) : State :=
  let s1 := (((s.readThresholds m).beginPositive).countCycle m interval).scheduleMidpoint
  if s1.reg.station = .black then s1 else s1.takeRatings

theorem regulatorCycle_reference (s : State) (i : Nat) :
    s.regulatorCycle .reference i = (s.crossed .reference i).judgeTimings := rfl

theorem regulatorCycle_valid (s : State) (f i : Nat) :
    s.regulatorCycle (.valid f) i =
      ((s.crossed (.valid f) i).loopStep f).testTimings (s.reg.inForce ≠ s.set.tables.thresholds) := rfl

theorem regulatorCycle_discarded (s : State) (f i : Nat) :
    s.regulatorCycle (.discarded f) i =
      if Config.discardLimit ≤ (s.crossed (.discarded f) i).judgeTimings.reg.discardRun then
        (s.crossed (.discarded f) i).judgeTimings.waveformLoss
      else (s.crossed (.discarded f) i).judgeTimings := rfl

theorem BallastSound.crossed {s : State} (h : BallastSound s) (m : CycleMark) (i : Nat) : BallastSound (s.crossed m i) := by
  obtain ⟨ballast, reasons, shared⟩ := ((h.readThresholds m).beginPositive).countCycle m i
  have counted : BallastSound (((s.readThresholds m).beginPositive).countCycle m i).scheduleMidpoint :=
    ⟨ballast, reasons, shared⟩
  unfold State.crossed
  dsimp only
  split
  · exact counted
  · next live => exact counted.takeRatings live

/-- What the ratings leave of a crossing. -/
theorem crossed_reg (s : State) (m : CycleMark) (i : Nat) :
    (s.crossed m i).reg.station = s.reg.station
      ∧ (s.crossed m i).reg.history = ((s.readThresholds m).beginPositive.countCycle m i).reg.history
      ∧ (s.crossed m i).reg.validRun = ((s.readThresholds m).beginPositive.countCycle m i).reg.validRun
      ∧ (s.crossed m i).reg.discardRun = ((s.readThresholds m).beginPositive.countCycle m i).reg.discardRun
      ∧ (s.crossed m i).reg.quiet = s.reg.quiet ∧ (s.crossed m i).reg.lineEmpty = s.reg.lineEmpty := by
  unfold State.crossed
  dsimp only
  split <;> cases m <;> simp [State.readThresholds, State.scheduleMidpoint]

theorem RegulatorSound.regulatorCycle {s : State} (h : RegulatorSound True s) (m : CycleMark) (i : Nat) :
    RegulatorSound True (s.regulatorCycle m i) := by
  have ballast := h.sound.crossed m i
  obtain ⟨station, history, valid, discard, quiet, line⟩ := crossed_reg s m i
  obtain ⟨length, runs, discards, heard⟩ := h.history
  have quietNow := h.quiet trivial
  have stillQuiet (unheard : (s.crossed m i).reg.history = s.reg.history) :
      (s.crossed m i).judgeTimings.reg.quiet = (s.crossed m i).judgeTimings.quietCondition := by
    simp only [State.quietCondition, State.filteredIs, State.filtered] at quietNow ⊢
    simpa [unheard, station, quiet, line] using quietNow
  cases m with
  | reference =>
    rw [regulatorCycle_reference]
    replace history : (s.crossed .reference i).reg.history = s.reg.history := by
      simpa [State.countCycle, State.readThresholds] using history
    replace valid : (s.crossed .reference i).reg.validRun = s.reg.validRun := by
      simpa [State.countCycle, State.readThresholds] using valid
    replace discard : (s.crossed .reference i).reg.discardRun = s.reg.discardRun := by
      simpa [State.countCycle, State.readThresholds] using discard
    refine ⟨ballast.judgeTimings, ?_, timingsFollow_judgeTimings _, fun _ => stillQuiet history⟩
    simpa [HistoryLaws, history, valid, discard, station] using h.history
  | valid f =>
    rw [regulatorCycle_valid]
    replace history : (s.crossed (.valid f) i).reg.history = joinFrequency s.reg.history f := by
      simpa [State.countCycle, State.readThresholds] using history
    replace valid : (s.crossed (.valid f) i).reg.validRun = min (s.reg.validRun + 1) 8 := by
      simpa [State.countCycle, State.readThresholds, Config.validLimit] using valid
    replace discard : (s.crossed (.valid f) i).reg.discardRun = 0 := by
      simpa [State.countCycle, State.readThresholds] using discard
    obtain ⟨some_, most⟩ := joinFrequency_length f length
    have joined : joinFrequency s.reg.history f ≠ [] := List.ne_nil_of_length_pos some_
    refine (ballast.loopStep f).testTimings ?_ (by simpa [history] using joined) _
    simp [HistoryLaws, history, valid, discard, most, joined]
  | discarded f =>
    rw [regulatorCycle_discarded]
    replace history : (s.crossed (.discarded f) i).reg.history = s.reg.history := by
      simpa [State.countCycle, State.readThresholds] using history
    replace valid : (s.crossed (.discarded f) i).reg.validRun = 0 := by
      simpa [State.countCycle, State.readThresholds] using valid
    split
    · exact ballast.judgeTimings.waveformLoss fun _ => stillQuiet history
    · next short =>
      refine ⟨ballast.judgeTimings, ?_, timingsFollow_judgeTimings _, fun _ => stillQuiet history⟩
      simp only [judgeTimings_reg_discardRun, Config.discardLimit, Nat.not_le] at short
      simpa [HistoryLaws, history, valid, short, station, length] using heard

end Sys2Proof.Machine

namespace Sys2Proof.Machine

/-! ### What the commands about claims leave as it was -/

/-- From s to t the regulator, the Measurement Unit, the Settings Unit and the inputs stand, and so does the reset. -/
abbrev ClaimsAct (s t : State) : Prop :=
  t.reg = s.reg ∧ t.meas = s.meas ∧ t.set = s.set ∧ t.pins = s.pins ∧ t.held = s.held

theorem ClaimsAct.refl (s : State) : ClaimsAct s s := ⟨rfl, rfl, rfl, rfl, rfl⟩

theorem ClaimsAct.trans {s t u : State} (h : ClaimsAct s t) (k : ClaimsAct t u) : ClaimsAct s u := by
  obtain ⟨reg, meas, set, pins, held⟩ := h
  obtain ⟨reg', meas', set', pins', held'⟩ := k
  exact ⟨reg'.trans reg, meas'.trans meas, set'.trans set, pins'.trans pins, held'.trans held⟩

/-- ... and the Feeder Controller and the Saw Sequencer stand too. -/
abbrev AllowanceActs (s t : State) : Prop := ClaimsAct s t ∧ t.fdr = s.fdr ∧ t.saw = s.saw

theorem AllowanceActs.refl (s : State) : AllowanceActs s s := ⟨.refl s, rfl, rfl⟩

theorem AllowanceActs.trans {s t u : State} (h : AllowanceActs s t) (k : AllowanceActs t u) : AllowanceActs s u := by
  obtain ⟨others, fdr, saw⟩ := h
  obtain ⟨others', fdr', saw'⟩ := k
  exact ⟨others.trans others', fdr'.trans fdr, saw'.trans saw⟩

section
variable (s : State)

theorem budgetCheck_acts : AllowanceActs s s.budgetCheck := by simp [AllowanceActs, ClaimsAct]

theorem consider_acts : AllowanceActs s s.consider := by simp [AllowanceActs, ClaimsAct]

theorem answer_allowanceActs (l : Link) (code : Byte) (st : Status) : AllowanceActs s (s.answer l code st) :=
  ⟨⟨rfl, rfl, rfl, rfl, rfl⟩, rfl, rfl⟩

theorem sync_acts : ClaimsAct s s.sync := by simp [ClaimsAct]

theorem loseClaim_acts (n : Fin 24) : AllowanceActs s (s.loseClaim n) := by
  unfold State.loseClaim; split <;> simp [AllowanceActs, ClaimsAct]

theorem linkLossAllowance_acts (l : Link) : AllowanceActs s (linkLossAllowanceEffect l s) := by
  have fold (ns : List (Fin 24)) : ∀ t : State, AllowanceActs t (ns.foldl State.loseClaim t) := by
    induction ns with
    | nil => exact fun t => .refl t
    | cons n ns ih => exact fun t => (loseClaim_acts t n).trans (ih _)
  have marked : AllowanceActs s { s with alw := { s.alw with stale := s.alw.stale || l = .l1 } } :=
    ⟨⟨rfl, rfl, rfl, rfl, rfl⟩, rfl, rfl⟩
  have lost := marked.trans (fold (freeClaims l) _)
  unfold linkLossAllowanceEffect
  dsimp only
  split
  · exact lost
  · exact lost.trans (consider_acts _)

theorem cancelClaim_acts (n : Fin 24) : AllowanceActs s (s.cancelClaim n) := by
  unfold State.cancelClaim; split <;> simp [AllowanceActs, ClaimsAct]

theorem cancelMark_acts (n : Fin 24) : AllowanceActs s (s.cancelMark n) := by
  unfold State.cancelMark
  split
  · simp [AllowanceActs, ClaimsAct]
  · exact cancelClaim_acts s n

theorem cancelMarks_acts : AllowanceActs s s.cancelMarks := by
  have checked (t : State) : AllowanceActs t t.budgetCheckInDeficit := by simp [AllowanceActs, ClaimsAct]
  have fold (ns : List (Fin 24)) :
      ∀ t : State, AllowanceActs t (ns.foldl (fun t n => (t.cancelMark n).budgetCheckInDeficit) t) := by
    induction ns with
    | nil => exact fun t => .refl t
    | cons n ns ih => exact fun t => ((cancelMark_acts t n).trans (checked _)).trans (ih _)
  unfold State.cancelMarks
  exact (fold _ s).trans (budgetCheck_acts _)

theorem markStale_acts : AllowanceActs s s.markStale := ⟨⟨rfl, rfl, rfl, rfl, rfl⟩, rfl, rfl⟩

theorem cancelAll_acts : AllowanceActs s s.cancelAll := by
  have fold (ns : List (Fin 24)) : ∀ t : State, AllowanceActs t (ns.foldl State.cancelClaim t) := by
    induction ns with
    | nil => exact fun t => .refl t
    | cons n ns ih => exact fun t => (cancelClaim_acts t n).trans (ih _)
  rw [cancelAll_eq]
  exact (fold _ s).trans (markStale_acts _)

theorem withReport_acts (r : LastReport) : AllowanceActs s (s.withReport r) := ⟨⟨rfl, rfl, rfl, rfl, rfl⟩, rfl, rfl⟩

theorem allowanceReport_acts (r : StateReport) : ClaimsAct s (allowanceReportEffect r s) := by
  unfold allowanceReportEffect
  split
  · exact ((withReport_acts s _).trans (cancelAll_acts _)).1.trans (sync_acts _)
  · exact (withReport_acts s _).1
  · exact ((withReport_acts s _).trans (consider_acts _)).1
  · exact ((withReport_acts s _).trans (cancelMarks_acts _)).1.trans (sync_acts _)
  · exact ((withReport_acts s _).trans (consider_acts _)).1

theorem dueEvent_acts (m : Mark) : AllowanceActs s (s.dueEvent m) := by
  unfold State.dueEvent
  dsimp only
  split <;> simp [AllowanceActs, ClaimsAct]

theorem feederOn_acts (k : Fin 12) : ClaimsAct s (s.feederOn k).1 := by
  have requested : ClaimsAct s (s.requestFeeder k).1 := by simp [ClaimsAct]
  unfold State.feederOn
  split
  · exact .refl s
  · split
    · exact .refl s
    · split
      · next t request => rw [request] at requested; exact requested
      · next t _ _ request => rw [request] at requested; exact requested

theorem sawStart_acts : ClaimsAct s s.sawStart.1 := by
  obtain ⟨st, -, e⟩ | ⟨-, -, e⟩ := sawStart_cases s <;> simp [e, ClaimsAct]

theorem sawFeed_acts (d : Direction) : ClaimsAct s (s.sawFeed d).1 := by
  obtain ⟨st, -, e⟩ | ⟨-, -, e⟩ := sawFeed_cases s d <;> simp [e, ClaimsAct]

theorem sawOrder_claimsAct (l : Link) (code : Byte) {f : State → State × Status} (h : ∀ t, ClaimsAct t (f t).1) :
    ClaimsAct s (sawOrder l code f s) := by
  unfold sawOrder
  split
  · simp [ClaimsAct]
  · exact (h s).trans (answer_allowanceActs _ l _ _).1

end

/-- The commands about claims act on the Allowance Unit, the contactors' units, the messages and the links alone. -/
theorem claimsCommand_acts {i : Instr} {s t : State} (block : blockOf i = .claims) (run : exec i s = .next t) :
    ClaimsAct s t := by
  have kept (f : State → State) (acts : ∀ u, ClaimsAct u (f u)) :
      ∀ u : State, u.held = false → ClaimsAct s u → ClaimsAct s (f u) := fun u _ h => h.trans (acts u)
  have arrives (m : Instr) (u : State) (h : ClaimsAct s u) : ClaimsAct s (u.arrive m) := h
  have all : Keeps (ClaimsAct s) i := by
    cases i with
    | allowanceStateReport r => exact keeps_of_arrival (fun _ => rfl) (arrives _) (kept _ (allowanceReport_acts · r))
    | waitExpiry n =>
      refine keeps_of_effect (fun _ => rfl) (kept _ fun u => ?_)
      unfold waitExpiryEffect; split <;> simp [ClaimsAct]
    | dueEvent n =>
      refine keeps_of_effect (fun _ => rfl) (kept _ fun u => ?_)
      unfold dueEventEffect
      split
      · exact .refl u
      · next m _ =>
        have due : ClaimsAct u ((u.reachTick m.due).dueEvent m) :=
          ClaimsAct.trans (by simp [ClaimsAct]) (dueEvent_acts _ m).1
        exact due.trans (by simp [ClaimsAct])
    | surgeExpiry n =>
      refine keeps_of_effect (fun _ => rfl) (kept _ fun u => ?_)
      unfold surgeExpiryEffect; split <;> simp [ClaimsAct]
    | surgeEndRequest =>
      refine keeps_of_arrival (fun _ => rfl) (arrives _) (kept _ fun u => ?_)
      unfold surgeEndRequestEffect; split <;> simp [ClaimsAct]
    | endRequest n o =>
      refine keeps_of_arrival (fun _ => rfl) (arrives _) (kept _ fun u => ?_)
      unfold endRequestEffect; split <;> simp [ClaimsAct]
    | feederEndingReport k o =>
      refine keeps_of_arrival (fun _ => rfl) (arrives _) (kept _ fun u => ?_)
      unfold feederEndingEffect; dsimp only; split <;> (try split) <;> simp [ClaimsAct]
    | restoreHoldExpiry =>
      refine keeps_of_effect (fun _ => rfl) (kept _ fun u => ?_)
      unfold restoreHoldEffect; split <;> simp [ClaimsAct]
    | staggerExpiry =>
      refine keeps_of_effect (fun _ => rfl) (kept _ fun u => ?_)
      unfold staggerEffect; split <;> simp [ClaimsAct]
    | linkLossReportAllowance l =>
      exact keeps_of_arrival (fun _ => rfl) (arrives _) (kept _ fun u => (linkLossAllowance_acts u l).1)
    | declare l d =>
      refine keeps_of_arrival (fun _ => rfl) (arrives _) (kept _ fun u => ?_)
      unfold declareEffect State.takeDeclaration; split <;> simp [ClaimsAct]
    | claim l o =>
      refine keeps_of_arrival (fun _ => rfl) (arrives _) (kept _ fun u => ?_)
      unfold claimEffect; split <;> simp [ClaimsAct]
    | withdraw l n =>
      refine keeps_of_arrival (fun _ => rfl) (arrives _) (kept _ fun u => ?_)
      unfold withdrawEffect; split <;> (try split) <;> simp [ClaimsAct]
    | release l n =>
      refine keeps_of_arrival (fun _ => rfl) (arrives _) (kept _ fun u => ?_)
      unfold releaseEffect; split <;> (try split) <;> simp [ClaimsAct]
    | feederOn l k =>
      refine keeps_of_arrival (fun _ => rfl) (arrives _) (kept _ fun u => ?_)
      unfold feederOnEffect
      split
      · simp [ClaimsAct]
      · exact (feederOn_acts u _).trans (answer_allowanceActs _ l _ _).1
    | sawStart l => exact keeps_of_arrival (fun _ => rfl) (arrives _) (kept _ (sawOrder_claimsAct · l _ sawStart_acts))
    | sawFeed l => exact keeps_of_arrival (fun _ => rfl) (arrives _) (kept _ (sawOrder_claimsAct · l _ (sawFeed_acts · _)))
    | sawReturn l =>
      exact keeps_of_arrival (fun _ => rfl) (arrives _) (kept _ (sawOrder_claimsAct · l _ (sawFeed_acts · _)))
    | _ => cases block
  exact all s t run (.refl s)

/-- Outside the regulator's own commands, the resets, a cycle and the commits, the regulator stays. -/
theorem command_reg {i : Instr} {s t : State} (notRegulator : blockOf i ≠ .regulator) (notOther : blockOf i ≠ .other)
    (run : exec i s = .next t) : t.reg = s.reg := by
  cases block : blockOf i with
  | links => obtain ⟨_, _, _, rfl⟩ := linksCommand_acts block run; rfl
  | measurement => obtain ⟨_, _, _, _, rfl⟩ := measurementCommand_acts block run; rfl
  | feeders => obtain ⟨_, _, _, _, _, rfl⟩ := feedersCommand_acts block run; rfl
  | saw => obtain ⟨_, _, _, _, _, rfl⟩ := sawCommand_acts block run; rfl
  | settings => obtain ⟨_, _, _, _, _, _, _, _, rfl⟩ := settingsCommand_acts block run; rfl
  | claims => exact (claimsCommand_acts block run).1
  | regulator => exact absurd block notRegulator
  | other => exact absurd block notOther

/-! ### The regulator's own commands -/

section
variable {s : State}

theorem RegulatorSound.halfCycle (h : RegulatorSound True s) : RegulatorSound True (halfCycleEffect s) := by
  unfold halfCycleEffect
  split
  · exact h
  · next t _ =>
    obtain ⟨⟨ballast, reasons, shared⟩, history, timings, quiet⟩ := h
    have begun : RegulatorSound True { s.reach t with reg := { (s.reach t).reg with midpoint := none } } :=
      ⟨⟨ballast, reasons, shared⟩, history, timings, quiet⟩
    dsimp only
    split
    · exact begun
    · next live =>
      exact ⟨begun.sound.fireStep live, begun.history, begun.timings, begun.quiet⟩

theorem RegulatorSound.silence (h : RegulatorSound True s) : RegulatorSound True (silenceEffect s) := by
  unfold silenceEffect
  split
  · exact h
  · obtain ⟨⟨ballast, reasons, shared⟩, -, -, quiet⟩ := h
    exact BallastSound.waveformLoss ⟨ballast, reasons, shared⟩ fun _ => quiet trivial

theorem RegulatorSound.budgetRaise (h : RegulatorSound True s) : RegulatorSound True (budgetRaiseEffect s) := by
  unfold budgetRaiseEffect
  split
  · next e => exact h.enterStation (by simp [e]) (by simp) (by simp)
  · next e => exact h.enterStation (by simp [e]) (by simp) (by simp)
  · next e =>
    obtain ⟨⟨ballast, -, shared⟩, history, timings, quiet⟩ := h
    exact ⟨⟨ballast, fun other => absurd e other, shared⟩, history, timings, quiet⟩
  all_goals exact h

theorem RegulatorSound.budgetClear (h : RegulatorSound True s) : RegulatorSound True (budgetClearEffect s) := by
  unfold budgetClearEffect
  split
  · next e =>
    obtain ⟨⟨ballast, -, shared⟩, history, timings, quiet⟩ := h
    exact RegulatorSound.leaveDeficit ⟨⟨ballast, fun other => absurd e other, shared⟩, history, timings, quiet⟩
  all_goals exact h

theorem RegulatorSound.setDemand (h : RegulatorSound True s) (live : s.reg.station ≠ .black) (x : Int) :
    RegulatorSound True (s.setDemand x) :=
  ⟨h.sound.setDemand live x, h.history, timingsFollow_judgeTimings _, h.quiet⟩

theorem RegulatorSound.downStep (h : RegulatorSound True s) (a : Nat) : RegulatorSound True (downStepEffect a s) := by
  unfold downStepEffect
  split
  · exact h
  · next live => exact h.setDemand live _

theorem RegulatorSound.upStep (h : RegulatorSound True s) (a : Nat) : RegulatorSound True (upStepEffect a s) := by
  unfold upStepEffect
  split
  · exact h
  · next live => exact h.setDemand live _

theorem RegulatorSound.leadLineReport (h : RegulatorSound True s) (r : LineReport) :
    RegulatorSound True (leadLineReportEffect r s) := by
  obtain ⟨⟨ballast, reasons, shared⟩, history, timings, -⟩ := h
  exact ⟨⟨ballast, reasons, shared⟩, history, timings, fun _ => rfl⟩

theorem RegulatorSound.ackTrip (h : RegulatorSound True s) (l : Link) : RegulatorSound True (s.ackTrip l).1 := by
  unfold State.ackTrip
  split
  · exact h
  · split
    · exact h
    · split
      · obtain ⟨⟨ballast, reasons, shared⟩, history, ⟨warm, shed, fast, recovery, runaway, -⟩, quiet⟩ := h
        refine ⟨⟨ballast, reasons, shared⟩, history, ⟨warm, shed, fast, recovery, runaway, ?_⟩, quiet⟩
        change (if s.tripCondition = true then Timing.running s.clock else .stopped) ≠ .stopped ↔ s.tripCondition = true
        split <;> simp [*]
      · exact h

end

/-- The regulator's commands keep its laws. -/
theorem regulatorCommand_keeps {i : Instr} (block : blockOf i = .regulator) : Keeps (RegulatorSound True) i := by
  have arrives (m : Instr) (u : State) (h : RegulatorSound True u) : RegulatorSound True (u.arrive m) := h.of_reg rfl
  cases i with
  | halfCycleMidpoint => exact keeps_of_effect (fun _ => rfl) fun _ _ => RegulatorSound.halfCycle
  | silenceExpiry => exact keeps_of_effect (fun _ => rfl) fun _ _ => RegulatorSound.silence
  | warmBandExpiry => exact keeps_of_effect (fun _ => rfl) fun _ _ => RegulatorSound.expireWarmBand
  | shedTimingExpiry => exact keeps_of_effect (fun _ => rfl) fun _ _ => RegulatorSound.expireShed
  | fastTimingExpiry => exact keeps_of_effect (fun _ => rfl) fun _ _ => RegulatorSound.expireFast
  | recoveryTimingExpiry => exact keeps_of_effect (fun _ => rfl) fun _ _ => RegulatorSound.expireRecovery
  | runawayTimingExpiry => exact keeps_of_effect (fun _ => rfl) fun _ _ => RegulatorSound.expireRunaway
  | tripTimingExpiry => exact keeps_of_effect (fun _ => rfl) fun _ _ => RegulatorSound.expireTrip
  | budgetRaiseRequest => exact keeps_of_arrival (fun _ => rfl) (arrives _) fun _ _ => RegulatorSound.budgetRaise
  | budgetClearRequest => exact keeps_of_arrival (fun _ => rfl) (arrives _) fun _ _ => RegulatorSound.budgetClear
  | downStep a => exact keeps_of_arrival (fun _ => rfl) (arrives _) fun _ _ h => h.downStep a
  | upStep a => exact keeps_of_arrival (fun _ => rfl) (arrives _) fun _ _ h => h.upStep a
  | leadLineReport r => exact keeps_of_arrival (fun _ => rfl) (arrives _) fun _ _ h => h.leadLineReport r
  | ackTrip l =>
    exact keeps_of_arrival (f := fun u => (u.ackTrip l).1.answer l Code.ackTrip (u.ackTrip l).2) (fun _ => rfl)
      (arrives _) fun _ _ h => (h.ackTrip l).of_reg rfl
  | _ => cases block

/-! ### Resets, cycles and commits -/

theorem RegulatorSound.initial {s : State} {ts : Tables} {trip : Bool} (h : s.reg = .initial ts trip) :
    RegulatorSound True s := by
  cases s
  cases h
  refine ⟨⟨⟨le_refl _, fullLevels_le, noCounts_lt, fun _ => ⟨rfl, rfl, rfl, rfl⟩⟩, fun _ => rfl, fun live => absurd rfl live⟩,
    ⟨by simp, by simp, by simp, fun live => absurd rfl live⟩,
    ?_, fun _ => rfl⟩
  simp [TimingsFollow, State.warmCondition, State.shedCondition, State.fastCondition,
    State.recoveryCondition, State.runawayCondition, State.tripCondition, State.filteredIs, State.filtered]

theorem RegulatorSound.commit {s : State} (h : RegulatorSound True s) (c : TableCopy) : RegulatorSound True (s.commit c) := by
  cases c with
  | channels t =>
    have stored : RegulatorSound True { s with set := { s.set with tables := s.set.tables.store (.channels t) } } :=
      h.of_reg rfl
    unfold State.commit
    dsimp only
    split
    · next black =>
      obtain ⟨sound, history, ⟨warm, shed, fast, recovery, -, trip⟩, quiet⟩ := stored
      obtain ⟨-, -, -, -, ⟨runaway, -⟩, -⟩ := h.timings
      refine ⟨sound.fullBallast black, history, ⟨warm, shed, fast, recovery, ⟨fun runs => ?_, fun holds => ?_⟩, trip⟩, quiet⟩
      · have regulating := station_of_runawayCondition (runaway runs)
        exact absurd (black.symm.trans regulating) (by simp)
      · have regulating := station_of_runawayCondition holds
        exact absurd (black.symm.trans regulating) (by simp)
    · exact stored
  | bands t =>
    refine h.of_reg ?_
    unfold State.commit
    dsimp only
    split <;> simp
  | saw t => exact h.of_reg rfl
  | feeders t => exact h.of_reg rfl
  | shedOrder t => exact h.of_reg rfl
  | thresholds t => exact h.of_reg rfl

theorem ProposalsAct.reg {s t : State} (acts : ProposalsAct s t) : t.reg = s.reg := by
  obtain ⟨_, _, _, _, _, _, _, _, rfl⟩ := acts; rfl

theorem RegulatorSound.loadData {s : State} (h : RegulatorSound True s) (l : Link) (bytes : List Byte) :
    RegulatorSound True (loadDataEffect l bytes s) := by
  have loaded (t : State) (ht : RegulatorSound True t) (id : TableId) (staging : List (List Byte)) :
      RegulatorSound True (t.takeLoad l id staging).1 := by
    unfold State.takeLoad
    split
    · exact ht
    · split
      · exact ht
      · split
        · exact ht.commit _
        · split
          · split
            · exact ht.commit _
            · exact ht
          · exact ht.of_reg (propose_acts t l _ _).reg
  unfold loadDataEffect
  split
  · exact h.of_reg rfl
  · split
    · exact h.of_reg rfl
    · dsimp only
      split
      · exact h.of_reg rfl
      · have closed : RegulatorSound True (s.onLink l fun c => { c with window := none }) := h.of_reg rfl
        exact (loaded _ closed _ _).of_reg rfl

theorem RegulatorSound.confirm {s : State} (h : RegulatorSound True s) (l : Link) (t : TableId) :
    RegulatorSound True (confirmEffect l t s) := by
  unfold confirmEffect
  split
  · exact h.of_reg rfl
  · next sh p _ =>
    have ended := h.of_reg (endProposal_acts s sh p).reg
    split
    · exact (ended.commit _).of_reg rfl
    · exact ended.of_reg rfl

theorem RegulatorSound.cycleCompletion {s : State} (h : RegulatorSound True s) (interval : Nat) (first : Sample)
    (rest : List Sample) : RegulatorSound True (cycleCompletionEffect interval first rest s) := by
  have crossed : RegulatorSound True (s.takeCrossing interval) := by
    obtain ⟨⟨ballast, reasons, shared⟩, history, timings, quiet⟩ := h
    unfold State.takeCrossing
    dsimp only
    split <;> exact ⟨⟨ballast, reasons, shared⟩, history, timings, quiet⟩
  have counted := crossed.regulatorCycle (cycleMark s.reg.lastCrossing interval) interval
  unfold cycleCompletionEffect
  dsimp only
  split <;> exact counted.of_reg (by simp_all)

theorem resetRelease_reg (s : State) (strap : Bool) : (resetReleaseEffect strap s).reg = s.reg := by
  unfold resetReleaseEffect State.startChecks
  split
  · dsimp only
    split <;> simp [State.released]
  · rfl

theorem otherCommand_keepsRegulator {i : Instr} (block : blockOf i = .other)
    (notFrame : ∀ l bytes odd, i ≠ .orderFrame l bytes odd) : Keeps (RegulatorSound True) i := by
  have arrives (m : Instr) (u : State) (h : RegulatorSound True u) : RegulatorSound True (u.arrive m) := h.of_reg rfl
  cases i with
  | orderFrame l bytes odd => exact absurd rfl (notFrame l bytes odd)
  | powerOnReset => exact keeps_of_next (fun _ => rfl) fun _ _ => .initial rfl
  | panelReset => exact keeps_of_next (fun _ => rfl) fun _ _ => .initial rfl
  | resetRelease b => exact keeps_of_next (fun _ => rfl) fun s h => h.of_reg (resetRelease_reg s b)
  | cycleCompletion p x xs => exact keeps_of_effect (fun _ => rfl) fun _ _ h => h.cycleCompletion p x xs
  | loadData l bs => exact keeps_of_arrival (fun _ => rfl) (arrives _) fun _ _ h => h.loadData l bs
  | confirm l t => exact keeps_of_arrival (fun _ => rfl) (arrives _) fun _ _ h => h.confirm l t
  | _ => cases block

theorem command_keepsRegulator (i : Instr) (notFrame : ∀ l bytes odd, i ≠ .orderFrame l bytes odd) :
    Keeps (RegulatorSound True) i := by
  by_cases regulator : blockOf i = .regulator
  · exact regulatorCommand_keeps regulator
  · by_cases other : blockOf i = .other
    · exact otherCommand_keepsRegulator other notFrame
    · exact fun _ _ run h => h.of_reg (command_reg regulator other run)

/-- Settles O8: the laws of the regulator, taken together, are kept by each command. -/
theorem stepKeepsRegulatorLaws : Obligations.StepKeepsRegulatorLaws := by
  unfold Obligations.StepKeepsRegulatorLaws
  intro s t run ballast history reasons timings
  have before := (regulatorSound_iff s).2 ⟨ballast, history, reasons, timings⟩
  exact (regulatorSound_iff t).1 (step_keeps (fun _ _ h => h.of_reg rfl) (fun _ _ h => h.of_reg rfl)
    (commands_keep (fun _ _ h => h.of_reg rfl) command_keepsRegulator) run before)

end Sys2Proof.Machine

namespace Sys2Proof.Machine

/-! ### What the law of a link reads

Replies, notices, the mask, the BROKEN flag and the copy kept for READ LINK are not among it, so most commands leave the law
of the links by leaving this core. -/

/-- A link context without what its law does not read. -/
def LinkContext.core (c : LinkContext) : LinkContext :=
  { c with buffer := none, output := none, notices := 0, mask := 0, broken := false, atFrame := { lost := false, window := none } }

def linkCores (ls : PerLink LinkContext) : PerLink LinkContext := { l1 := ls.l1.core, l2 := ls.l2.core, l3 := ls.l3.core }

theorem core_of_linkCores {s t : State} (h : linkCores t.links = linkCores s.links) (l : Link) :
    (t.link l).core = (s.link l).core := by
  simp only [linkCores, PerLink.mk.injEq] at h
  obtain ⟨h1, h2, h3⟩ := h
  cases l
  · exact h1
  · exact h2
  · exact h3

/-- The law of one link. -/
abbrev LinkSound (c : LinkContext) : Prop := LinkFits c ∧ ∀ w ∈ c.window.toList, WindowFits w

theorem linkSound_core (c : LinkContext) : LinkSound c.core ↔ LinkSound c := Iff.rfl

theorem linkLaws_iff (s : State) : LinkLaws s ↔ ∀ l : Link, LinkSound (s.link l) :=
  ⟨fun h l => h l (by cases l <;> simp), fun h l _ => h l⟩

/-- The laws that O10 speaks of. -/
abbrev LinksSound (s : State) : Prop := (∀ l : Link, LinkSound (s.link l)) ∧ ProposalsFit s

theorem LinksSound.of_cores {s t : State} (h : LinksSound s) (links : linkCores t.links = linkCores s.links)
    (set : t.set = s.set) : LinksSound t := by
  obtain ⟨sound, fit⟩ := h
  refine ⟨fun l => ?_, by simpa only [ProposalsFit, set] using fit⟩
  rw [← linkSound_core, core_of_linkCores links, linkSound_core]
  exact sound l

section
variable (s : State)

@[simp] theorem addNotice_cores (l : Link) (k : Notice) : linkCores (s.addNotice l k).links = linkCores s.links := by
  cases l <;> rfl

@[simp] theorem addNotices_cores (ls : List Link) (k : Notice) :
    linkCores (s.addNotices ls k).links = linkCores s.links := by
  unfold State.addNotices
  induction ls generalizing s with
  | nil => rfl
  | cons l ls ih => exact (ih _).trans (addNotice_cores s l k)

@[simp] theorem reply_cores (l : Link) (code : Byte) (st : Status) (data : List Byte) :
    linkCores (s.reply l code st data).links = linkCores s.links := by
  cases l <;> rfl

@[simp] theorem answer_cores (l : Link) (code : Byte) (st : Status) :
    linkCores (s.answer l code st).links = linkCores s.links := reply_cores s l code st []

@[simp] theorem breakLink_cores (l : Link) : linkCores (s.breakLink l).links = linkCores s.links := by
  cases l <;> rfl

theorem NoticesOnly.cores {s t : State} (h : NoticesOnly s t) : linkCores t.links = linkCores s.links := by
  have core (l : Link) : (t.link l).core = (s.link l).core := by rw [h l]; rfl
  exact congrArg₂ (fun a (b : LinkContext × LinkContext) => PerLink.mk a b.1 b.2) (core .l1)
    (congrArg₂ Prod.mk (core .l2) (core .l3))

@[simp] theorem letGo_cores (n : Fin 24) (o : Ending) : linkCores (s.letGo n o).links = linkCores s.links :=
  (letGo_noticesOnly s n o).cores

@[simp] theorem endClaim_cores (n : Fin 24) (o : Ending) : linkCores (s.endClaim n o).links = linkCores s.links := by
  simp [State.endClaim]

@[simp] theorem dueEvent_cores (m : Mark) : linkCores (s.dueEvent m).links = linkCores s.links := by
  unfold State.dueEvent
  dsimp only
  split <;> simp

/-! The regulator. -/

@[simp] theorem setTrip_cores : linkCores s.setTrip.links = linkCores s.links := by
  unfold State.setTrip
  split
  · rfl
  · exact addNotices_cores _ _ _

@[simp] theorem waveformLoss_links : s.waveformLoss.links = s.links := by
  unfold State.waveformLoss State.enterBlack
  dsimp only
  split <;> simp

@[simp] theorem expireTrip_cores : linkCores s.expireTrip.links = linkCores s.links := by
  unfold State.expireTrip State.expireAt; split <;> simp

@[simp] theorem expireWarmBand_links : s.expireWarmBand.links = s.links := by
  unfold State.expireWarmBand State.expireAt; split <;> simp

@[simp] theorem expireShed_links : s.expireShed.links = s.links := by
  unfold State.expireShed State.expireAt; split <;> simp

@[simp] theorem expireFast_links : s.expireFast.links = s.links := by
  unfold State.expireFast State.expireAt; split <;> simp

@[simp] theorem expireRecovery_links : s.expireRecovery.links = s.links := by
  unfold State.expireRecovery State.expireAt; split <;> simp

@[simp] theorem expireRunaway_links : s.expireRunaway.links = s.links := by
  unfold State.expireRunaway State.expireAt; split <;> simp

@[simp] theorem expireReached_cores : linkCores s.expireReached.links = linkCores s.links := by
  have when? {f : State → State} (kept : ∀ t, linkCores (f t).links = linkCores t.links) (t : State) (b : Bool) :
      linkCores (if b then f t else t).links = linkCores t.links := by
    cases b with
    | false => rfl
    | true => exact kept t
  unfold State.expireReached
  dsimp only
  rw [when? (by simp), when? (by simp), when? (by simp), when? (by simp), when? (by simp), when? (by simp)]

@[simp] theorem testTimings_cores (changed : Bool) : linkCores (s.testTimings changed).links = linkCores s.links := by
  have moved (t : State) :
      (if t.reg.station = .black ∧ t.reg.validRun = Config.validLimit then t.enterWarming
        else if t.reg.station = .runaway ∧ t.filteredIs (fun f => f < t.reg.inForce.runawayExit) = true then
          t.enterStation .regulating .empty
        else t).links = t.links := by
    unfold State.enterWarming
    split
    · simp
    · split <;> simp
  have expired (t : State) : linkCores (if changed then t.expireReached else t).links = linkCores t.links := by
    cases changed with
    | false => rfl
    | true => exact expireReached_cores t
  exact (expired _).trans (congrArg linkCores (moved s.judgeTimings))

@[simp] theorem crossed_links (m : CycleMark) (i : Nat) : (s.crossed m i).links = s.links := by
  unfold State.crossed; dsimp only; split <;> simp

@[simp] theorem regulatorCycle_cores (m : CycleMark) (i : Nat) :
    linkCores (s.regulatorCycle m i).links = linkCores s.links := by
  cases m with
  | reference => simp [regulatorCycle_reference]
  | valid f => simp [regulatorCycle_valid]
  | discarded f => rw [regulatorCycle_discarded]; split <;> simp

end

end Sys2Proof.Machine

namespace Sys2Proof.Machine

section
variable (s : State)

/-! The Measurement Unit. -/

@[simp] theorem voidCapture_cores (l : Link) : linkCores (s.voidCapture l).links = linkCores s.links := by
  unfold State.voidCapture State.endCapture; split <;> simp

@[simp] theorem capturePosting_cores (l : Link) : linkCores (s.capturePosting l).links = linkCores s.links := by
  unfold State.capturePosting State.endCapture
  split
  · rfl
  · dsimp only; split <;> simp

@[simp] theorem post_cores (pg ps pb : Nat) : linkCores (s.post pg ps pb).links = linkCores s.links := by
  simp [State.post]

/-! The Feeder Controller. -/

@[simp] theorem faultFeeder_cores (k : Fin 12) (kind : FeederFault) :
    linkCores (s.faultFeeder k kind).links = linkCores s.links := by
  unfold State.faultFeeder; dsimp only; split <;> simp

@[simp] theorem shedFeeder_cores (k : Fin 12) : linkCores (s.shedFeeder k).links = linkCores s.links := by
  simp [State.shedFeeder]

@[simp] theorem shedStep_cores : linkCores s.shedStep.links = linkCores s.links := by
  unfold State.shedStep
  dsimp only
  split
  · simp
  · split <;> simp

@[simp] theorem stepBetweenMarks_cores : linkCores s.stepBetweenMarks.links = linkCores s.links := by
  unfold State.stepBetweenMarks
  split
  · rfl
  · split <;> simp

@[simp] theorem feederCarried_cores (k : Fin 12) : linkCores (feederCarriedEffect k s).links = linkCores s.links := by
  unfold feederCarriedEffect
  dsimp only
  split
  · split <;> simp
  · rfl

@[simp] theorem takeReport_cores {m : Instr} {effect : State → State}
    (h : ∀ t, linkCores (effect t).links = linkCores t.links) : linkCores (s.takeReport m effect).links = linkCores s.links := by
  unfold State.takeReport
  split
  · exact (h _).trans rfl
  · rfl

@[simp] theorem takeRestored_cores : linkCores s.takeRestored.links = linkCores s.links := by
  unfold State.takeRestored
  split
  · split
    · exact takeReport_cores s (feederCarried_cores · _)
    · rfl
  all_goals rfl

@[simp] theorem cancelRestoring_cores : linkCores s.cancelRestoring.links = linkCores s.links := by
  unfold State.cancelRestoring
  split
  · dsimp only; split <;> simp
  all_goals rfl

@[simp] theorem feedersAtBlack_cores : linkCores s.feedersAtBlack.links = linkCores s.links := by
  unfold State.feedersAtBlack; dsimp only; split <;> simp

@[simp] theorem dropFeeder_cores (k : Fin 12) (b : Bool) : linkCores (s.dropFeeder k b).links = linkCores s.links := by
  simp [State.dropFeeder]

@[simp] theorem feederLetGo_cores (k : Fin 12) (b : Bool) : linkCores (s.feederLetGo k b).links = linkCores s.links := by
  rw [feederLetGo_eq]; split <;> simp

@[simp] theorem feederOff_cores (k : Fin 12) : linkCores (s.feederOff k).1.links = linkCores s.links := by
  unfold State.feederOff; dsimp only; split <;> simp

@[simp] theorem feederClear_cores (k : Fin 12) : linkCores (s.feederClear k).1.links = linkCores s.links := by
  unfold State.feederClear
  dsimp only
  split
  · split <;> simp
  · split <;> simp
  all_goals rfl

@[simp] theorem feederOn_links (k : Fin 12) : (s.feederOn k).1.links = s.links := by
  have requested := requestFeeder_links s k
  unfold State.feederOn
  split
  · rfl
  · split
    · rfl
    · split <;> simp_all

/-! The Saw Sequencer. -/

@[simp] theorem sawMoving_cores (st : SawState) : linkCores (sawMoving s st).links = linkCores s.links :=
  addNotice_cores s .l2 .saw

@[simp] theorem sawNoticed_cores (st : SawState) : linkCores (sawNoticed s st).links = linkCores s.links :=
  addNotice_cores s .l2 .saw

@[simp] theorem moveSawNotified_cores (st : SawState) (c : SawCommands) :
    linkCores (s.moveSawNotified st c).links = linkCores s.links := by
  simp [State.moveSawNotified]

@[simp] theorem faultSaw_cores (kind : SawFault) : linkCores (s.faultSaw kind).links = linkCores s.links := by
  rw [faultSaw_eq]; exact addNotice_cores s .l2 .saw

@[simp] theorem stopSequence_cores (o : Ending) : linkCores (s.stopSequence o).links = linkCores s.links := by
  rw [stopSequence_eq]; exact addNotice_cores s .l2 .saw

@[simp] theorem enterChangeover_cores : linkCores s.enterChangeover.links = linkCores s.links := by
  simp [State.enterChangeover]

@[simp] theorem closeDelta_cores : linkCores s.closeDelta.links = linkCores s.links := by
  simp [State.closeDelta]

@[simp] theorem sawLetGo_cores : linkCores s.sawLetGo.links = linkCores s.links := by
  rw [sawLetGo_eq]; simp

@[simp] theorem judgeLimits_cores : linkCores s.judgeLimits.links = linkCores s.links := by
  unfold State.judgeLimits; split <;> simp

@[simp] theorem endFeedAt_cores (d : Direction) : linkCores (s.endFeedAt d).links = linkCores s.links := by
  have moved (ends : Bool) :
      linkCores (if ends then (s.send (.endRequest 5 .released)).moveSawNotified .run .running else s).links
        = linkCores s.links := by
    cases ends <;> simp
  exact moved _

@[simp] theorem sawStart_links : s.sawStart.1.links = s.links := by
  obtain ⟨st, -, e⟩ | ⟨-, -, e⟩ := sawStart_cases s <;> simp [e]

@[simp] theorem sawFeed_links (d : Direction) : (s.sawFeed d).1.links = s.links := by
  obtain ⟨st, -, e⟩ | ⟨-, -, e⟩ := sawFeed_cases s d <;> simp [e]

@[simp] theorem stopSent_links (o : Ending) : (stopSent s o).links = s.links := rfl

@[simp] theorem sawStop_links : s.sawStop.1.links = s.links := by
  unfold State.sawStop
  simp only [stopRequests_eq]
  split
  · simp
  · split <;> simp

@[simp] theorem sawHold_links : s.sawHold.1.links = s.links := by
  unfold State.sawHold; split <;> simp

@[simp] theorem sawResume_links : s.sawResume.1.links = s.links := by
  unfold State.sawResume; split <;> simp

@[simp] theorem sawClearFault_cores : linkCores s.sawClearFault.1.links = linkCores s.links := by
  unfold State.sawClearFault; split <;> simp

theorem sawOrder_cores (l : Link) (code : Byte) {f : State → State × Status}
    (h : ∀ t, linkCores (f t).1.links = linkCores t.links) : linkCores (sawOrder l code f s).links = linkCores s.links := by
  unfold sawOrder; split <;> simp [h]

/-! The Allowance Unit. -/

@[simp] theorem loseClaim_cores (n : Fin 24) : linkCores (s.loseClaim n).links = linkCores s.links :=
  (loseClaim_noticesOnly s n).cores

@[simp] theorem cancelClaim_cores (n : Fin 24) : linkCores (s.cancelClaim n).links = linkCores s.links := by
  unfold State.cancelClaim; split <;> simp

@[simp] theorem cancelMark_cores (n : Fin 24) : linkCores (s.cancelMark n).links = linkCores s.links := by
  unfold State.cancelMark; split <;> simp

@[simp] theorem cancelMarks_cores : linkCores s.cancelMarks.links = linkCores s.links := by
  have fold (ns : List (Fin 24)) : ∀ t : State,
      linkCores (ns.foldl (fun t n => (t.cancelMark n).budgetCheckInDeficit) t).links = linkCores t.links := by
    induction ns with
    | nil => exact fun _ => rfl
    | cons n ns ih => exact fun t => (ih _).trans (by simp)
  unfold State.cancelMarks
  rw [budgetCheck_links]
  exact fold _ s

theorem markStale_links : s.markStale.links = s.links := rfl

@[simp] theorem cancelAll_cores : linkCores s.cancelAll.links = linkCores s.links := by
  have fold (ns : List (Fin 24)) : ∀ t : State, linkCores (ns.foldl State.cancelClaim t).links = linkCores t.links := by
    induction ns with
    | nil => exact fun _ => rfl
    | cons n ns ih => exact fun t => (ih _).trans (cancelClaim_cores t n)
  rw [cancelAll_eq, markStale_links, fold]

end

end Sys2Proof.Machine

namespace Sys2Proof.Machine

/-! ### Commands that leave the core of every link -/

section
variable {i : Instr} {s t : State}

/-- Beginning from s, the core of every link stays. -/
abbrev CoresStand (s u : State) : Prop := linkCores u.links = linkCores s.links

theorem coresStand_effect {f : State → State} (same : ∀ u, linkCores (f u).links = linkCores u.links) :
    ∀ u : State, u.held = false → CoresStand s u → CoresStand s (f u) := fun u _ h => (same u).trans h

theorem coresStand_arrive (m : Instr) (u : State) (h : CoresStand s u) : CoresStand s (u.arrive m) := h

theorem regulatorCommand_cores (block : blockOf i = .regulator) (run : exec i s = .next t) : CoresStand s t := by
  have all : Keeps (CoresStand s) i := by
    cases i with
    | halfCycleMidpoint =>
      refine keeps_of_effect (fun _ => rfl) (coresStand_effect fun u => ?_)
      unfold halfCycleEffect
      split
      · rfl
      · dsimp only; split <;> simp
    | silenceExpiry =>
      refine keeps_of_effect (fun _ => rfl) (coresStand_effect fun u => ?_)
      unfold silenceEffect; split <;> simp
    | warmBandExpiry => exact keeps_of_effect (fun _ => rfl) (coresStand_effect fun u => by simp)
    | shedTimingExpiry => exact keeps_of_effect (fun _ => rfl) (coresStand_effect fun u => by simp)
    | fastTimingExpiry => exact keeps_of_effect (fun _ => rfl) (coresStand_effect fun u => by simp)
    | recoveryTimingExpiry => exact keeps_of_effect (fun _ => rfl) (coresStand_effect fun u => by simp)
    | runawayTimingExpiry => exact keeps_of_effect (fun _ => rfl) (coresStand_effect fun u => by simp)
    | tripTimingExpiry => exact keeps_of_effect (fun _ => rfl) (coresStand_effect fun u => by simp)
    | budgetRaiseRequest =>
      refine keeps_of_arrival (fun _ => rfl) (coresStand_arrive _) (coresStand_effect fun u => ?_)
      unfold budgetRaiseEffect; split <;> simp
    | budgetClearRequest =>
      refine keeps_of_arrival (fun _ => rfl) (coresStand_arrive _) (coresStand_effect fun u => ?_)
      unfold budgetClearEffect; split <;> simp
    | downStep a =>
      refine keeps_of_arrival (fun _ => rfl) (coresStand_arrive _) (coresStand_effect fun u => ?_)
      unfold downStepEffect; split <;> simp
    | upStep a =>
      refine keeps_of_arrival (fun _ => rfl) (coresStand_arrive _) (coresStand_effect fun u => ?_)
      unfold upStepEffect; split <;> simp
    | leadLineReport r => exact keeps_of_arrival (fun _ => rfl) (coresStand_arrive _) (coresStand_effect fun u => rfl)
    | ackTrip l =>
      refine keeps_of_arrival (f := fun u => (u.ackTrip l).1.answer l Code.ackTrip (u.ackTrip l).2) (fun _ => rfl)
        (coresStand_arrive _) (coresStand_effect fun u => ?_)
      have links : (u.ackTrip l).1.links = u.links := by
        unfold State.ackTrip
        split
        · rfl
        · split
          · rfl
          · split <;> rfl
      simp [links]
    | _ => cases block
  exact all s t run rfl

theorem measurementCommand_cores (block : blockOf i = .measurement) (run : exec i s = .next t) : CoresStand s t := by
  have all : Keeps (CoresStand s) i := by
    cases i with
    | measurementStateReport r =>
      refine keeps_of_arrival (fun _ => rfl) (coresStand_arrive _) (coresStand_effect fun u => ?_)
      unfold measurementReportEffect; dsimp only; split <;> simp
    | divergenceTimingExpiry =>
      refine keeps_of_effect (fun _ => rfl) (coresStand_effect fun u => ?_)
      unfold divergenceEffect; split <;> simp
    | agreementTimingExpiry =>
      refine keeps_of_effect (fun _ => rfl) (coresStand_effect fun u => ?_)
      unfold agreementEffect; split <;> simp
    | takeSnapshot l =>
      refine keeps_of_arrival (fun _ => rfl) (coresStand_arrive _) (coresStand_effect fun u => ?_)
      unfold takeSnapshotEffect
      split
      · simp
      · split <;> simp
    | readSnapshot l =>
      refine keeps_of_arrival (fun _ => rfl) (coresStand_arrive _) (coresStand_effect fun u => ?_)
      unfold readSnapshotEffect; dsimp only; split <;> simp
    | _ => cases block
  exact all s t run rfl

theorem feedersCommand_cores (block : blockOf i = .feeders) (run : exec i s = .next t) : CoresStand s t := by
  have all : Keeps (CoresStand s) i := by
    cases i with
    | feederStateReport r =>
      refine keeps_of_arrival (fun _ => rfl) (coresStand_arrive _) (coresStand_effect fun u => ?_)
      unfold feederStateReportEffect
      split
      · simp
      · rfl
      · dsimp only; split <;> simp
      · simp
      · split <;> simp
    | feederAdmissionReport k =>
      refine keeps_of_arrival (fun _ => rfl) (coresStand_arrive _) (coresStand_effect fun u => ?_)
      unfold feederAdmissionEffect; split <;> simp
    | feederCarriedReport k =>
      exact keeps_of_arrival (fun _ => rfl) (coresStand_arrive _) (coresStand_effect (feederCarried_cores · k))
    | stepTimingHalfMark =>
      refine keeps_of_effect (fun _ => rfl) (coresStand_effect fun u => ?_)
      unfold stepHalfMarkEffect
      split
      · dsimp only; split <;> simp
      all_goals rfl
    | stepTimingFullMark =>
      refine keeps_of_effect (fun _ => rfl) (coresStand_effect fun u => ?_)
      unfold stepFullMarkEffect; split <;> simp
    | feederFeedbackChange k b =>
      refine keeps_of_next (fun _ => rfl) fun u h => (Eq.trans ?_ h : CoresStand s _)
      unfold feederFeedbackEffect
      dsimp only
      split
      · rfl
      · split <;> simp
    | followTimingExpiry k =>
      refine keeps_of_effect (fun _ => rfl) (coresStand_effect fun u => ?_)
      unfold followTimingEffect
      dsimp only
      split
      · split <;> simp
      all_goals rfl
    | stuckTimingExpiry k =>
      refine keeps_of_effect (fun _ => rfl) (coresStand_effect fun u => ?_)
      unfold stuckTimingEffect; split <;> simp
    | feederOff l k =>
      refine keeps_of_arrival (fun _ => rfl) (coresStand_arrive _) (coresStand_effect fun u => ?_)
      unfold feederOffEffect; split <;> simp
    | feederClear l k =>
      refine keeps_of_arrival (fun _ => rfl) (coresStand_arrive _) (coresStand_effect fun u => ?_)
      unfold feederClearEffect; split <;> simp
    | _ => cases block
  exact all s t run rfl

theorem sawCommand_cores (block : blockOf i = .saw) (run : exec i s = .next t) : CoresStand s t := by
  have all : Keeps (CoresStand s) i := by
    cases i with
    | sawStateReport r =>
      refine keeps_of_arrival (fun _ => rfl) (coresStand_arrive _) (coresStand_effect fun u => ?_)
      unfold sawStateReportEffect
      split
      · split
        · simp
        · split <;> simp
      · rfl
    | sawCarriedReport c =>
      refine keeps_of_arrival (fun _ => rfl) (coresStand_arrive _) (coresStand_effect fun u => ?_)
      unfold sawCarriedEffect
      split
      · simp
      · split <;> simp
      · rfl
    | sawEndingReport c o =>
      refine keeps_of_arrival (fun _ => rfl) (coresStand_arrive _) (coresStand_effect fun u => ?_)
      unfold sawEndingEffect
      split
      · split
        · simp
        · split <;> simp
      · split
        all_goals first
          | rfl
          | (split <;> simp)
    | shedRequest t =>
      refine keeps_of_arrival (fun _ => rfl) (coresStand_arrive _) (coresStand_effect fun u => ?_)
      unfold shedRequestEffect
      split
      · split <;> simp
      · split <;> simp
    | bladePulse => exact keeps_of_effect (fun _ => rfl) (coresStand_effect fun u => rfl)
    | bladeWindowEnd =>
      refine keeps_of_effect (fun _ => rfl) (coresStand_effect fun u => ?_)
      have counted (t : State) (run : Nat) : linkCores
          (if Config.stallWindows ≤ run then t.faultSaw .stall else { t with saw := { t.saw with stallRun := run } }).links
            = linkCores t.links := by
        split <;> simp
      unfold bladeWindowEffect
      dsimp only
      split
      · simp
      · split
        · exact counted _ _
        · simp
    | bladeQuietExpiry =>
      refine keeps_of_effect (fun _ => rfl) (coresStand_effect fun u => ?_)
      unfold bladeQuietEffect
      split
      · rfl
      · dsimp only; split <;> simp
    | starTimeExpiry =>
      refine keeps_of_effect (fun _ => rfl) (coresStand_effect fun u => ?_)
      unfold starTimeEffect
      split
      · rfl
      · dsimp only; split <;> simp
    | deadTimeExpiry =>
      refine keeps_of_effect (fun _ => rfl) (coresStand_effect fun u => ?_)
      unfold deadTimeEffect
      split
      · rfl
      · dsimp only; split <;> simp
    | sawFeedbackChange c b =>
      refine keeps_of_next (fun _ => rfl) fun u h => (Eq.trans ?_ h : CoresStand s _)
      unfold sawFeedbackEffect
      dsimp only
      split
      · rfl
      · split <;> simp
    | disagreementTimingExpiry c =>
      refine keeps_of_effect (fun _ => rfl) (coresStand_effect fun u => ?_)
      unfold disagreementEffect
      split
      · rfl
      · split <;> simp
    | limitChange w b =>
      refine keeps_of_next (fun _ => rfl) fun u h => (Eq.trans ?_ h : CoresStand s _)
      unfold limitChangeEffect
      dsimp only
      split
      · rfl
      · split
        · simp
        · split <;> simp
    | estopChange b =>
      refine keeps_of_next (fun _ => rfl) fun u h => (Eq.trans ?_ h : CoresStand s _)
      unfold estopEffect
      dsimp only
      split
      · rfl
      · split <;> simp
    | overloadTimingExpiry =>
      refine keeps_of_effect (fun _ => rfl) (coresStand_effect fun u => ?_)
      unfold overloadTimingEffect; split <;> simp
    | resumeTimingExpiry =>
      refine keeps_of_effect (fun _ => rfl) (coresStand_effect fun u => ?_)
      unfold resumeTimingEffect; split <;> simp
    | linkLossReportSaw l =>
      exact keeps_of_arrival (fun _ => rfl) (coresStand_arrive _)
        (coresStand_effect fun u => (linkLossSaw_noticesOnly u l).cores)
    | sawStop l =>
      exact keeps_of_arrival (fun _ => rfl) (coresStand_arrive _)
        (coresStand_effect fun u => sawOrder_cores u l _ fun _ => by simp)
    | sawHold l =>
      exact keeps_of_arrival (fun _ => rfl) (coresStand_arrive _)
        (coresStand_effect fun u => sawOrder_cores u l _ fun _ => by simp)
    | sawResume l =>
      exact keeps_of_arrival (fun _ => rfl) (coresStand_arrive _)
        (coresStand_effect fun u => sawOrder_cores u l _ fun _ => by simp)
    | sawClearFault l =>
      exact keeps_of_arrival (fun _ => rfl) (coresStand_arrive _)
        (coresStand_effect fun u => sawOrder_cores u l _ fun _ => by simp)
    | _ => cases block
  exact all s t run rfl

theorem claimsCommand_cores (block : blockOf i = .claims) (run : exec i s = .next t) : CoresStand s t := by
  have all : Keeps (CoresStand s) i := by
    cases i with
    | allowanceStateReport r =>
      refine keeps_of_arrival (fun _ => rfl) (coresStand_arrive _) (coresStand_effect fun u => ?_)
      unfold allowanceReportEffect; split <;> simp
    | waitExpiry n =>
      refine keeps_of_effect (fun _ => rfl) (coresStand_effect fun u => ?_)
      unfold waitExpiryEffect; split <;> simp
    | dueEvent n =>
      refine keeps_of_effect (fun _ => rfl) (coresStand_effect fun u => ?_)
      unfold dueEventEffect; split <;> simp
    | surgeExpiry n =>
      refine keeps_of_effect (fun _ => rfl) (coresStand_effect fun u => ?_)
      unfold surgeExpiryEffect; split <;> simp
    | surgeEndRequest =>
      refine keeps_of_arrival (fun _ => rfl) (coresStand_arrive _) (coresStand_effect fun u => ?_)
      unfold surgeEndRequestEffect; split <;> simp
    | endRequest n o =>
      refine keeps_of_arrival (fun _ => rfl) (coresStand_arrive _) (coresStand_effect fun u => ?_)
      unfold endRequestEffect; split <;> simp
    | feederEndingReport k o =>
      refine keeps_of_arrival (fun _ => rfl) (coresStand_arrive _) (coresStand_effect fun u => ?_)
      unfold feederEndingEffect; dsimp only; split <;> (try split) <;> simp
    | restoreHoldExpiry =>
      refine keeps_of_effect (fun _ => rfl) (coresStand_effect fun u => ?_)
      unfold restoreHoldEffect; split <;> simp
    | staggerExpiry =>
      refine keeps_of_effect (fun _ => rfl) (coresStand_effect fun u => ?_)
      unfold staggerEffect; split <;> simp
    | linkLossReportAllowance l =>
      exact keeps_of_arrival (fun _ => rfl) (coresStand_arrive _)
        (coresStand_effect fun u => (linkLossAllowance_noticesOnly u l).cores)
    | declare l d =>
      refine keeps_of_arrival (fun _ => rfl) (coresStand_arrive _) (coresStand_effect fun u => ?_)
      unfold declareEffect State.takeDeclaration; split <;> simp
    | claim l o =>
      refine keeps_of_arrival (fun _ => rfl) (coresStand_arrive _) (coresStand_effect fun u => ?_)
      unfold claimEffect; split <;> simp
    | withdraw l n =>
      refine keeps_of_arrival (fun _ => rfl) (coresStand_arrive _) (coresStand_effect fun u => ?_)
      unfold withdrawEffect; split <;> (try split) <;> simp
    | release l n =>
      refine keeps_of_arrival (fun _ => rfl) (coresStand_arrive _) (coresStand_effect fun u => ?_)
      unfold releaseEffect; split <;> (try split) <;> simp
    | feederOn l k =>
      refine keeps_of_arrival (fun _ => rfl) (coresStand_arrive _) (coresStand_effect fun u => ?_)
      unfold feederOnEffect; split <;> simp
    | sawStart l =>
      exact keeps_of_arrival (fun _ => rfl) (coresStand_arrive _)
        (coresStand_effect fun u => sawOrder_cores u l _ fun _ => by simp)
    | sawFeed l =>
      exact keeps_of_arrival (fun _ => rfl) (coresStand_arrive _)
        (coresStand_effect fun u => sawOrder_cores u l _ fun _ => by simp)
    | sawReturn l =>
      exact keeps_of_arrival (fun _ => rfl) (coresStand_arrive _)
        (coresStand_effect fun u => sawOrder_cores u l _ fun _ => by simp)
    | _ => cases block
  exact all s t run rfl

end

end Sys2Proof.Machine

namespace Sys2Proof.Machine

/-! ### The law of a link, operation by operation -/

theorem link_onLink_self (s : State) (l : Link) (f : LinkContext → LinkContext) :
    (s.onLink l f).link l = f (s.link l) := by cases l <;> rfl

theorem link_onLink_of_ne (s : State) {l m : Link} (f : LinkContext → LinkContext) (ne : m ≠ l) :
    (s.onLink l f).link m = s.link m := by
  cases l <;> cases m <;> first | rfl | exact absurd rfl ne

section
variable {s : State}

theorem LinksSound.onLink (h : LinksSound s) {l : Link} {f : LinkContext → LinkContext}
    (kept : LinkSound (s.link l) → LinkSound (f (s.link l))) : LinksSound (s.onLink l f) := by
  obtain ⟨sound, fit⟩ := h
  refine ⟨fun m => ?_, fit⟩
  by_cases e : m = l
  · rw [e, link_onLink_self]; exact kept (sound l)
  · rw [link_onLink_of_ne s f e]; exact sound m

theorem LinksSound.answer (h : LinksSound s) (l : Link) (code : Byte) (st : Status) : LinksSound (s.answer l code st) :=
  h.of_cores (answer_cores s l code st) rfl

theorem LinksSound.addNotices (h : LinksSound s) (ls : List Link) (k : Notice) : LinksSound (s.addNotices ls k) :=
  h.of_cores (addNotices_cores s ls k) (by obtain ⟨_, _, _, e⟩ := addNotices_acts s ls k; rw [e])

/-- R164: a window that closes. -/
theorem LinksSound.noWindow (h : LinksSound s) (l : Link) : LinksSound (s.onLink l fun c => { c with window := none }) :=
  h.onLink fun ⟨fits, _⟩ => ⟨fits, by simp⟩

/-- R164, R165: a window that opens, or whose pointer moves on. -/
theorem LinksSound.window (h : LinksSound s) (l : Link) {w : Window} (fits : WindowFits w) :
    LinksSound (s.onLink l fun c => { c with window := some w }) :=
  h.onLink fun ⟨others, _⟩ => ⟨others, by simpa using fits⟩

theorem LinksSound.selectFall (h : LinksSound s) (l : Link) : LinksSound (selectFallEffect l s) := by
  unfold selectFallEffect
  split
  · exact h
  · split
    · exact h.onLink fun ⟨⟨supervised, discarded, _⟩, window⟩ => ⟨⟨supervised, discarded, fun _ => rfl⟩, window⟩
    · exact h.onLink fun ⟨⟨supervised, discarded, _⟩, window⟩ => ⟨⟨supervised, discarded, fun _ => rfl⟩, window⟩

theorem LinksSound.deselect (h : LinksSound s) (l : Link) : LinksSound (s.deselect l) :=
  h.onLink fun ⟨⟨supervised, discarded, _⟩, window⟩ => ⟨⟨supervised, discarded, by simp⟩, window⟩

/-- R169: at the loss of a link its remaining time stops. -/
theorem LinksSound.supervisionExpiry (h : LinksSound s) (l : Link) : LinksSound (supervisionExpiryEffect l s) := by
  unfold supervisionExpiryEffect
  split
  · next p t lost supervised =>
    have lossy : LinksSound ((s.reachTick t).onLink l fun c =>
        { c with lost := true, supervision := some { period := p, deadline := none } }) := by
      have reached : LinksSound (s.reachTick t) := h
      refine reached.onLink fun ⟨⟨fits, discarded, select⟩, window⟩ => ⟨⟨?_, discarded, select⟩, window⟩
      change supervisionFits (s.link l).lost (s.link l).supervision = true at fits
      rw [lost, supervised] at fits
      simpa [supervisionFits] using fits
    exact lossy.addNotices _ _
  · exact h

theorem LinksSound.supervise (h : LinksSound s) (l : Link) (p : Nat) : LinksSound (superviseEffect l p s) := by
  unfold superviseEffect
  split
  · next allowed =>
    refine LinksSound.answer (h.onLink fun ⟨⟨_, discarded, select⟩, window⟩ => ⟨⟨?_, discarded, select⟩, window⟩) _ _ _
    simp only [periodAllowed, Bool.and_eq_true] at allowed
    cases lost : (s.link l).lost <;> simp [supervisionFits, allowed]
  · exact h.answer _ _ _

/-- R168, R169: a frame brings a lost link back, and its remaining time starts again. -/
def LinkContext.revived (c : LinkContext) (clock : Nat) : LinkContext :=
  { c with
    lost := false
    supervision := c.supervision.map fun p => { p with deadline := some (clock + Config.tenths p.period) } }

theorem LinkSound.revived {c : LinkContext} (h : LinkSound c) (clock : Nat) : LinkSound (c.revived clock) := by
  obtain ⟨⟨supervised, discarded, select⟩, window⟩ := h
  refine ⟨⟨?_, discarded, select⟩, window⟩
  unfold LinkContext.revived
  cases e : c.supervision with
  | none => rfl
  | some p =>
    rw [e] at supervised
    simp only [supervisionFits, Bool.and_eq_true] at supervised
    simp [supervisionFits, supervised.1]

theorem recover_renew_cores (s : State) (l : Link) :
    linkCores ((s.recover l).renew l).links = linkCores (s.onLink l fun c => c.revived s.clock).links := by
  unfold State.recover
  split
  · cases l <;> rfl
  · next active =>
    have same : s.renew l = s.onLink l fun c => c.revived s.clock := by
      have lost : (s.links.get l).lost = false := by simpa [State.link] using active
      simp only [State.renew, State.onLink, LinkContext.revived]
      rw [← lost]
    rw [same]

theorem recover_renew_set (s : State) (l : Link) : ((s.recover l).renew l).set = s.set := by
  unfold State.recover
  split <;> cases l <;> rfl

theorem takeLoss_set (s : State) (l : Link) : (s.takeLoss l).set = s.set := by
  have first (u : State) : (u.takeReport (.linkLossReportAllowance l) (linkLossAllowanceEffect l)).set = u.set := by
    unfold State.takeReport
    split
    · obtain ⟨⟨-, -, set, -⟩, -⟩ := linkLossAllowance_acts (u.arrive (.linkLossReportAllowance l)) l
      exact set
    · rfl
  have second (u : State) : (u.takeReport (.linkLossReportSaw l) (linkLossSawEffect l)).set = u.set := by
    unfold State.takeReport
    split
    · obtain ⟨_, _, _, _, _, e⟩ := linkLossSaw_acts (u.arrive (.linkLossReportSaw l)) l
      rw [e]; rfl
    · rfl
  exact (second _).trans (first s)

theorem LinksSound.acceptFrame (h : LinksSound s) (l : Link) (code : Byte) : LinksSound (s.acceptFrame l code) := by
  have lost : LinksSound (s.takeLoss l) := h.of_cores (takeLoss_noticesOnly s l).cores (takeLoss_set s l)
  have recorded : LinksSound ((s.takeLoss l).recordArrival l) := lost.of_cores (by cases l <;> rfl) rfl
  have revived : LinksSound (((s.takeLoss l).recordArrival l).onLink l fun c =>
      c.revived ((s.takeLoss l).recordArrival l).clock) := recorded.onLink fun sound => sound.revived _
  have renewed : LinksSound ((((s.takeLoss l).recordArrival l).recover l).renew l) :=
    revived.of_cores (recover_renew_cores _ l) (recover_renew_set _ l)
  unfold State.acceptFrame State.closeWindow
  split
  · exact renewed
  · exact renewed.noWindow l

theorem LinksSound.discardFrame (h : LinksSound s) (l : Link) (first : Byte) : LinksSound (s.discardFrame l first) := by
  refine LinksSound.answer (h.onLink fun ⟨⟨supervised, discarded, select⟩, window⟩ =>
    ⟨⟨supervised, ?_, select⟩, window⟩) _ _ _
  dsimp only
  split
  · next below => exact below
  · exact discarded

/-! ### The proposals -/

theorem LinksSound.setProposal (h : LinksSound s) (sh : SharedId) : LinksSound (s.setProposal sh none) := by
  obtain ⟨sound, bands, order, thresholds⟩ := h
  cases sh
  · exact ⟨sound, by simp [State.setProposal], order, thresholds⟩
  · exact ⟨sound, bands, by simp [State.setProposal], thresholds⟩
  · exact ⟨sound, bands, order, by simp [State.setProposal]⟩

theorem LinksSound.endProposal (h : LinksSound s) (sh : SharedId) (p : Proposal) : LinksSound (s.endProposal sh p) :=
  (h.setProposal sh).of_cores (addNotice_cores _ _ _) rfl

theorem tableFrom_id {t : TableId} {records : List (List Byte)} {c : TableCopy} (h : tableFrom t records = some c) :
    c.id = t := by
  cases t <;>
    · obtain ⟨_, _, rfl⟩ := Option.map_eq_some_iff.1 h
      rfl

/-- The table that a shared name stands for. -/
def sharedTable : SharedId → TableId
  | .bands => .bands
  | .shedOrder => .shedOrder
  | .thresholds => .thresholds

theorem table_of_sharedOf {t : TableId} {sh : SharedId} (h : sharedOf t = some sh) : t = sharedTable sh := by
  cases t <;> cases h <;> rfl

theorem LinksSound.propose (h : LinksSound s) (l : Link) {t : TableId} {sh : SharedId} {c : TableCopy}
    (shared : sharedOf t = some sh) (id : c.id = t) : LinksSound (s.propose l sh c) := by
  obtain ⟨sound, bands, order, thresholds⟩ := h
  have proposed : LinksSound
      (s.setProposal sh (some { copy := c, proposer := l, expiry := s.clock + Config.proposalTicks })) := by
    cases sh with
    | bands =>
      have fits : c.id = .bands := id.trans (table_of_sharedOf shared)
      exact ⟨sound, by simpa [State.setProposal] using fits, order, thresholds⟩
    | shedOrder =>
      have fits : c.id = .shedOrder := id.trans (table_of_sharedOf shared)
      exact ⟨sound, bands, by simpa [State.setProposal] using fits, thresholds⟩
    | thresholds =>
      have fits : c.id = .thresholds := id.trans (table_of_sharedOf shared)
      exact ⟨sound, bands, order, by simpa [State.setProposal] using fits⟩
  exact proposed.addNotices _ _

theorem LinksSound.commit (h : LinksSound s) (c : TableCopy) : LinksSound (s.commit c) := by
  obtain ⟨sound, fit⟩ := h
  cases c with
  | channels t =>
    unfold State.commit
    dsimp only
    split <;> exact ⟨sound, fit⟩
  | bands t =>
    have stored : LinksSound { s with set := { s.set with tables := s.set.tables.store (.bands t) } } := ⟨sound, fit⟩
    unfold State.commit
    dsimp only
    split <;> exact stored.of_cores (by simp) (by simp)
  | saw t => exact ⟨sound, fit⟩
  | feeders t => exact ⟨sound, fit⟩
  | shedOrder t => exact ⟨sound, fit⟩
  | thresholds t => exact ⟨sound, fit⟩

theorem LinksSound.takeLoad (h : LinksSound s) (l : Link) (t : TableId) (staging : List (List Byte)) :
    LinksSound (s.takeLoad l t staging).1 := by
  unfold State.takeLoad
  split
  · exact h
  · next c loaded =>
    split
    · exact h
    · split
      · exact h.commit _
      · next sh shared =>
        split
        · split
          · exact h.commit _
          · exact h
        · exact h.propose l shared (tableFrom_id loaded)

theorem LinksSound.loadData (h : LinksSound s) (l : Link) (bytes : List Byte) : LinksSound (loadDataEffect l bytes s) := by
  unfold loadDataEffect
  split
  · exact h.answer _ _ _
  · next w open_ =>
    obtain ⟨first, pointer, last, count, staging⟩ := (h.1 l).2 w (by simp [open_])
    split
    · exact h.answer _ _ _
    · dsimp only
      split
      · next below =>
        exact (h.window l (w := { range := { w.range with pointer := w.range.pointer + 1 }, staging := _ })
          ⟨first, Nat.le_succ_of_le pointer, below, count, by simpa using staging⟩).answer _ _ _
      · exact ((h.noWindow l).takeLoad _ _ _).answer _ _ _

theorem LinksSound.confirm (h : LinksSound s) (l : Link) (t : TableId) : LinksSound (confirmEffect l t s) := by
  unfold confirmEffect
  split
  · exact h.answer _ _ _
  · split
    · exact ((h.endProposal _ _).commit _).answer _ _ _
    · exact (h.endProposal _ _).answer _ _ _

theorem LinksSound.reject (h : LinksSound s) (l : Link) (t : TableId) : LinksSound (rejectEffect l t s) := by
  unfold rejectEffect
  split
  · exact h.answer _ _ _
  · exact (h.endProposal _ _).answer _ _ _

theorem LinksSound.proposalExpiry (h : LinksSound s) (t : SharedId) : LinksSound (proposalExpiryEffect t s) := by
  unfold proposalExpiryEffect
  split
  · exact h
  · next p _ =>
    have reached : LinksSound (s.reachTick p.expiry) := h
    exact reached.endProposal _ _

theorem LinksSound.breakLink (h : LinksSound s) (l : Link) : LinksSound (s.breakLink l) :=
  h.of_cores (breakLink_cores s l) rfl

theorem LinksSound.clearTheWay (h : LinksSound s) (l : Link) (t : TableId) : LinksSound (s.clearTheWay l t) := by
  have preempts (u : State) (hu : LinksSound u) (other : Link) : LinksSound (u.preempt t other) := by
    unfold State.preempt
    split
    · exact hu
    · split
      · exact (hu.noWindow other).breakLink other
      · exact hu
  have preempted (ls : List Link) : ∀ u, LinksSound u → LinksSound (ls.foldl (fun u other => u.preempt t other) u) := by
    induction ls with
    | nil => exact fun _ hu => hu
    | cons m ls ih => exact fun u hu => ih _ (preempts u hu m)
  unfold State.clearTheWay
  split
  · exact h
  · next sh _ =>
    have cleared := preempted (otherLinks l) s h
    unfold State.discardProposal
    split
    · exact cleared
    · dsimp only
      split
      · exact (cleared.setProposal sh).addNotices _ _
      · exact ((cleared.setProposal sh).breakLink _).addNotices _ _

theorem tableBytes_length (t : Tables) (id : TableId) : (tableBytes (t.copy id)).length = recordCount id := by
  cases id <;> simp [tableBytes, Tables.copy, recordCount]

theorem openWindowStatus_ok {l : Link} {t : TableId} {first last : Nat} (h : openWindowStatus l t first last = .ok) :
    1 ≤ first ∧ first ≤ last ∧ last ≤ recordCount t := by
  unfold openWindowStatus at h
  split at h
  · cases h
  · split at h
    · cases h
    · next range => omega

theorem LinksSound.openWindow (h : LinksSound s) (l : Link) (t : TableId) (first last : Nat) :
    LinksSound (openWindowEffect l t first last s) := by
  unfold openWindowEffect
  split
  · next opens =>
    obtain ⟨positive, ordered, count⟩ := openWindowStatus_ok opens
    exact ((h.clearTheWay l t).window l ⟨positive, le_refl _, ordered, count, tableBytes_length _ _⟩).answer _ _ _
  · exact h.answer _ _ _

end

end Sys2Proof.Machine

namespace Sys2Proof.Machine

/-! ### Every command keeps the law of the links -/

theorem linksCommand_keepsLinks {i : Instr} (block : blockOf i = .links) : Keeps LinksSound i := by
  have arrives (m : Instr) (u : State) (h : LinksSound u) : LinksSound (u.arrive m) := h
  have replies (u : State) (h : LinksSound u) (l : Link) (code : Byte) (st : Status) (data : List Byte) :
      LinksSound (u.reply l code st data) := h.of_cores (reply_cores u l code st data) rfl
  cases i with
  | linkStateReport l r =>
    refine keeps_of_arrival (fun _ => rfl) (arrives _) fun u _ h => ?_
    unfold linkReportEffect
    dsimp only
    split <;> exact h.of_cores (by simp) rfl
  | sawAdmissionReport c => exact keeps_of_arrival (f := id) (fun _ => rfl) (arrives _) fun _ _ h => h
  | selectFall l => exact keeps_of_next (fun _ => rfl) fun _ h => h.selectFall l
  | supervisionExpiry l => exact keeps_of_effect (fun _ => rfl) fun _ _ h => h.supervisionExpiry l
  | null l =>
    exact keeps_of_arrival (f := fun u => u.answer l Code.null .ok) (fun _ => rfl) (arrives _) fun _ _ h => h.answer _ _ _
  | readNotices l =>
    refine keeps_of_arrival (fun _ => rfl) (arrives _) fun u _ h => ?_
    exact replies _ (h.onLink (l := l) (f := fun c => { c with notices := 0 }) id) l _ _ _
  | setNoticeMask l m =>
    refine keeps_of_arrival (fun _ => rfl) (arrives _) fun u _ h => ?_
    exact replies _ (h.onLink (l := l) (f := fun c => { c with mask := m }) id) l _ _ _
  | supervise l p => exact keeps_of_arrival (fun _ => rfl) (arrives _) fun _ _ h => h.supervise l p
  | readLink l =>
    refine keeps_of_arrival (fun _ => rfl) (arrives _) fun u _ h => ?_
    exact replies _ (h.onLink (l := l) (f := fun c => { c with broken := false }) id) l _ _ _
  | readResetCause l =>
    exact keeps_of_arrival (f := fun u => u.reply l Code.readResetCause .ok (u8 (resetCauseCode u.cause))) (fun _ => rfl)
      (arrives _) fun u _ h => replies u h _ _ _ _
  | readStation l =>
    exact keeps_of_arrival (f := fun u => u.reply l Code.readStation .ok u.stationRecord) (fun _ => rfl) (arrives _)
      fun u _ h => replies u h _ _ _ _
  | readClaim l n =>
    refine keeps_of_arrival (fun _ => rfl) (arrives _) fun u _ h => ?_
    unfold readClaimEffect
    split <;> exact replies u h _ _ _ _
  | readTable l t r c =>
    refine keeps_of_arrival (fun _ => rfl) (arrives _) fun u _ h => ?_
    unfold readTableEffect
    split
    · exact replies u h _ _ _ _
    · split
      · exact replies u h _ _ _ _
      · split <;> exact replies u h _ _ _ _
  | readFeeder l k =>
    refine keeps_of_arrival (fun _ => rfl) (arrives _) fun u _ h => ?_
    unfold readFeederEffect
    split <;> exact replies u h _ _ _ _
  | readSaw l =>
    exact keeps_of_arrival (f := fun u => u.reply l Code.readSaw .ok u.sawRecord) (fun _ => rfl) (arrives _)
      fun u _ h => replies u h _ _ _ _
  | _ => cases block

theorem settingsCommand_keepsLinks {i : Instr} (block : blockOf i = .settings) : Keeps LinksSound i := by
  have arrives (m : Instr) (u : State) (h : LinksSound u) : LinksSound (u.arrive m) := h
  cases i with
  | proposalExpiry t => exact keeps_of_effect (fun _ => rfl) fun _ _ h => h.proposalExpiry t
  | keyChange k =>
    refine keeps_of_next (fun _ => rfl) fun u h => ?_
    unfold keyChangeEffect
    dsimp only
    split <;> exact h
  | openWindow l t a b => exact keeps_of_arrival (fun _ => rfl) (arrives _) fun _ _ h => h.openWindow l t a b
  | reject l t => exact keeps_of_arrival (fun _ => rfl) (arrives _) fun _ _ h => h.reject l t
  | _ => cases block

/-! Resets and cycles. -/

theorem linkSound_initial (sup : Option Supervision) (selectLow : Bool) (fits : supervisionFits false sup = true) :
    LinkSound (.initial sup selectLow) :=
  ⟨⟨fits, Nat.zero_le _, by simp [LinkContext.initial]⟩, by simp [LinkContext.initial]⟩

theorem linksSound_initial {s : State} (sup : Option Supervision) (fits : supervisionFits false sup = true)
    (links : ∀ l, ∃ selectLow, s.link l = .initial sup selectLow) {ts : Tables} {k : Key} (set : s.set = .initial ts k) :
    LinksSound s := by
  refine ⟨fun l => ?_, by simp [ProposalsFit, set, Settings.initial]⟩
  obtain ⟨selectLow, e⟩ := links l
  rw [e]
  exact linkSound_initial sup selectLow fits

theorem linksSound_enterReset (s : State) (ts : Tables) (trip : Bool) : LinksSound (s.enterReset ts trip) :=
  linksSound_initial none rfl (fun l => ⟨(s.link l).selectLow, by cases l <;> rfl⟩) rfl

theorem supervisionFits_byStrap (strap : Bool) (clock : Nat) : supervisionFits false (Supervision.byStrap strap clock) = true := by
  cases strap <;> rfl

theorem LinksSound.resetRelease {s : State} (h : LinksSound s) (strap : Bool) : LinksSound (resetReleaseEffect strap s) := by
  unfold resetReleaseEffect
  split
  · have released : LinksSound (s.released strap) :=
      linksSound_initial (Supervision.byStrap strap s.clock) (supervisionFits_byStrap _ _)
        (fun l => ⟨(s.link l).selectLow, by cases l <;> rfl⟩) rfl
    unfold State.startChecks
    dsimp only
    split <;> exact released.of_cores (by simp) (by simp)
  · exact h

theorem cycleCompletion_cores (s : State) (interval : Nat) (first : Sample) (rest : List Sample) :
    linkCores (cycleCompletionEffect interval first rest s).links = linkCores s.links := by
  unfold cycleCompletionEffect
  dsimp only
  split <;> simp

theorem cycleCompletion_set (s : State) (interval : Nat) (first : Sample) (rest : List Sample) :
    (cycleCompletionEffect interval first rest s).set = s.set := by
  have counted (m : CycleMark) : ((s.takeCrossing interval).regulatorCycle m interval).set = s.set := by
    obtain ⟨_, _, _, _, e⟩ := (takeCrossing_acts s interval).trans (regulatorCycle_acts _ m interval)
    rw [e]
  unfold cycleCompletionEffect
  dsimp only
  split <;> simp [counted]

theorem otherCommand_keepsLinks {i : Instr} (block : blockOf i = .other)
    (notFrame : ∀ l bytes odd, i ≠ .orderFrame l bytes odd) : Keeps LinksSound i := by
  have arrives (m : Instr) (u : State) (h : LinksSound u) : LinksSound (u.arrive m) := h
  cases i with
  | orderFrame l bytes odd => exact absurd rfl (notFrame l bytes odd)
  | powerOnReset => exact keeps_of_next (fun _ => rfl) fun s _ => linksSound_enterReset s .default false
  | panelReset => exact keeps_of_next (fun _ => rfl) fun s _ => linksSound_enterReset s _ _
  | resetRelease b => exact keeps_of_next (fun _ => rfl) fun _ h => h.resetRelease b
  | cycleCompletion p x xs =>
    exact keeps_of_effect (fun _ => rfl) fun u _ h => h.of_cores (cycleCompletion_cores u p x xs) (cycleCompletion_set u p x xs)
  | loadData l bs => exact keeps_of_arrival (fun _ => rfl) (arrives _) fun _ _ h => h.loadData l bs
  | confirm l t => exact keeps_of_arrival (fun _ => rfl) (arrives _) fun _ _ h => h.confirm l t
  | _ => cases block

theorem command_keepsLinks {i : Instr} (notFrame : ∀ l bytes odd, i ≠ .orderFrame l bytes odd) : Keeps LinksSound i := by
  intro s t run h
  cases block : blockOf i with
  | links => exact linksCommand_keepsLinks block s t run h
  | settings => exact settingsCommand_keepsLinks block s t run h
  | other => exact otherCommand_keepsLinks block notFrame s t run h
  | regulator =>
    have cores := regulatorCommand_cores block run
    obtain ⟨_, _, _, _, rfl⟩ := regulatorCommand_acts block run
    exact h.of_cores cores rfl
  | measurement =>
    have cores := measurementCommand_cores block run
    obtain ⟨_, _, _, _, rfl⟩ := measurementCommand_acts block run
    exact h.of_cores cores rfl
  | feeders =>
    have cores := feedersCommand_cores block run
    obtain ⟨_, _, _, _, _, rfl⟩ := feedersCommand_acts block run
    exact h.of_cores cores rfl
  | saw =>
    have cores := sawCommand_cores block run
    obtain ⟨_, _, _, _, _, rfl⟩ := sawCommand_acts block run
    exact h.of_cores cores rfl
  | claims =>
    obtain ⟨-, -, set, -⟩ := claimsCommand_acts block run
    exact h.of_cores (claimsCommand_cores block run) set

/-- R159 to R161: so does a frame, whose order is taken once the link has accepted it. -/
theorem orderFrame_keepsLinks (l : Link) (bytes : List Byte) (odd : Nat) : Keeps LinksSound (.orderFrame l bytes odd) := by
  intro s t run h
  have accepted (code : Byte) := (h.deselect l).acceptFrame l code
  obtain rfl | ⟨first, rfl⟩ | ⟨-, code, ops, -, ⟨st, -, rfl⟩ | ⟨i, -, taken⟩⟩ := exec_orderFrame_cases run
  · exact h.deselect l
  · exact (h.deselect l).discardFrame l first
  · exact (accepted code).answer l code st
  · cases order : isOrder i with
    | true =>
      rw [takeOrder_of_order order] at taken
      exact command_keepsLinks (order_ne_orderFrame order) _ _ taken (accepted code)
    | false =>
      rw [takeOrder_of_other order] at taken
      cases taken
      exact accepted code

/-- Settles O10: the laws of the links and of the proposals, kept by each command. -/
theorem stepKeepsLinkLaws : Obligations.StepKeepsLinkLaws := by
  unfold Obligations.StepKeepsLinkLaws
  intro s t run links fit
  have commands (i : Instr) : Keeps LinksSound i := by
    by_cases frame : ∃ l bytes odd, i = .orderFrame l bytes odd
    · obtain ⟨l, bytes, odd, rfl⟩ := frame
      exact orderFrame_keepsLinks l bytes odd
    · exact command_keepsLinks fun l bytes odd e => frame ⟨l, bytes, odd, e⟩
  have kept : LinksSound t :=
    step_keeps (fun _ _ h => h) (fun _ _ h => h) commands run ⟨(linkLaws_iff s).1 links, fit⟩
  exact ⟨(linkLaws_iff t).2 kept.1, kept.2⟩

end Sys2Proof.Machine

namespace Sys2Proof.Machine

/-! ### The laws of the contactors

The laws of commands and close commands hold of each unit by itself. Those of the contactor timings (R110, R145) hold while
the claims agree, so they are carried along where `timed` asks for them. -/

abbrev FeedersTimed (s : State) : Prop :=
  ∀ k : Fin 12, FeederTimingsFit (s.feeder k) (s.feederDriven k) s.pins.fb[k]

abbrev SawTimed (s : State) : Prop :=
  DisagreementFits s.saw s.saw.lineDisagree s.lineDriven s.pins.lineFb
    ∧ DisagreementFits s.saw s.saw.starDisagree s.starDriven s.pins.starFb
    ∧ DisagreementFits s.saw s.saw.deltaDisagree s.deltaDriven s.pins.deltaFb

structure FeedersSound (timed : Prop) (s : State) : Prop where
  laws : FeederLaws s
  timings : timed → s.held = false → FeedersTimed s

structure SawSound (timed : Prop) (s : State) : Prop where
  law : SawCommandsLaw s
  timings : timed → s.held = false → SawTimed s

/-! ### Single feeders -/

theorem vec12_get {α : Type} (f : Fin 12 → α) (k : Fin 12) : (vec12 f)[k] = f k := by
  fin_cases k <;> rfl

theorem feeder_setFeeder_self (s : State) (k : Fin 12) (f : Feeder) : (s.setFeeder k f).feeder k = f := by
  simp [State.feeder, State.setFeeder]

theorem feeder_setFeeder_of_ne (s : State) {j k : Fin 12} (f : Feeder) (ne : j ≠ k) :
    (s.setFeeder k f).feeder j = s.feeder j := by
  have apart : (k : Nat) ≠ j := fun e => ne (Fin.ext e.symm)
  simp [State.feeder, State.setFeeder, Vector.getElem_set_ne, apart]

theorem feeder_syncFeeders (s : State) (k : Fin 12) :
    s.syncFeeders.feeder k = feederTimings (s.feeder k) (s.feederDriven k) s.pins.fb[k] s.clock := vec12_get _ k

theorem feederTimings_eq (f : Feeder) (driven closed : Bool) (clock : Nat) :
    feederTimings f driven closed clock =
      { f with
        follow := (feederTimings f driven closed clock).follow
        stuck := (feederTimings f driven closed clock).stuck } := by
  unfold feederTimings; split <;> rfl

theorem feederFits_timings {f : Feeder} (driven closed : Bool) (clock : Nat) :
    FeederFits (feederTimings f driven closed clock) ↔ FeederFits f := by rw [feederTimings_eq]

/-- R110: once judged, a feeder's timings are as its driven level and its feedback ask. -/
theorem feederTimings_fit (f : Feeder) (driven closed : Bool) (clock : Nat) :
    FeederTimingsFit (feederTimings f driven closed clock) driven closed := by
  unfold feederTimings
  split
  · next e => simp [FeederTimingsFit, e, FeederState.isFault]
  all_goals
    next e => simp [FeederTimingsFit, e, FeederState.isFault, judge_ne_stopped, -ne_eq]

theorem feederDriven_syncFeeders (s : State) (k : Fin 12) : s.syncFeeders.feederDriven k = s.feederDriven k := by
  rw [State.feederDriven, feeder_syncFeeders, feederTimings_eq]; rfl

theorem feederLaws_congr {s t : State} (feeders : t.fdr.feeders = s.fdr.feeders) (h : FeederLaws s) : FeederLaws t := by
  simpa [FeederLaws, State.feeder, feeders] using h

theorem feederLaws_setFeeder {s : State} {k : Fin 12} {f : Feeder} (fits : FeederFits f) (h : FeederLaws s) :
    FeederLaws (s.setFeeder k f) := by
  intro j
  by_cases e : j = k
  · rw [e, feeder_setFeeder_self]; exact fits
  · rw [feeder_setFeeder_of_ne s f e]; exact h j

section
variable {timed : Prop} {s : State}

/-- R110: all is sound once the feeders have been judged. -/
theorem feedersSound_syncFeeders (laws : FeederLaws s) : FeedersSound timed s.syncFeeders := by
  refine ⟨fun k => ?_, fun _ _ k => ?_⟩
  · rw [feeder_syncFeeders, feederFits_timings]; exact laws k
  · rw [feederDriven_syncFeeders, feeder_syncFeeders]
    exact feederTimings_fit _ _ _ _

/-- What the law of the feeders reads of the claims: which of their claims are CARRIED. -/
abbrev FeedersCarried (s t : State) : Prop :=
  ∀ k : Fin 12, (t.claim (feederClaim k)).state = .carried ↔ (s.claim (feederClaim k)).state = .carried

theorem feederDriven_congr {s t : State} {k : Fin 12} (close : (t.feeder k).close = (s.feeder k).close)
    (held : t.held = s.held)
    (carried : (t.claim (feederClaim k)).state = .carried ↔ (s.claim (feederClaim k)).state = .carried) :
    t.feederDriven k = s.feederDriven k := by
  simp [State.feederDriven, State.carryEnable, close, held, carried]

theorem FeedersSound.congr {t : State} (h : FeedersSound timed s) (feeders : t.fdr.feeders = s.fdr.feeders)
    (fb : t.pins.fb = s.pins.fb) (held : t.held = s.held) (carried : timed → FeedersCarried s t) :
    FeedersSound timed t := by
  refine ⟨feederLaws_congr feeders h.laws, fun ht free k => ?_⟩
  have feeder : t.feeder k = s.feeder k := by simp [State.feeder, feeders]
  have fits := h.timings ht (held ▸ free) k
  rwa [feederDriven_congr (by rw [feeder]) held (carried ht k), feeder, fb]

/-- A feeder that moves without its close command, its fault or its timings changing. -/
theorem FeedersSound.setFeeder (h : FeedersSound timed s) {k : Fin 12} {f : Feeder} (fits : FeederFits f)
    (close : f.close = (s.feeder k).close) (fault : f.state.isFault = (s.feeder k).state.isFault)
    (follow : f.follow ≠ .stopped ↔ (s.feeder k).follow ≠ .stopped) (stuck : f.stuck = (s.feeder k).stuck) :
    FeedersSound timed (s.setFeeder k f) := by
  refine ⟨feederLaws_setFeeder fits h.laws, fun ht free j => ?_⟩
  have fitsBefore := h.timings ht free j
  by_cases e : j = k
  · subst e
    rw [feederDriven_congr (s := s) (t := s.setFeeder j f) (by rw [feeder_setFeeder_self, close]) rfl Iff.rfl,
      feeder_setFeeder_self]
    simpa only [FeederTimingsFit, fault, follow, stuck, setFeeder_pins] using fitsBefore
  · rwa [feederDriven_congr (s := s) (t := s.setFeeder k f) (by rw [feeder_setFeeder_of_ne s f e]) rfl Iff.rfl,
      feeder_setFeeder_of_ne s f e]

@[simp] theorem releaseCursor_feeders (k : Fin 12) : (s.releaseCursor k).fdr.feeders = s.fdr.feeders := by
  unfold State.releaseCursor; split <;> rfl

@[simp] theorem setCursor_feeders (c : Cursor) : (s.setCursor c).fdr.feeders = s.fdr.feeders := rfl
@[simp] theorem restartStep_feeders : s.restartStep.fdr.feeders = s.fdr.feeders := rfl
@[simp] theorem startStagger_feeders : s.startStagger.fdr.feeders = s.fdr.feeders := rfl

/-! ### The Feeder Controller's own effects -/

/-- A feeder whose close command goes off as it leaves, to any state but ON, WAITING and PENDING. -/
theorem feederFits_off {f : Feeder} (h : FeederFits f) {st : FeederState} (notOn : st ≠ .on) :
    FeederFits { f with state := st, close := false, restoring := false } :=
  ⟨by simpa using notOn, by simp, h.2.2⟩

theorem faultFeeder_sound (laws : FeederLaws s) (k : Fin 12) (kind : FeederFault) :
    FeedersSound timed (s.faultFeeder k kind) := by
  have faulted (t : State) (ht : FeederLaws t) : FeederLaws
      (t.setFeeder k { s.feeder k with
        state := .fault kind, close := false, restoring := false, follow := .stopped, stuck := .stopped }) :=
    feederLaws_setFeeder (feederFits_off (laws k) (st := .fault kind) (by simp)) ht
  unfold State.faultFeeder
  dsimp only
  have ended (t : State) (ht : FeederLaws t) :
      FeedersSound timed
        (((t.setFeeder k { s.feeder k with
            state := .fault kind, close := false, restoring := false, follow := .stopped
            stuck := .stopped }).addNotice .l3 .feeder).releaseCursor k).syncFeeders :=
    feedersSound_syncFeeders (feederLaws_congr (by simp) (faulted t ht))
  split <;> exact ended _ laws

theorem joinHistory_length {h : List Nat} (t : Nat) (bound : h.length ≤ 3) : (joinHistory h t).length ≤ 3 := by
  unfold joinHistory
  dsimp only
  split <;> simp at * <;> omega

theorem shedFeeder_laws (laws : FeederLaws s) (k : Fin 12) : FeederLaws (s.shedFeeder k) := by
  obtain ⟨-, -, history⟩ := laws k
  have fits : FeederFits
      { s.feeder k with
        state := if s.locksOut k then .locked else .shed
        close := false
        restoring := false
        history := joinHistory (s.feeder k).history s.clock } :=
    ⟨by cases s.locksOut k <;> simp, by simp, joinHistory_length _ history⟩
  exact feederLaws_congr (s := s.setFeeder k _) rfl (feederLaws_setFeeder fits laws)

theorem shedStep_sound (laws : FeederLaws s) : FeedersSound timed s.shedStep := by
  have ended (t : State) (ht : FeederLaws t) : FeedersSound timed t.restartStep.syncFeeders :=
    feedersSound_syncFeeders (feederLaws_congr rfl ht)
  unfold State.shedStep
  dsimp only
  split
  · exact ended s laws
  · split
    · exact ended _ (shedFeeder_laws laws _)
    · exact ended _ laws
    · exact ended _ (feederLaws_congr (by simp) laws)

theorem FeedersSound.stepBetweenMarks (h : FeedersSound timed s) : FeedersSound timed s.stepBetweenMarks := by
  unfold State.stepBetweenMarks
  split
  · exact h
  · split
    · exact shedStep_sound h.laws
    · exact h

theorem FeedersSound.feederCarried (h : FeedersSound timed s) (k : Fin 12) :
    FeedersSound timed (feederCarriedEffect k s) := by
  obtain ⟨-, -, history⟩ := h.laws k
  have on : FeederLaws (s.setFeeder k { s.feeder k with state := .on, close := true, restoring := false }) :=
    feederLaws_setFeeder ⟨by simp, by simp, history⟩ h.laws
  unfold feederCarriedEffect
  dsimp only
  split
  · split <;> exact feedersSound_syncFeeders (feederLaws_congr (by simp) on)
  · exact h

theorem FeedersSound.arrive (h : FeedersSound timed s) (m : Instr) : FeedersSound timed (s.arrive m) :=
  h.congr rfl rfl rfl fun _ _ => Iff.rfl

theorem FeedersSound.takeRestored (h : FeedersSound timed s) : FeedersSound timed s.takeRestored := by
  unfold State.takeRestored
  split
  · split
    · unfold State.takeReport
      split
      · exact (h.arrive _).feederCarried _
      · exact h
    · exact h
  all_goals exact h

theorem feederFits_waits {f : Feeder} (h : FeederFits f) (waits : f.state = .waiting ∨ f.state = .pending) :
    f.close = false := by
  obtain ⟨close, -⟩ := h
  rcases waits with e | e <;> simpa [e] using close

theorem cancelRestoring_laws (laws : FeederLaws s) : FeederLaws s.cancelRestoring := by
  unfold State.cancelRestoring
  split
  · next k _ =>
    dsimp only
    split
    · next waits =>
      have off := feederFits_waits (laws k) waits.1
      have fits : FeederFits { s.feeder k with state := .shed, restoring := false } :=
        ⟨by simp [off], by simp, (laws k).2.2⟩
      exact feederLaws_congr (s := s.setFeeder k _) rfl (feederLaws_setFeeder fits laws)
    · exact laws
  all_goals exact laws

theorem feedersAtBlack_sound (laws : FeederLaws s) : FeedersSound timed s.feedersAtBlack := by
  have fits (f : Feeder) (auto : Bool) (h : FeederFits f) : FeederFits (f.atBlack auto) := by
    refine ⟨?_, by simp [Feeder.atBlack], h.2.2⟩
    cases e : f.state <;> cases auto <;> simp [Feeder.atBlack, e]
  unfold State.feedersAtBlack
  dsimp only
  have moved : FeederLaws { s with fdr :=
      { feeders := vec12 fun k => (s.feeder k).atBlack (s.feederConfig k).autoRestore
        cursor := .idle
        step := .stopped } } := by
    intro k
    rw [State.feeder, vec12_get]
    exact fits _ _ (laws k)
  split
  · exact feedersSound_syncFeeders (feederLaws_congr (by simp) moved)
  · exact feedersSound_syncFeeders moved

theorem FeedersSound.stateReport (h : FeedersSound timed s) (r : StateReport) :
    FeedersSound timed (feederStateReportEffect r s) := by
  have same {t : State} (feeders : t.fdr.feeders = s.fdr.feeders) (pins : t.pins = s.pins) (held : t.held = s.held)
      (alw : t.alw = s.alw) : FeedersSound timed t :=
    h.congr feeders (by rw [pins]) held fun _ _ => by simp [State.claim, alw]
  unfold feederStateReportEffect
  split
  · exact feedersAtBlack_sound h.laws
  · exact h
  · dsimp only
    split <;> exact same rfl rfl rfl rfl
  · exact shedStep_sound (feederLaws_congr rfl (cancelRestoring_laws h.takeRestored.laws))
  · split
    · exact same rfl rfl rfl rfl
    all_goals exact h

theorem FeedersSound.admission (h : FeedersSound timed s) (k : Fin 12) : FeedersSound timed (feederAdmissionEffect k s) := by
  unfold feederAdmissionEffect
  split
  · next waiting =>
    have off := feederFits_waits (h.laws k) (.inl waiting)
    exact h.setFeeder ⟨by simp [off], fun _ => .inr rfl, (h.laws k).2.2⟩ rfl (by rw [waiting]; rfl) Iff.rfl rfl
  · exact h

theorem FeedersSound.stepHalfMark (h : FeedersSound timed s) : FeedersSound timed (stepHalfMarkEffect s) := by
  unfold stepHalfMarkEffect
  split
  · dsimp only
    split
    · exact shedStep_sound h.laws
    · exact h.congr rfl rfl rfl fun _ _ => Iff.rfl
  all_goals exact h

theorem FeedersSound.stepFullMark (h : FeedersSound timed s) : FeedersSound timed (stepFullMarkEffect s) := by
  unfold stepFullMarkEffect
  split
  · exact shedStep_sound h.laws
  · exact h

theorem FeedersSound.feedback (h : FeedersSound timed s) (k : Fin 12) (closed : Bool) :
    FeedersSound timed (feederFeedbackEffect k closed s) := by
  unfold feederFeedbackEffect
  dsimp only
  split
  · next held => exact ⟨h.laws, fun _ free => absurd (held.symm.trans free) (by simp)⟩
  · split
    · exact faultFeeder_sound (s := { s with pins := { s.pins with fb := s.pins.fb.set k closed } }) h.laws _ _
    · exact feedersSound_syncFeeders h.laws

theorem FeedersSound.followTiming (h : FeedersSound timed s) (k : Fin 12) : FeedersSound timed (followTimingEffect k s) := by
  unfold followTimingEffect
  dsimp only
  split
  · next since runs =>
    split
    · exact faultFeeder_sound (s := s.reachTick _) h.laws _ _
    · have reached : FeedersSound timed (s.reachTick (since + Config.contactorTicks)) :=
        h.congr rfl rfl rfl fun _ _ => Iff.rfl
      exact reached.setFeeder (h.laws k) rfl rfl ⟨fun _ => ne_stopped_of_start (since := since) (by
        change (s.feeder k).follow.start? = _
        rw [runs]; rfl), fun _ => by simp⟩ rfl
  all_goals exact h

theorem FeedersSound.stuckTiming (h : FeedersSound timed s) (k : Fin 12) : FeedersSound timed (stuckTimingEffect k s) := by
  unfold stuckTimingEffect
  split
  · exact h
  · exact faultFeeder_sound (s := s.reachTick _) h.laws _ _
  all_goals exact h

theorem FeedersSound.answer (h : FeedersSound timed s) (l : Link) (code : Byte) (st : Status) :
    FeedersSound timed (s.answer l code st) := h.congr rfl rfl rfl fun _ _ => Iff.rfl

theorem FeedersSound.feederOff (h : FeedersSound timed s) (k : Fin 12) : FeedersSound timed (s.feederOff k).1 := by
  have fits := feederFits_off (h.laws k) (st := .off) (by simp)
  have offed {t : State} (feeders : t.fdr.feeders = s.fdr.feeders) : FeederLaws
      (t.setFeeder k { s.feeder k with state := .off, close := false, restoring := false }) :=
    feederLaws_setFeeder fits (feederLaws_congr feeders h.laws)
  have quietly (closed : (s.feeder k).close = false) (fault : (s.feeder k).state.isFault = false) :
      FeedersSound timed (s.setFeeder k { s.feeder k with state := .off, close := false, restoring := false }) :=
    h.setFeeder fits closed.symm fault.symm Iff.rfl rfl
  have closed (notOn : (s.feeder k).state ≠ .on) : (s.feeder k).close = false := by
    have close := (h.laws k).1
    simpa [notOn] using close
  unfold State.feederOff
  dsimp only
  split
  · next e =>
    exact (quietly (closed (by simp [e])) (by rw [e]; rfl)).congr (by simp; rfl) (by simp) (by simp) fun _ _ => by
      simp [State.claim]
  · next e =>
    exact (quietly (closed (by simp [e])) (by rw [e]; rfl)).congr (by simp; rfl) (by simp) (by simp) fun _ _ => by
      simp [State.claim]
  · exact feedersSound_syncFeeders (offed rfl)
  · next e => exact quietly (closed (by simp [e])) (by rw [e]; rfl)
  all_goals exact h

theorem FeedersSound.feederClear (h : FeedersSound timed s) (k : Fin 12) : FeedersSound timed (s.feederClear k).1 := by
  obtain ⟨close, restoring, history⟩ := h.laws k
  unfold State.feederClear
  dsimp only
  split
  · next e =>
    split
    · refine h.setFeeder ⟨by simpa [e] using close, ?_, by simp⟩ rfl (by rw [e]; rfl) Iff.rfl rfl
      simpa [e] using restoring
    · exact h
  · next e =>
    split
    · exact h
    · refine feedersSound_syncFeeders (feederLaws_setFeeder ⟨by simpa [e] using close, ?_, history⟩ h.laws)
      simpa [e] using restoring
  all_goals exact h

end

end Sys2Proof.Machine

namespace Sys2Proof.Machine

/-! ### The Saw Sequencer's own effects -/

theorem disagreement_isSome (t : Option Nat) (fault driven closed : Bool) (clock : Nat) :
    (disagreement t fault driven closed clock).isSome = true ↔ fault = false ∧ driven ≠ closed := by
  unfold disagreement
  cases t <;> cases fault <;> cases driven <;> cases closed <;> simp

section
variable {timed : Prop} {s : State}

/-- R136: in STAR to FEED_HOLD and out of them, a state's commands are its own. -/
theorem commandsIn_feed (d : Direction) : feedCommands d = commandsIn (feedState d) := by cases d <;> rfl

/-- R145: all is sound once the saw has been judged. -/
theorem sawSound_syncSaw (law : SawCommandsLaw s) : SawSound timed s.syncSaw :=
  ⟨law, fun _ _ => ⟨disagreement_isSome _ _ _ _ _, disagreement_isSome _ _ _ _ _, disagreement_isSome _ _ _ _ _⟩⟩

/-- What the laws of the saw's contactors read of the saw and its inputs. -/
theorem SawSound.congr {t : State} (h : SawSound timed s)
    (saw : t.saw = { t.saw with
      state := s.saw.state, commands := s.saw.commands, lineDisagree := s.saw.lineDisagree
      starDisagree := s.saw.starDisagree, deltaDisagree := s.saw.deltaDisagree })
    (pins : t.pins = { t.pins with lineFb := s.pins.lineFb, starFb := s.pins.starFb, deltaFb := s.pins.deltaFb })
    (held : t.held = s.held)
    (carried : timed → ((t.claim 4).state = .carried ↔ (s.claim 4).state = .carried)) : SawSound timed t := by
  obtain ⟨law, timings⟩ := h
  refine ⟨by rw [SawCommandsLaw, saw]; exact law, fun ht free => ?_⟩
  have fits := timings ht (held ▸ free)
  have enabled : t.carryEnable 4 = s.carryEnable 4 := by simp [State.carryEnable, held, carried ht]
  simp only [SawTimed, DisagreementFits, State.lineDriven, State.starDriven, State.deltaDriven, enabled] at fits ⊢
  rw [saw, pins]
  exact fits

theorem sawSound_entering (t : State) (st : SawState) : SawSound timed (sawEntering t st).syncSaw :=
  sawSound_syncSaw (s := sawEntering t st) rfl

theorem sawSound_moving (t : State) (st : SawState) : SawSound timed (sawMoving t st) :=
  sawSound_syncSaw (s := sawNoticed t st) rfl

theorem sawSound_moved (t : State) {st : SawState} {cmd : SawCommands} (own : cmd = commandsIn st) :
    SawSound timed (t.moveSaw st cmd).syncSaw := by
  rw [moveSaw_eq t own]; exact sawSound_entering t st

theorem sawSound_notified (t : State) {st : SawState} {cmd : SawCommands} (own : cmd = commandsIn st) :
    SawSound timed (t.moveSawNotified st cmd).syncSaw := by
  rw [moveSawNotified_syncSaw t own]; exact sawSound_moving t st

theorem sawSound_faultSaw (t : State) (kind : SawFault) : SawSound timed (t.faultSaw kind) := by
  rw [faultSaw_eq]; exact sawSound_moving _ _

theorem sawSound_stopSequence (t : State) (o : Ending) : SawSound timed (t.stopSequence o) := by
  rw [stopSequence_eq]; exact sawSound_moving _ _

theorem sawSound_sawLetGo (t : State) : SawSound timed t.sawLetGo := by
  rw [sawLetGo_eq]; exact sawSound_moving _ _

theorem sawSound_closeDelta (t : State) : SawSound timed t.closeDelta := sawSound_notified _ rfl

theorem sawSound_enterChangeover (t : State) : SawSound timed t.enterChangeover := by
  unfold State.enterChangeover
  exact sawSound_syncSaw rfl

theorem SawSound.judgeLimits (h : SawSound timed s) : SawSound timed s.judgeLimits := by
  unfold State.judgeLimits
  split
  · exact sawSound_faultSaw s _
  · exact h

/-- R143: the overload and resume timings are not contactor timings. -/
theorem SawSound.judgeOverload (h : SawSound timed s) : SawSound timed s.judgeOverload := by
  unfold State.judgeOverload
  dsimp only
  split
  · exact h.congr rfl rfl rfl fun _ => Iff.rfl
  · exact h.congr rfl rfl rfl fun _ => Iff.rfl
  all_goals exact h

theorem SawSound.answer (h : SawSound timed s) (l : Link) (code : Byte) (st : Status) : SawSound timed (s.answer l code st) :=
  h.congr rfl rfl rfl fun _ => Iff.rfl

theorem SawSound.sawOrder (h : SawSound timed s) (l : Link) (code : Byte) {f : State → State × Status}
    (kept : ∀ t, SawSound timed t → SawSound timed (f t).1) : SawSound timed (sawOrder l code f s) := by
  unfold Sys2Proof.Machine.sawOrder
  split
  · exact h.answer _ _ _
  · exact (kept s h).answer _ _ _

theorem SawSound.sawStop (h : SawSound timed s) : SawSound timed s.sawStop.1 := by
  have own : SawCommands.allOff = commandsIn s.stopTarget := commandsIn_stopState s
  unfold State.sawStop
  split
  · exact sawSound_moved _ own
  · split
    · exact sawSound_moved _ own
    · exact h

theorem SawSound.sawHold (h : SawSound timed s) : SawSound timed s.sawHold.1 := by
  unfold State.sawHold
  split
  · exact sawSound_moved _ rfl
  · exact sawSound_moved _ rfl
  all_goals exact h

theorem SawSound.sawResume (h : SawSound timed s) : SawSound timed s.sawResume.1 := by
  unfold State.sawResume
  split
  · exact sawSound_moved _ (commandsIn_feed _)
  all_goals exact h

theorem SawSound.sawClearFault (h : SawSound timed s) : SawSound timed s.sawClearFault.1 := by
  unfold State.sawClearFault
  split
  · exact (sawSound_moved _ (st := .stopped) rfl).judgeLimits
  · exact h

theorem SawSound.sawCarried (h : SawSound timed s) (c : SawClaim) : SawSound timed (sawCarriedEffect c s) := by
  unfold sawCarriedEffect
  split
  · exact sawSound_syncSaw rfl
  · split
    · exact sawSound_notified _ rfl
    · exact sawSound_notified _ (commandsIn_feed _)
  · exact h

theorem SawSound.sawEnding (h : SawSound timed s) (c : SawClaim) (o : Ending) : SawSound timed (sawEndingEffect c o s) := by
  unfold sawEndingEffect
  split
  · split
    · exact sawSound_notified _ rfl
    · split
      · exact sawSound_sawLetGo s
      · exact h
  · split
    all_goals first
      | exact h
      | (split
         · exact sawSound_notified _ rfl
         · exact h)

theorem SawSound.sawStateReport (h : SawSound timed s) (r : StateReport) : SawSound timed (sawStateReportEffect r s) := by
  unfold sawStateReportEffect
  split
  · split
    · exact sawSound_notified _ rfl
    · split
      · exact sawSound_sawLetGo s
      · exact h
  · exact h

theorem SawSound.shedRequest (h : SawSound timed s) (t : SawTarget) : SawSound timed (shedRequestEffect t s) := by
  unfold shedRequestEffect
  split
  · split
    all_goals first
      | exact sawSound_notified _ rfl
      | exact h
  · split
    · exact sawSound_stopSequence s _
    · exact h

theorem SawSound.linkLossSaw (h : SawSound timed s) (l : Link) : SawSound timed (linkLossSawEffect l s) := by
  unfold linkLossSawEffect
  split
  · exact sawSound_stopSequence s _
  · exact h

theorem SawSound.bladeWindow (h : SawSound timed s) : SawSound timed (bladeWindowEffect s) := by
  have counted (t : State) (ht : SawSound timed t) (run : Nat) : SawSound timed
      (if Config.stallWindows ≤ run then t.faultSaw .stall else { t with saw := { t.saw with stallRun := run } }) := by
    split
    · exact sawSound_faultSaw t _
    · exact ht.congr rfl rfl rfl fun _ => Iff.rfl
  unfold bladeWindowEffect
  dsimp only
  split
  · exact sawSound_enterChangeover _
  · split
    · refine counted _ ?_ _
      exact h.congr rfl rfl rfl fun _ => Iff.rfl
    · exact h.congr rfl rfl rfl fun _ => Iff.rfl

/-- R144: from STOPPING to STOPPED no command changes. -/
theorem SawSound.bladeQuiet (h : SawSound timed s) : SawSound timed (bladeQuietEffect s) := by
  unfold bladeQuietEffect
  split
  · exact h
  · dsimp only
    split
    · next stopping =>
      have state : s.saw.state = .stopping := stopping
      have off : s.saw.commands = .allOff := by rw [h.law, state]; rfl
      refine ⟨rfl, fun ht free => ?_⟩
      have fits := h.timings ht free
      simp only [SawTimed, DisagreementFits, State.lineDriven, State.starDriven, State.deltaDriven, state, off] at fits
      exact fits
    · exact h.congr rfl rfl rfl fun _ => Iff.rfl

theorem SawSound.starTime (h : SawSound timed s) : SawSound timed (starTimeEffect s) := by
  unfold starTimeEffect
  split
  · exact h
  · dsimp only
    split
    · exact sawSound_enterChangeover _
    · exact sawSound_faultSaw _ _

theorem SawSound.deadTime (h : SawSound timed s) : SawSound timed (deadTimeEffect s) := by
  unfold deadTimeEffect
  split
  · exact h
  · dsimp only
    split
    · exact h.congr rfl rfl rfl fun _ => Iff.rfl
    · exact sawSound_closeDelta _

/-- Inputs that change while a reset is held are judged at its release. -/
theorem SawSound.held {t : State} (h : SawSound timed s) (saw : t.saw = s.saw) (held : t.held = true) : SawSound timed t :=
  ⟨by simpa only [SawCommandsLaw, saw] using h.law, fun _ free => absurd (held.symm.trans free) (by simp)⟩

theorem SawSound.sawFeedback (h : SawSound timed s) (c : MotorContactor) (closed : Bool) :
    SawSound timed (sawFeedbackEffect c closed s) := by
  unfold sawFeedbackEffect
  dsimp only
  split
  · next held => exact h.held rfl held
  · split
    · exact sawSound_closeDelta _
    · exact sawSound_syncSaw h.law

theorem SawSound.disagreement (h : SawSound timed s) (c : MotorContactor) : SawSound timed (disagreementEffect c s) := by
  unfold disagreementEffect
  split
  · exact h
  · split
    · exact h
    · exact sawSound_faultSaw _ _

theorem sawCommandsLaw_endFeedAt (h : SawCommandsLaw s) (d : Direction) : SawCommandsLaw (s.endFeedAt d) := by
  have moved (ends : Bool) : SawCommandsLaw
      (if ends then (s.send (.endRequest 5 .released)).moveSawNotified .run .running else s) := by
    cases ends with
    | false => exact h
    | true => rfl
  exact moved _

theorem SawSound.limitChange (h : SawSound timed s) (w : LimitSwitch) (active : Bool) :
    SawSound timed (limitChangeEffect w active s) := by
  have read : SawSound timed { s with pins := s.pins.setLimit w active } :=
    h.congr rfl (by cases w <;> rfl) rfl fun _ => Iff.rfl
  unfold limitChangeEffect
  dsimp only
  split
  · exact read
  · split
    · exact read.judgeLimits
    · split
      · exact sawSound_syncSaw (sawCommandsLaw_endFeedAt read.law _)
      · exact read

theorem SawSound.estop (h : SawSound timed s) (active : Bool) : SawSound timed (estopEffect active s) := by
  have read : SawSound timed { s with pins := { s.pins with estop := active } } := h.congr rfl rfl rfl fun _ => Iff.rfl
  unfold estopEffect
  dsimp only
  split
  · exact read
  · split
    · exact sawSound_faultSaw _ _
    · exact read

theorem SawSound.overloadTiming (h : SawSound timed s) : SawSound timed (overloadTimingEffect s) := by
  unfold overloadTimingEffect
  split
  · exact h
  · exact sawSound_notified _ rfl

theorem SawSound.resumeTiming (h : SawSound timed s) : SawSound timed (resumeTimingEffect s) := by
  unfold resumeTimingEffect
  split
  · exact h
  · exact sawSound_notified _ (commandsIn_feed .forward)

end

end Sys2Proof.Machine

namespace Sys2Proof.Machine

/-! ### Which of the blocks' claims are CARRIED

Only an end request, a due event and a station change alter that, and each judges the contactors again; whatever else the
Allowance Unit does leaves it, while its tables agree. -/

/-- From s to t the same claims of the Feeder Controller and the Saw Sequencer are CARRIED. -/
abbrev OwnedCarried (s t : State) : Prop :=
  ∀ n : Fin 24, blockOwner n ≠ none → ((t.claim n).state = .carried ↔ (s.claim n).state = .carried)

/-- From s the tables agree in t, with the same of those claims CARRIED. -/
abbrev Carrying (s t : State) : Prop := ClaimTableLaws t ∧ OwnedCarried s t

theorem ownedCarried_of_claims {s t : State} (same : t.alw.claims = s.alw.claims) : OwnedCarried s t := fun n _ => by
  simp [State.claim, same]

theorem OwnedCarried.trans {s t u : State} (h : OwnedCarried s t) (k : OwnedCarried t u) : OwnedCarried s u :=
  fun n owned => (k n owned).trans (h n owned)

/-- One claim is replaced, and is CARRIED as it was, or is no block's. -/
theorem ownedCarried_update {s t : State} {n : Fin 24} {c : Claim} (claims : t.alw.claims = s.alw.claims.set n c)
    (same : blockOwner n ≠ none → (c.state = .carried ↔ (s.claim n).state = .carried)) : OwnedCarried s t := by
  intro m owned
  by_cases e : m = n
  · subst e; rw [claim_of_set_self claims]; exact same owned
  · rw [claim_of_set_ne claims e]

theorem carrying_law (s : State) : AdmissionLaw (Carrying s) where
  frame alw set := fun ⟨table, carried⟩ =>
    ⟨claimTableLaws_law.frame alw set table, carried.trans (ownedCarried_of_claims (by rw [alw]))⟩
  admitHead {t n rest} head passes := fun ⟨table, carried⟩ => by
    refine ⟨claimTableLaws_law.admitHead head passes table, carried.trans ?_⟩
    have waiting : (t.claim n).state = .waiting := (table.1.2.2 n).1 (by simp [head])
    exact ownedCarried_update (n := n) (by rw [admitHead_alw]) fun _ => by simp [waiting]
  surgeOver live surges := fun ⟨table, carried⟩ =>
    ⟨claimTableLaws_law.surgeOver live surges table, carried.trans (ownedCarried_update rfl fun _ => Iff.rfl)⟩
  enqueue live free room new := fun ⟨table, carried⟩ =>
    ⟨claimTableLaws_law.enqueue live free room new table,
      carried.trans (ownedCarried_update rfl fun _ => by simp [new.state, free])⟩
  budgetCheck := fun ⟨table, carried⟩ =>
    ⟨claimTableLaws_law.budgetCheck table, carried.trans (ownedCarried_of_claims (by simp))⟩
  divide d stale alw := fun ⟨table, carried⟩ =>
    ⟨claimTableLaws_law.divide d stale alw table, carried.trans (ownedCarried_of_claims (by simp [alw]))⟩
  divideSame alw bands := fun ⟨table, carried⟩ =>
    ⟨claimTableLaws_law.divideSame alw bands table, carried.trans (ownedCarried_of_claims (by rw [alw]))⟩

theorem Carrying.refl {s : State} (table : ClaimTableLaws s) : Carrying s s := ⟨table, fun _ _ => Iff.rfl⟩

/-- A claim that no block holds, or that is not CARRIED, may be let go. -/
theorem Carrying.letGo {s t : State} (h : Carrying s t) {n : Fin 24} (o : Ending)
    (apart : blockOwner n = none ∨ (t.claim n).state ≠ .carried) : Carrying s (t.letGo n o) := by
  obtain ⟨table, carried⟩ := h
  refine ⟨claimTableLaws_law.letGo n o table, carried.trans ?_⟩
  by_cases free : (t.claim n).state = .free
  · rw [letGo_free t o free]; exact fun _ _ => Iff.rfl
  · refine ownedCarried_update (n := n) (c := (t.claim n).freed o) (by rw [letGo_alw t o free]) fun owned => ?_
    simpa [Claim.freed] using apart.resolve_left owned

theorem Carrying.endClaim {s t : State} (h : Carrying s t) {n : Fin 24} (o : Ending)
    (apart : blockOwner n = none ∨ (t.claim n).state ≠ .carried) : Carrying s (t.endClaim n o) :=
  (carrying_law s).afterRelease _ _ (h.letGo o apart)

theorem carrying_waitExpiry {s : State} (table : ClaimTableLaws s) (n : Fin 24) : Carrying s (waitExpiryEffect n s) := by
  unfold waitExpiryEffect
  split
  · next t waiting _ =>
    have reached : Carrying s (s.reachTick t) := .refl table
    exact (carrying_law s).afterRelease _ _ (reached.letGo (n := n) .expired (.inr (by
      rw [show (s.reachTick t).claim n = s.claim n from rfl, waiting]; simp)))
  · exact .refl table

theorem carrying_withdraw {s : State} (table : ClaimTableLaws s) (l : Link) (n : Nat) : Carrying s (withdrawEffect l n s) := by
  have answered (t : State) (st : Status) (ht : Carrying s t) : Carrying s (t.answer l Code.withdraw st) := ht
  unfold withdrawEffect
  split
  · exact answered _ _ (.refl table)
  · next m field =>
    have free : blockOwner m = none := blockOwner_of_freeClaims (mem_freeClaims_of_field field)
    split
    · exact answered _ _ ((Carrying.refl table).endClaim _ (.inl free))
    · exact answered _ _ ((Carrying.refl table).endClaim _ (.inl free))
    all_goals exact answered _ _ (.refl table)

theorem carrying_release {s : State} (table : ClaimTableLaws s) (l : Link) (n : Nat) : Carrying s (releaseEffect l n s) := by
  have answered (t : State) (st : Status) (ht : Carrying s t) : Carrying s (t.answer l Code.release st) := ht
  unfold releaseEffect
  split
  · exact answered _ _ (.refl table)
  · next m field =>
    have free : blockOwner m = none := blockOwner_of_freeClaims (mem_freeClaims_of_field field)
    split
    · exact answered _ _ ((Carrying.refl table).endClaim _ (.inl free))
    all_goals exact answered _ _ (.refl table)

theorem carrying_linkLoss {s : State} (table : ClaimTableLaws s) (l : Link) : Carrying s (linkLossAllowanceEffect l s) := by
  have lost (t : State) (ht : Carrying s t) (n : Fin 24) : Carrying s (t.loseClaim n) := by
    unfold State.loseClaim
    split
    · next e => exact ht.letGo _ (.inr (by simp [e]))
    · next e => exact (carrying_law s).budgetCheckInDeficit (ht.letGo _ (.inr (by simp [e])))
    all_goals exact ht
  have fold (ns : List (Fin 24)) : ∀ t, Carrying s t → Carrying s (ns.foldl State.loseClaim t) := by
    induction ns with
    | nil => exact fun _ ht => ht
    | cons n ns ih => exact fun t ht => ih _ (lost t ht n)
  have all := fold (freeClaims l) { s with alw := { s.alw with stale := s.alw.stale || l = .l1 } } (.refl table)
  unfold linkLossAllowanceEffect
  dsimp only
  split
  · exact all
  · exact (carrying_law s).consider all

/-! ### The contactors, while the claims do what they do -/

/-- The laws of the Feeder Controller's and the Saw Sequencer's contactors. -/
structure ContactorsSound (timed : Prop) (s : State) : Prop where
  feeders : FeedersSound timed s
  saw : SawSound timed s

section
variable {timed : Prop} {s t : State}

theorem blockOwner_feederClaim (k : Fin 12) : blockOwner (feederClaim k) ≠ none := by revert k; decide
theorem blockOwner_motor : blockOwner 4 ≠ none := by decide

theorem FeedersSound.carry (h : FeedersSound timed s) (fdr : t.fdr.feeders = s.fdr.feeders) (others : ClaimsAct s t)
    (carried : timed → OwnedCarried s t) : FeedersSound timed t := by
  obtain ⟨-, -, -, pins, held⟩ := others
  exact h.congr fdr (by rw [pins]) held fun ht k => carried ht _ (blockOwner_feederClaim k)

theorem SawSound.carry (h : SawSound timed s) (saw : t.saw = s.saw) (others : ClaimsAct s t)
    (carried : timed → OwnedCarried s t) : SawSound timed t := by
  obtain ⟨-, -, -, pins, held⟩ := others
  exact h.congr (by rw [saw]) (by rw [pins]) held fun ht => carried ht _ blockOwner_motor

/-- What acts on the Allowance Unit alone and leaves the blocks' claims CARRIED as they were. -/
theorem ContactorsSound.carry (h : ContactorsSound timed s) (acts : AllowanceActs s t)
    (carried : timed → OwnedCarried s t) : ContactorsSound timed t := by
  obtain ⟨others, fdr, saw⟩ := acts
  exact ⟨h.feeders.carry (by rw [fdr]) others carried, h.saw.carry saw others carried⟩

/-- Once both are judged, all is sound. -/
theorem contactorsSound_sync (feeders : FeederLaws s) (saw : SawCommandsLaw s) : ContactorsSound timed s.sync := by
  have judged : FeedersSound timed s.syncFeeders := feedersSound_syncFeeders feeders
  exact ⟨judged.congr rfl rfl rfl fun _ _ => Iff.rfl, sawSound_syncSaw (s := s.syncFeeders) saw⟩

/-- What acts on the Allowance Unit alone and judges the contactors then. -/
theorem ContactorsSound.synced (h : ContactorsSound timed s) (acts : AllowanceActs s t) : ContactorsSound timed t.sync := by
  obtain ⟨-, fdr, saw⟩ := acts
  exact contactorsSound_sync (feederLaws_congr (by rw [fdr]) h.feeders.laws) (by
    rw [SawCommandsLaw, saw]; exact h.saw.law)

theorem ContactorsSound.allowanceReport (h : ContactorsSound timed s) (table : timed → ClaimTableLaws s) (r : StateReport) :
    ContactorsSound timed (allowanceReportEffect r s) := by
  have reported : ∀ r' : LastReport, timed → Carrying s (s.withReport r') := fun r' ht => .refl (table ht)
  unfold allowanceReportEffect
  split
  · exact h.synced ((withReport_acts s _).trans (cancelAll_acts _))
  · exact h.carry (withReport_acts s _) fun ht => (reported _ ht).2
  · exact h.carry ((withReport_acts s _).trans (consider_acts _)) fun ht => ((carrying_law s).consider (reported _ ht)).2
  · exact h.synced ((withReport_acts s _).trans (cancelMarks_acts _))
  · exact h.carry ((withReport_acts s _).trans (consider_acts _)) fun ht => ((carrying_law s).consider (reported _ ht)).2

theorem ContactorsSound.dueEvent (h : ContactorsSound timed s) (n : Fin 24) : ContactorsSound timed (dueEventEffect n s) := by
  unfold dueEventEffect
  split
  · exact h
  · next m _ =>
    have reached : AllowanceActs s (s.reachTick m.due) := ⟨⟨rfl, rfl, rfl, rfl, rfl⟩, rfl, rfl⟩
    exact h.synced ((reached.trans (dueEvent_acts _ m)).trans (consider_acts _))

theorem ContactorsSound.endRequest (h : ContactorsSound timed s) (n : Fin 24) (o : Ending) :
    ContactorsSound timed (endRequestEffect n o s) := by
  unfold endRequestEffect
  split
  · exact h
  · exact h.synced (by simp [AllowanceActs, ClaimsAct])

/-! The requests of the Feeder Controller. -/

theorem requestFeeder_acts (s : State) (k : Fin 12) : AllowanceActs s (s.requestFeeder k).1 := by
  simp [AllowanceActs, ClaimsAct]

theorem ContactorsSound.requestFeeder (h : ContactorsSound timed s) (table : timed → ClaimTableLaws s) (k : Fin 12) :
    ContactorsSound timed (s.requestFeeder k).1 :=
  h.carry (requestFeeder_acts s k) fun ht => ((carrying_law s).requestFeeder k (.refl (table ht))).2

/-- R128: the choice falls on a feeder that is SHED. -/
theorem lowestShed_state {k : Fin 12} (h : s.lowestShed = some k) : (s.feeder k).state = .shed := by
  have chosen (ks : List (Fin 12)) : ∀ best : Option (Fin 12),
      ks.foldl
        (fun best k =>
          match best with
          | none => some k
          | some b => if (s.feederConfig k).rank < (s.feederConfig b).rank then some k else some b) best = some k →
      best = some k ∨ k ∈ ks := by
    induction ks with
    | nil => exact fun _ e => .inl e
    | cons j js ih =>
      intro best e
      rcases ih _ e with found | later
      · cases best with
        | none => exact .inr (by simp at found; simp [found])
        | some b =>
          by_cases lower : (s.feederConfig j).rank < (s.feederConfig b).rank
          · exact .inr (by simp [lower] at found; simp [found])
          · exact .inl (by simpa [lower] using found)
      · exact .inr (List.mem_cons_of_mem _ later)
  have found := (chosen _ none h).resolve_left (by simp)
  exact of_decide_eq_true (List.mem_filter.1 found).2

theorem restorationChoice_laws (laws : FeederLaws s) : FeederLaws s.restorationChoice := by
  unfold State.restorationChoice
  split
  · exact laws
  · next k lowest =>
    have requested : (s.requestFeeder k).1.fdr = s.fdr := by simp
    split
    · next u request =>
      rw [request] at requested
      have shed : (s.feeder k).close = false := by
        have close := (laws k).1
        rw [lowestShed_state lowest] at close
        simpa using close
      have fits : FeederFits { s.feeder k with state := .waiting, restoring := true } :=
        ⟨by simp [shed], fun _ => .inl rfl, (laws k).2.2⟩
      exact feederLaws_congr rfl (feederLaws_setFeeder fits (feederLaws_congr (by rw [requested]) laws))
    · next u _ _ request =>
      rw [request] at requested
      have same : u.fdr = s.fdr := requested
      exact feederLaws_congr (s := s) (by rw [startStagger_feeders, same]) laws

/-- What ends in a judgement of the feeders, the saw's claims CARRIED as they were. -/
theorem ContactorsSound.feedersSynced (h : ContactorsSound timed s) (feeders : FeederLaws t) (saw : t.saw = s.saw)
    (others : ClaimsAct s t) (carried : timed → OwnedCarried s t) : ContactorsSound timed t.syncFeeders :=
  ⟨feedersSound_syncFeeders feeders, h.saw.carry (t := t.syncFeeders) saw others carried⟩

theorem ContactorsSound.restoration (h : ContactorsSound timed s) (table : timed → ClaimTableLaws s) :
    ContactorsSound timed s.restorationChoice.syncFeeders :=
  h.feedersSynced (restorationChoice_laws h.feeders.laws) (by simp) (by simp [ClaimsAct]) fun ht =>
    ((carrying_law s).restorationChoice (.refl (table ht))).2

theorem ContactorsSound.restoreHold (h : ContactorsSound timed s) (table : timed → ClaimTableLaws s) :
    ContactorsSound timed (restoreHoldEffect s) := by
  unfold restoreHoldEffect
  split
  · next t _ =>
    have reached : ContactorsSound timed (s.reachTick t) :=
      h.carry ⟨⟨rfl, rfl, rfl, rfl, rfl⟩, rfl, rfl⟩ fun _ => ownedCarried_of_claims rfl
    exact reached.restoration table
  all_goals exact h

theorem ContactorsSound.stagger (h : ContactorsSound timed s) (table : timed → ClaimTableLaws s) :
    ContactorsSound timed (staggerEffect s) := by
  unfold staggerEffect
  split
  · next t _ =>
    have reached : ContactorsSound timed (s.reachTick t) :=
      h.carry ⟨⟨rfl, rfl, rfl, rfl, rfl⟩, rfl, rfl⟩ fun _ => ownedCarried_of_claims rfl
    exact reached.restoration table
  all_goals exact h

theorem ContactorsSound.feederLetGo (h : ContactorsSound timed s) (table : timed → ClaimTableLaws s) (k : Fin 12)
    (toShed : Bool) : ContactorsSound timed (s.feederLetGo k toShed) := by
  have fits : FeederFits
      { s.feeder k with state := if toShed then .shed else .off, close := false, restoring := false } :=
    feederFits_off (h.feeders.laws k) (by cases toShed <;> simp)
  have dropped : FeederLaws (s.dropFeeder k toShed) :=
    feederLaws_congr (s := s.setFeeder k _) rfl (feederLaws_setFeeder fits h.feeders.laws)
  have carried : timed → Carrying s (s.dropFeeder k toShed) := fun ht => .refl (table ht)
  have others : ClaimsAct s (s.dropFeeder k toShed) := ⟨rfl, rfl, rfl, rfl, rfl⟩
  rw [feederLetGo_eq]
  split
  · exact h.feedersSynced (restorationChoice_laws dropped) (by simp; rfl) (others.trans (by simp [ClaimsAct])) fun ht =>
      ((carrying_law s).restorationChoice (carried ht)).2
  · exact h.feedersSynced (feederLaws_congr (by simp) dropped) (by simp; rfl) (others.trans (by simp [ClaimsAct]))
      fun ht => (carried ht).2.trans (ownedCarried_of_claims (by simp))

theorem ContactorsSound.feederEnding (h : ContactorsSound timed s) (table : timed → ClaimTableLaws s) (k : Fin 12)
    (o : Ending) : ContactorsSound timed (feederEndingEffect k o s) := by
  unfold feederEndingEffect
  dsimp only
  split
  · split
    · exact h.feederLetGo table k _
    · exact h
  · split
    · exact h.feederLetGo table k _
    · exact h
  · split
    · exact h.feederLetGo table k _
    · exact h
  all_goals exact h

theorem ContactorsSound.feederOn (h : ContactorsSound timed s) (table : timed → ClaimTableLaws s) (k : Fin 12) :
    ContactorsSound timed (s.feederOn k).1 := by
  have requested := h.requestFeeder table k
  have same : (s.requestFeeder k).1.fdr = s.fdr := by simp
  unfold State.feederOn
  split
  · exact h
  · split
    · exact h
    · next off =>
      rw [not_not] at off
      split
      · next u request =>
        rw [request] at requested same
        have feeder : u.feeder k = s.feeder k := congrArg (fun f => f.feeders[k]) same
        have open_ : (s.feeder k).close = false := by
          have close := (h.feeders.laws k).1
          rw [off] at close
          simpa using close
        have fits : FeederFits { s.feeder k with state := .waiting, restoring := false } :=
          ⟨by simp [open_], by simp, (h.feeders.laws k).2.2⟩
        refine ⟨requested.feeders.setFeeder fits (by rw [feeder]) (by rw [feeder, off]; rfl) (by rw [feeder])
          (by rw [feeder]), requested.saw.carry rfl ⟨rfl, rfl, rfl, rfl, rfl⟩ fun _ => ownedCarried_of_claims rfl⟩
      · next u _ _ request =>
        rw [request] at requested
        exact requested

/-! The requests of the Saw Sequencer. -/

/-- A move that changes no command and is no fault alters no contactor timing. -/
theorem SawSound.moveSaw (h : SawSound timed s) {st : SawState} {cmd : SawCommands} (own : cmd = commandsIn st)
    (same : cmd = s.saw.commands) (fault : st.isFault = s.saw.state.isFault) : SawSound timed (s.moveSaw st cmd) := by
  refine ⟨own, fun ht free => ?_⟩
  have fits := h.timings ht free
  subst same
  rw [SawTimed, DisagreementFits, DisagreementFits, DisagreementFits, ← fault] at fits
  exact fits

theorem ContactorsSound.moveSaw (h : ContactorsSound timed s) {st : SawState} {cmd : SawCommands}
    (own : cmd = commandsIn st) (same : cmd = s.saw.commands) (fault : st.isFault = s.saw.state.isFault) :
    ContactorsSound timed (s.moveSaw st cmd) :=
  ⟨h.feeders.congr rfl rfl rfl fun _ _ => Iff.rfl, h.saw.moveSaw own same fault⟩

theorem ContactorsSound.sawStart (h : ContactorsSound timed s) (table : timed → ClaimTableLaws s) :
    ContactorsSound timed s.sawStart.1 := by
  obtain ⟨st, -, unchanged⟩ | ⟨stopped, passes, made⟩ := sawStart_cases s
  · rw [unchanged]; exact h
  · rw [made]
    have off : s.saw.commands = .allOff := by rw [h.saw.law, stopped]; rfl
    have claimed : ContactorsSound timed (s.acceptClaim 4 s.set.tables.saw.start.startSurge
        (some s.set.tables.saw.start.runAmount) none s.set.tables.saw.start.startLead none .saw 0) :=
      h.carry (by simp [AllowanceActs, ClaimsAct]) fun ht =>
        ((carrying_law s).requestClaim passes (n := 4) (b := .saw) rfl (by simp) (.refl (table ht))).2
    exact claimed.moveSaw rfl (by simp [off]) (by simp [stopped]; rfl)

theorem ContactorsSound.sawFeed (h : ContactorsSound timed s) (table : timed → ClaimTableLaws s) (d : Direction) :
    ContactorsSound timed (s.sawFeed d).1 := by
  obtain ⟨st, -, unchanged⟩ | ⟨ready, passes, made⟩ := sawFeed_cases s d
  · rw [unchanged]; exact h
  · rw [made]
    have running : s.saw.commands = .running ∧ s.saw.state.isFault = false := by
      rw [h.saw.law]
      obtain e | ⟨d', e⟩ := ready <;> rw [e] <;> exact ⟨rfl, rfl⟩
    have claimed : ContactorsSound timed (s.acceptClaim 5 (s.feedAmount d) none none s.set.tables.saw.feed.feedLead none
        .saw (feedTag d)) :=
      h.carry (by simp [AllowanceActs, ClaimsAct]) fun ht =>
        ((carrying_law s).requestClaim passes (n := 5) (b := .saw) rfl (by simp) (.refl (table ht))).2
    exact claimed.moveSaw rfl (by simp [running]) (by simp [running]; rfl)

theorem ContactorsSound.answer (h : ContactorsSound timed s) (l : Link) (code : Byte) (st : Status) :
    ContactorsSound timed (s.answer l code st) := ⟨h.feeders.answer l code st, h.saw.answer l code st⟩

theorem ContactorsSound.sawOrder (h : ContactorsSound timed s) (l : Link) (code : Byte) {f : State → State × Status}
    (kept : ContactorsSound timed (f s).1) : ContactorsSound timed (sawOrder l code f s) := by
  unfold Sys2Proof.Machine.sawOrder
  split
  · exact h.answer _ _ _
  · exact kept.answer _ _ _

end

end Sys2Proof.Machine

namespace Sys2Proof.Machine

/-! ### The commands of each block keep the laws of the contactors -/

section
variable {timed : Prop} {i : Instr} {s t : State}

theorem feedersCommand_keepsFeeders (block : blockOf i = .feeders) : Keeps (FeedersSound timed) i := by
  have arrives (m : Instr) (u : State) (h : FeedersSound timed u) : FeedersSound timed (u.arrive m) := h.arrive m
  cases i with
  | feederStateReport r => exact keeps_of_arrival (fun _ => rfl) (arrives _) fun _ _ h => h.stateReport r
  | feederAdmissionReport k => exact keeps_of_arrival (fun _ => rfl) (arrives _) fun _ _ h => h.admission k
  | feederCarriedReport k => exact keeps_of_arrival (fun _ => rfl) (arrives _) fun _ _ h => h.feederCarried k
  | stepTimingHalfMark => exact keeps_of_effect (fun _ => rfl) fun _ _ h => h.stepHalfMark
  | stepTimingFullMark => exact keeps_of_effect (fun _ => rfl) fun _ _ h => h.stepFullMark
  | feederFeedbackChange k b => exact keeps_of_next (fun _ => rfl) fun _ h => h.feedback k b
  | followTimingExpiry k => exact keeps_of_effect (fun _ => rfl) fun _ _ h => h.followTiming k
  | stuckTimingExpiry k => exact keeps_of_effect (fun _ => rfl) fun _ _ h => h.stuckTiming k
  | feederOff l k =>
    refine keeps_of_arrival (fun _ => rfl) (arrives _) fun u _ h => ?_
    unfold feederOffEffect
    split
    · exact h.answer _ _ _
    · exact (h.feederOff _).answer _ _ _
  | feederClear l k =>
    refine keeps_of_arrival (fun _ => rfl) (arrives _) fun u _ h => ?_
    unfold feederClearEffect
    split
    · exact h.answer _ _ _
    · exact (h.feederClear _).answer _ _ _
  | _ => cases block

theorem sawCommand_keepsSaw (block : blockOf i = .saw) : Keeps (SawSound timed) i := by
  have arrives (m : Instr) (u : State) (h : SawSound timed u) : SawSound timed (u.arrive m) :=
    h.congr rfl rfl rfl fun _ => Iff.rfl
  cases i with
  | sawStateReport r => exact keeps_of_arrival (fun _ => rfl) (arrives _) fun _ _ h => h.sawStateReport r
  | sawCarriedReport c => exact keeps_of_arrival (fun _ => rfl) (arrives _) fun _ _ h => h.sawCarried c
  | sawEndingReport c o => exact keeps_of_arrival (fun _ => rfl) (arrives _) fun _ _ h => h.sawEnding c o
  | shedRequest t => exact keeps_of_arrival (fun _ => rfl) (arrives _) fun _ _ h => h.shedRequest t
  | bladePulse => exact keeps_of_effect (fun _ => rfl) fun _ _ h => h.congr rfl rfl rfl fun _ => Iff.rfl
  | bladeWindowEnd => exact keeps_of_effect (fun _ => rfl) fun _ _ h => h.bladeWindow
  | bladeQuietExpiry => exact keeps_of_effect (fun _ => rfl) fun _ _ h => h.bladeQuiet
  | starTimeExpiry => exact keeps_of_effect (fun _ => rfl) fun _ _ h => h.starTime
  | deadTimeExpiry => exact keeps_of_effect (fun _ => rfl) fun _ _ h => h.deadTime
  | sawFeedbackChange c b => exact keeps_of_next (fun _ => rfl) fun _ h => h.sawFeedback c b
  | disagreementTimingExpiry c => exact keeps_of_effect (fun _ => rfl) fun _ _ h => h.disagreement c
  | limitChange w b => exact keeps_of_next (fun _ => rfl) fun _ h => h.limitChange w b
  | estopChange b => exact keeps_of_next (fun _ => rfl) fun _ h => h.estop b
  | overloadTimingExpiry => exact keeps_of_effect (fun _ => rfl) fun _ _ h => h.overloadTiming
  | resumeTimingExpiry => exact keeps_of_effect (fun _ => rfl) fun _ _ h => h.resumeTiming
  | linkLossReportSaw l => exact keeps_of_arrival (fun _ => rfl) (arrives _) fun _ _ h => h.linkLossSaw l
  | sawStop l =>
    exact keeps_of_arrival (fun _ => rfl) (arrives _) fun _ _ h => h.sawOrder l _ fun _ => SawSound.sawStop
  | sawHold l =>
    exact keeps_of_arrival (fun _ => rfl) (arrives _) fun _ _ h => h.sawOrder l _ fun _ => SawSound.sawHold
  | sawResume l =>
    exact keeps_of_arrival (fun _ => rfl) (arrives _) fun _ _ h => h.sawOrder l _ fun _ => SawSound.sawResume
  | sawClearFault l =>
    exact keeps_of_arrival (fun _ => rfl) (arrives _) fun _ _ h => h.sawOrder l _ fun _ => SawSound.sawClearFault
  | _ => cases block

/-- What a command does to the contactors, where the tables of claims agree before it if the timings are asked for. -/
abbrev ContactorsKept (timed : Prop) (i : Instr) : Prop :=
  ∀ s t : State, exec i s = .next t → (timed → ClaimTableLaws s) → ContactorsSound timed s → ContactorsSound timed t

theorem contactorsKept_of_effect {f : State → State} (run : ∀ s, exec i s = whenReleased s f)
    (effect : ∀ s, (timed → ClaimTableLaws s) → ContactorsSound timed s → ContactorsSound timed (f s)) :
    ContactorsKept timed i := by
  intro s t next table h
  rw [run s] at next
  cases held : s.held with
  | true => rw [whenReleased_held held] at next; cases next; exact h
  | false => rw [whenReleased_running held] at next; cases next; exact effect s table h

theorem contactorsKept_of_arrival {f : State → State} (run : ∀ s, exec i s = whenReleased (s.arrive i) f)
    (effect : ∀ s, (timed → ClaimTableLaws s) → ContactorsSound timed s → ContactorsSound timed (f s)) :
    ContactorsKept timed i := by
  intro s t next table h
  have arrived : ContactorsSound timed (s.arrive i) :=
    h.carry ⟨⟨rfl, rfl, rfl, rfl, rfl⟩, rfl, rfl⟩ fun _ => ownedCarried_of_claims rfl
  rw [run s] at next
  cases held : s.held with
  | true => rw [whenReleased_held (s := s.arrive i) held] at next; cases next; exact arrived
  | false =>
    rw [whenReleased_running (s := s.arrive i) held] at next; cases next; exact effect _ table arrived

theorem claimsCommand_keepsContactors (block : blockOf i = .claims) : ContactorsKept timed i := by
  have pure {f : State → State} (acts : ∀ u, AllowanceActs u (f u)) (carried : ∀ u, ClaimTableLaws u → Carrying u (f u)) :
      ∀ u, (timed → ClaimTableLaws u) → ContactorsSound timed u → ContactorsSound timed (f u) :=
    fun u table h => h.carry (acts u) fun ht => (carried u (table ht)).2
  cases i with
  | allowanceStateReport r => exact contactorsKept_of_arrival (fun _ => rfl) fun _ table h => h.allowanceReport table r
  | waitExpiry n =>
    refine contactorsKept_of_effect (fun _ => rfl) (pure (fun u => ?_) fun u table => carrying_waitExpiry table n)
    unfold waitExpiryEffect; split <;> simp [AllowanceActs, ClaimsAct]
  | dueEvent n => exact contactorsKept_of_effect (fun _ => rfl) fun _ _ h => h.dueEvent n
  | surgeExpiry n =>
    refine contactorsKept_of_effect (fun _ => rfl) (pure (fun u => ?_) fun u table =>
      (carrying_law u).surgeExpiry n (.refl table))
    unfold surgeExpiryEffect; split <;> simp [AllowanceActs, ClaimsAct]
  | surgeEndRequest =>
    refine contactorsKept_of_arrival (fun _ => rfl) (pure (fun u => ?_) fun u table =>
      (carrying_law u).surgeEndRequest (.refl table))
    unfold surgeEndRequestEffect; split <;> simp [AllowanceActs, ClaimsAct]
  | endRequest n o => exact contactorsKept_of_arrival (fun _ => rfl) fun _ _ h => h.endRequest n o
  | feederEndingReport k o => exact contactorsKept_of_arrival (fun _ => rfl) fun _ table h => h.feederEnding table k o
  | restoreHoldExpiry => exact contactorsKept_of_effect (fun _ => rfl) fun _ table h => h.restoreHold table
  | staggerExpiry => exact contactorsKept_of_effect (fun _ => rfl) fun _ table h => h.stagger table
  | linkLossReportAllowance l =>
    exact contactorsKept_of_arrival (fun _ => rfl)
      (pure (linkLossAllowance_acts · l) fun _ table => carrying_linkLoss table l)
  | declare l d =>
    refine contactorsKept_of_arrival (fun _ => rfl) (pure (fun u => ?_) fun u table =>
      (carrying_law u).declare l d (.refl table))
    unfold declareEffect State.takeDeclaration; split <;> simp [AllowanceActs, ClaimsAct]
  | claim l o =>
    refine contactorsKept_of_arrival (fun _ => rfl) (pure (fun u => ?_) fun u table =>
      (carrying_law u).claim l o (.refl table))
    unfold claimEffect; split <;> simp [AllowanceActs, ClaimsAct]
  | withdraw l n =>
    refine contactorsKept_of_arrival (fun _ => rfl) (pure (fun u => ?_) fun u table => carrying_withdraw table l n)
    unfold withdrawEffect; split <;> (try split) <;> simp [AllowanceActs, ClaimsAct]
  | release l n =>
    refine contactorsKept_of_arrival (fun _ => rfl) (pure (fun u => ?_) fun u table => carrying_release table l n)
    unfold releaseEffect; split <;> (try split) <;> simp [AllowanceActs, ClaimsAct]
  | feederOn l k =>
    refine contactorsKept_of_arrival (fun _ => rfl) fun u table h => ?_
    unfold feederOnEffect
    split
    · exact h.answer _ _ _
    · exact (h.feederOn table _).answer _ _ _
  | sawStart l => exact contactorsKept_of_arrival (fun _ => rfl) fun _ table h => h.sawOrder l _ (h.sawStart table)
  | sawFeed l => exact contactorsKept_of_arrival (fun _ => rfl) fun _ table h => h.sawOrder l _ (h.sawFeed table _)
  | sawReturn l => exact contactorsKept_of_arrival (fun _ => rfl) fun _ table h => h.sawOrder l _ (h.sawFeed table _)
  | _ => cases block

/-! Commits, cycles and resets. -/

theorem commit_acts (s : State) (c : TableCopy) :
    (s.commit c).fdr = s.fdr ∧ (s.commit c).saw = s.saw ∧ (s.commit c).pins = s.pins ∧ (s.commit c).held = s.held := by
  cases c with
  | channels t => unfold State.commit; dsimp only; split <;> exact ⟨rfl, rfl, rfl, rfl⟩
  | bands t => unfold State.commit; dsimp only; split <;> simp
  | saw t => exact ⟨rfl, rfl, rfl, rfl⟩
  | feeders t => exact ⟨rfl, rfl, rfl, rfl⟩
  | shedOrder t => exact ⟨rfl, rfl, rfl, rfl⟩
  | thresholds t => exact ⟨rfl, rfl, rfl, rfl⟩

/-- What leaves the contactors' units, their inputs and the blocks' CARRIED claims. -/
theorem ContactorsSound.still (h : ContactorsSound timed s) (fdr : t.fdr.feeders = s.fdr.feeders) (saw : t.saw = s.saw)
    (pins : t.pins = { t.pins with
      fb := s.pins.fb, lineFb := s.pins.lineFb, starFb := s.pins.starFb, deltaFb := s.pins.deltaFb })
    (held : t.held = s.held) (carried : timed → OwnedCarried s t) : ContactorsSound timed t :=
  ⟨h.feeders.congr fdr (by rw [pins]) held fun ht k => carried ht _ (blockOwner_feederClaim k),
    h.saw.congr (by rw [saw]) (by rw [pins]) held fun ht => carried ht _ blockOwner_motor⟩

theorem ContactorsSound.commit (h : ContactorsSound timed s) (table : timed → ClaimTableLaws s) (c : TableCopy) :
    ContactorsSound timed (s.commit c) := by
  obtain ⟨fdr, saw, pins, held⟩ := commit_acts s c
  exact h.still (by rw [fdr]) saw (by rw [pins]) held fun ht => ((carrying_law s).commit c (.refl (table ht))).2

theorem ContactorsSound.proposals (h : ContactorsSound timed s) (acts : ProposalsAct s t) : ContactorsSound timed t := by
  obtain ⟨_, _, _, _, _, _, _, _, rfl⟩ := acts
  exact h.still rfl rfl rfl rfl fun _ => ownedCarried_of_claims rfl

theorem ContactorsSound.links (h : ContactorsSound timed s) (acts : LinksAct s t) : ContactorsSound timed t :=
  h.proposals acts.proposals

theorem ContactorsSound.takeLoad (h : ContactorsSound timed s) (table : timed → ClaimTableLaws s) (l : Link) (id : TableId)
    (staging : List (List Byte)) : ContactorsSound timed (s.takeLoad l id staging).1 := by
  unfold State.takeLoad
  split
  · exact h
  · split
    · exact h
    · split
      · exact h.commit table _
      · split
        · split
          · exact h.commit table _
          · exact h
        · exact h.proposals (propose_acts s l _ _)

theorem ContactorsSound.loadData (h : ContactorsSound timed s) (table : timed → ClaimTableLaws s) (l : Link)
    (bytes : List Byte) : ContactorsSound timed (loadDataEffect l bytes s) := by
  unfold loadDataEffect
  split
  · exact h.answer _ _ _
  · split
    · exact h.answer _ _ _
    · dsimp only
      split
      · exact (h.links (onLink_acts s l _)).answer _ _ _
      · exact ((h.links (onLink_acts s l _)).takeLoad table _ _ _).answer _ _ _

theorem ContactorsSound.confirm (h : ContactorsSound timed s) (table : timed → ClaimTableLaws s) (l : Link) (id : TableId) :
    ContactorsSound timed (confirmEffect l id s) := by
  unfold confirmEffect
  split
  · exact h.answer _ _ _
  · next sh p _ =>
    have ended := h.proposals (endProposal_acts s sh p)
    split
    · exact (ended.commit (fun ht => claimTableLaws_law.proposals (endProposal_acts s sh p) (table ht)) _).answer _ _ _
    · exact ended.answer _ _ _

theorem ContactorsSound.regulator (h : ContactorsSound timed s) (acts : RegulatorActs s t) : ContactorsSound timed t := by
  obtain ⟨_, _, _, _, rfl⟩ := acts
  exact h.still rfl rfl rfl rfl fun _ => ownedCarried_of_claims rfl

theorem ContactorsSound.measurement (h : ContactorsSound timed s) (acts : MeasurementActs s t) :
    ContactorsSound timed t := by
  obtain ⟨_, _, _, _, rfl⟩ := acts
  exact h.still rfl rfl rfl rfl fun _ => ownedCarried_of_claims rfl

/-- What the Feeder Controller does leaves the saw's contactors, and the other way about. -/
theorem ContactorsSound.byFeeders (h : ContactorsSound timed s) (acts : FeedersAct s t) (feeders : FeedersSound timed t) :
    ContactorsSound timed t := by
  obtain ⟨_, _, _, _, _, rfl⟩ := acts
  exact ⟨feeders, h.saw.congr rfl rfl rfl fun _ => Iff.rfl⟩

theorem ContactorsSound.bySaw (h : ContactorsSound timed s) (acts : SawActs s t) (saw : SawSound timed t) :
    ContactorsSound timed t := by
  obtain ⟨_, _, _, _, _, rfl⟩ := acts
  exact ⟨h.feeders.congr rfl rfl rfl fun _ _ => Iff.rfl, saw⟩

theorem ContactorsSound.cycleCompletion (h : ContactorsSound timed s) (table : timed → ClaimTableLaws s) (interval : Nat)
    (first : Sample) (rest : List Sample) : ContactorsSound timed (cycleCompletionEffect interval first rest s) := by
  have counts (m : CycleMark) : RegulatorActs s ((s.takeCrossing interval).regulatorCycle m interval) :=
    (takeCrossing_acts s interval).trans (regulatorCycle_acts _ m interval)
  have considered (u : State) (hu : ContactorsSound timed u) (tu : timed → ClaimTableLaws u) :
      ContactorsSound timed u.consider :=
    hu.carry (consider_acts u) fun ht => ((carrying_law u).consider (.refl (tu ht))).2
  have posted (u : State) (hu : ContactorsSound timed u) (pg ps pb : Nat) : ContactorsSound timed (u.post pg ps pb) := by
    have moved : ContactorsSound timed { u with meas := { u.meas with pg := pg, ps := ps, pb := pb } } :=
      hu.still rfl rfl rfl rfl fun _ => ownedCarried_of_claims rfl
    exact (moved.bySaw (judgeOverload_acts _) moved.saw.judgeOverload).measurement
      ((((capturePosting_acts _ .l1).trans (capturePosting_acts _ .l2)).trans (capturePosting_acts _ .l3)).trans
        (judgeDiscrepancy_acts _))
  have stepped (u : State) (hu : ContactorsSound timed u) : ContactorsSound timed u.stepBetweenMarks :=
    hu.byFeeders (stepBetweenMarks_acts u) hu.feeders.stepBetweenMarks
  have tableOf (m : CycleMark) : timed → ClaimTableLaws ((s.takeCrossing interval).regulatorCycle m interval) :=
    fun ht => claimTableLaws_law.regulator (counts m) (table ht)
  have postedTable (u : State) (pg ps pb : Nat) (tu : timed → ClaimTableLaws u) : timed → ClaimTableLaws (u.post pg ps pb) :=
    fun ht => claimTableLaws_law.same (by simp) (by simp) (tu ht)
  unfold cycleCompletionEffect
  dsimp only
  split
  · exact stepped _ (considered _ (posted _ (h.regulator (counts _)) _ _ _) (postedTable _ _ _ _ (tableOf _)))
  · exact considered _ (h.regulator (counts _)) (tableOf _)
  · exact considered _ (h.regulator (counts _)) (tableOf _)

theorem feederFits_initial (c : FeederConfig) : FeederFits (.initial c) := by
  refine ⟨?_, by simp [Feeder.initial], by simp [Feeder.initial]⟩
  unfold Feeder.initial
  dsimp only
  split <;> simp

theorem feederLaws_initial {ts : Tables} (h : s.fdr = .initial ts) : FeederLaws s := by
  intro k
  rw [State.feeder, h]
  fin_cases k <;> exact feederFits_initial _

theorem contactorsSound_enterReset (s : State) (ts : Tables) (trip rose : Bool) :
    ContactorsSound timed { s.enterReset ts trip with supplyRose := rose } :=
  ⟨⟨feederLaws_initial rfl, fun _ free => Bool.noConfusion free⟩, ⟨rfl, fun _ free => Bool.noConfusion free⟩⟩

theorem ContactorsSound.resetRelease (h : ContactorsSound timed s) (strap : Bool) :
    ContactorsSound timed (resetReleaseEffect strap s) := by
  unfold resetReleaseEffect
  split
  · have released : ContactorsSound timed (s.released strap).sync := contactorsSound_sync h.feeders.laws rfl
    unfold State.startChecks
    dsimp only
    split
    · exact released.bySaw (faultSaw_acts _ _) (sawSound_faultSaw _ _)
    · exact released.bySaw (judgeLimits_acts _) released.saw.judgeLimits
  · exact h

theorem otherCommand_keepsContactors (block : blockOf i = .other) (notFrame : ∀ l bytes odd, i ≠ .orderFrame l bytes odd) :
    ContactorsKept timed i := by
  cases i with
  | orderFrame l bytes odd => exact absurd rfl (notFrame l bytes odd)
  | powerOnReset =>
    exact fun s t run _ _ => keeps_of_next (P := ContactorsSound timed) (fun _ => rfl)
      (fun s _ => contactorsSound_enterReset s .default false true) s t run ‹_›
  | panelReset =>
    exact fun s t run _ _ => keeps_of_next (P := ContactorsSound timed) (fun _ => rfl)
      (fun s _ => contactorsSound_enterReset s s.set.tables s.reg.tripLatch s.supplyRose) s t run ‹_›
  | resetRelease b =>
    exact fun s t run _ h => keeps_of_next (P := ContactorsSound timed) (fun _ => rfl) (fun _ h => h.resetRelease b) s t run h
  | cycleCompletion p x xs => exact contactorsKept_of_effect (fun _ => rfl) fun _ table h => h.cycleCompletion table p x xs
  | loadData l bs => exact contactorsKept_of_arrival (fun _ => rfl) fun _ table h => h.loadData table l bs
  | confirm l t => exact contactorsKept_of_arrival (fun _ => rfl) fun _ table h => h.confirm table l t
  | _ => cases block

theorem command_keepsContactors (i : Instr) (notFrame : ∀ l bytes odd, i ≠ .orderFrame l bytes odd) :
    ContactorsKept timed i := by
  cases block : blockOf i with
  | links => exact fun _ _ run _ h => h.links (linksCommand_acts block run)
  | regulator => exact fun _ _ run _ h => h.regulator (regulatorCommand_acts block run)
  | measurement => exact fun _ _ run _ h => h.measurement (measurementCommand_acts block run)
  | settings => exact fun _ _ run _ h => h.proposals (settingsCommand_acts block run)
  | feeders =>
    exact fun s t run _ h => h.byFeeders (feedersCommand_acts block run) (feedersCommand_keepsFeeders block s t run h.feeders)
  | saw => exact fun s t run _ h => h.bySaw (sawCommand_acts block run) (sawCommand_keepsSaw block s t run h.saw)
  | claims => exact claimsCommand_keepsContactors block
  | other => exact otherCommand_keepsContactors block notFrame

/-- Every step keeps them, with the tables of claims where the timings are asked for. -/
theorem step_keepsContactors (run : step s = .next t) (table : timed → ClaimTableLaws s) (h : ContactorsSound timed s) :
    ContactorsSound timed t := by
  have kept : (timed → ClaimTableLaws t) ∧ ContactorsSound timed t := by
    refine step_keeps (P := fun u => (timed → ClaimTableLaws u) ∧ ContactorsSound timed u) ?_ ?_
      (commands_keep ?_ fun i notFrame u v runs hu =>
        ⟨fun ht => claimTableLaws_law.command i notFrame u v runs (hu.1 ht), command_keepsContactors i notFrame u v runs hu.1 hu.2⟩)
      run ⟨table, h⟩
    · exact fun u q hu => ⟨hu.1, hu.2.still rfl rfl rfl rfl fun _ => ownedCarried_of_claims rfl⟩
    · exact fun u n hu => ⟨hu.1, hu.2.still rfl rfl rfl rfl fun _ => ownedCarried_of_claims rfl⟩
    · exact fun u ls hu => ⟨hu.1, hu.2.still rfl rfl rfl rfl fun _ => ownedCarried_of_claims rfl⟩
  exact kept.2

end

/-- Settles O9: the commands of the saw and the close commands, whatever the claims are. -/
theorem stepKeepsContactorCommands : Obligations.StepKeepsContactorCommands := by
  unfold Obligations.StepKeepsContactorCommands
  intro s t run saw feeders
  have kept := step_keepsContactors (timed := False) run False.elim
    ⟨⟨feeders, fun no => no.elim⟩, ⟨saw, fun no => no.elim⟩⟩
  have commands := kept.saw.law
  refine ⟨commands, kept.feeders.laws, ?_, ?_⟩
  · rw [commands]; cases t.saw.state <;> rfl
  · rw [commands]; cases t.saw.state <;> rfl

/-- Settles O25: the same with the timings, and with the claims' tables, which say which claims a consideration takes up. -/
theorem stepKeepsContactorTimings : Obligations.StepKeepsContactorTimings := by
  unfold Obligations.StepKeepsContactorTimings
  intro s t run table feeders saw timings
  have kept := step_keepsContactors (timed := True) run (fun _ => table)
    ⟨⟨feeders, fun _ free => (timings free).1⟩, ⟨saw, fun _ free => (timings free).2⟩⟩
  exact fun free => ⟨kept.feeders.timings trivial free, kept.saw.timings trivial free⟩

end Sys2Proof.Machine

namespace Sys2Proof.Machine

/-! ### The step -/

/-- Settles O1. -/
theorem stepRunsTheFrontCommand : Obligations.StepRunsTheFrontCommand := fun _ _ _ => rfl

/-- Settles O2, along the branches of `State.idle`. -/
theorem stepOnAnEmptyQueue : Obligations.StepOnAnEmptyQueue := by
  unfold Obligations.StepOnAnEmptyQueue
  intro s none_
  have idle : step s = s.idle := by rw [step, none_]
  rw [idle]
  refine ⟨fun held => ?_, fun m ms held way => ?_, fun t i held way first => ⟨fun due => ?_, fun later => ?_⟩⟩
  · simp [State.idle, held, State.passTime, Config.microsPerTick]
  · simp [State.idle, held, way]
  · simp [State.idle, held, way, first, due]
  · simp [State.idle, held, way, first, Nat.not_le.2 later, State.passTime, Config.microsPerTick, Nat.max_eq_left later.le]

/-! ### After reset -/

theorem claim_reset (n : Fin 24) : ∃ b, State.reset.claim n = .initial b ∧ bindingFits n b = true := claim_of_initial rfl n

theorem feeder_reset (k : Fin 12) : State.reset.feeder k =
    { state := .off, close := false, restoring := false, history := [], follow := .stopped, stuck := .stopped } := by
  fin_cases k <;> rfl

/-- Settles O3, block by block. -/
theorem stateAfterPowerOnReset : Obligations.StateAfterPowerOnReset := by
  unfold Obligations.StateAfterPowerOnReset
  refine ⟨⟨rfl, rfl, rfl, rfl, rfl, rfl, rfl, rfl, rfl, rfl, rfl, rfl, rfl, fun i => ?_⟩, fun n => ?_,
    ⟨rfl, rfl, rfl, rfl, rfl, rfl, fun x => ?_⟩, ⟨rfl, rfl, rfl, rfl⟩, fun k => ?_, ⟨rfl, rfl, rfl, rfl, rfl⟩,
    ⟨rfl, rfl, rfl, rfl⟩, rfl, fun l _ => ?_⟩
  · fin_cases i <;> rfl
  · obtain ⟨b, e, -⟩ := claim_reset n
    rw [State.carryEnable, e]
    exact ⟨rfl, rfl, rfl, rfl, rfl⟩
  · rw [State.auxClosed, List.any_eq_false]
    intro n _
    obtain ⟨b, e, -⟩ := claim_reset n
    simp [State.carryEnable, e, Claim.initial]
  · rw [feeder_reset]; exact ⟨rfl, rfl, rfl⟩
  · cases l <;> exact ⟨rfl, rfl, rfl, rfl, rfl, rfl, rfl, by decide⟩

/-- Settles O4: the laws of the parts in their initial states; the contactors, all at rest, are as a judgement leaves them. -/
theorem lawsHoldAfterReset : Obligations.LawsHoldAfterReset := by
  unfold Obligations.LawsHoldAfterReset
  obtain ⟨free, allowed, once⟩ := bindings_initial (s := State.reset) rfl
  obtain ⟨divide, holds⟩ := budgetLaws_initial (s := State.reset) rfl
  obtain ⟨ballast, history, reasons, timings⟩ :=
    (regulatorSound_iff State.reset).1 (.initial (ts := .default) (trip := false) rfl)
  obtain ⟨links, fit⟩ := linksSound_initial (s := State.reset) none rfl (fun l => ⟨false, by cases l <;> rfl⟩) (ts := .default)
    (k := .keyRemote) rfl
  have feeders : FeederLaws State.reset := feederLaws_initial (ts := .default) rfl
  have rest : ContactorTimingsLaw State.reset := by
    refine fun _ => ⟨fun k => ?_, by decide, by decide, by decide⟩
    rw [State.feederDriven, feeder_reset]
    fin_cases k <;> decide
  exact ⟨claimTableLaws_initial rfl, free, allowed, once, divide, holds, ballast, history, reasons, rfl, feeders,
    (linkLaws_iff _).2 links, fit, timings, rest⟩

/-! ### Outputs -/

theorem carryEnable_iff (s : State) (n : Fin 24) :
    s.carryEnable n = true ↔ s.held = false ∧ (s.claim n).state = .carried := by
  simp [State.carryEnable]

/-- Settles O11: every output is a conjunction with a carry enable, or a level of its own. -/
theorem outputsClosedOnlyWhileCarried : Obligations.OutputsClosedOnlyWhileCarried := by
  unfold Obligations.OutputsClosedOnlyWhileCarried
  intro s carried
  have enabled (n : Fin 24) : s.carryEnable n = true ↔ carried n := carryEnable_iff s n
  refine ⟨enabled, fun x => ?_, fun k => ?_, ?_, ?_, ?_, ?_, ?_, Iff.rfl, fun i => ?_, fun l => ?_⟩
  · simp [State.auxClosed, enabled, mem_allClaims]
  · simp [State.feederDriven, enabled]
  · simp [State.lineDriven, enabled]
  · simp [State.starDriven, enabled]
  · simp [State.deltaDriven, enabled]
  · simp [State.fwdDriven, enabled]
  · simp [State.retDriven, enabled]
  · simp [State.balHigh]
  · simp [State.attn]

end Sys2Proof.Machine

namespace Sys2Proof.Machine

/-! ### Shared tables (R93) -/

/-- The three shared tables stand. -/
abbrev SharedStand (s t : State) : Prop :=
  t.set.tables.bands = s.set.tables.bands ∧ t.set.tables.shedOrder = s.set.tables.shedOrder
    ∧ t.set.tables.thresholds = s.set.tables.thresholds

theorem sharedStand_of_tables {s t : State} (h : t.set.tables = s.set.tables) : SharedStand s t := by
  rw [SharedStand, h]; exact ⟨rfl, rfl, rfl⟩

theorem commit_tables (s : State) (c : TableCopy) : (s.commit c).set.tables = s.set.tables.store c := by
  cases c with
  | channels t => unfold State.commit; dsimp only; split <;> rfl
  | bands t => unfold State.commit; dsimp only; split <;> simp
  | saw t => rfl
  | feeders t => rfl
  | shedOrder t => rfl
  | thresholds t => rfl

/-- A table that no other link shares leaves the shared ones. -/
theorem commit_sharedStand {s : State} {c : TableCopy} (own : sharedOf c.id = none) : SharedStand s (s.commit c) := by
  rw [SharedStand, commit_tables]
  cases c with
  | channels t => exact ⟨rfl, rfl, rfl⟩
  | saw t => exact ⟨rfl, rfl, rfl⟩
  | feeders t => exact ⟨rfl, rfl, rfl⟩
  | bands t => cases own
  | shedOrder t => cases own
  | thresholds t => cases own

theorem ProposalsAct.tables {s t : State} (acts : ProposalsAct s t) : t.set.tables = s.set.tables := by
  obtain ⟨_, _, _, _, _, _, _, _, rfl⟩ := acts; rfl

/-- A load with KEY at REMOTE commits no shared table. -/
theorem takeLoad_sharedStand {s : State} (l : Link) (t : TableId) (staging : List (List Byte))
    (remote : s.set.key ≠ .keyLocal) : SharedStand s (s.takeLoad l t staging).1 := by
  have same : SharedStand s s := ⟨rfl, rfl, rfl⟩
  unfold State.takeLoad
  split
  · exact same
  · next c loaded =>
    split
    · exact same
    · split
      · next own => exact commit_sharedStand (by rw [tableFrom_id loaded, own])
      · split
        · next e => exact absurd e remote
        · exact sharedStand_of_tables (propose_acts s l _ _).tables

theorem loadData_sharedStand {s : State} (l : Link) (bytes : List Byte) (remote : s.set.key ≠ .keyLocal) :
    SharedStand s (loadDataEffect l bytes s) := by
  have same : SharedStand s s := ⟨rfl, rfl, rfl⟩
  unfold loadDataEffect
  split
  · exact same
  · split
    · exact same
    · dsimp only
      split
      · exact same
      · exact takeLoad_sharedStand (s := s.onLink l fun c => { c with window := none }) l _ _ remote

/-- R94: what a CONFIRM that is not refused has passed. -/
theorem proposalCheck_ok {s : State} {l : Link} {t : TableId} {sh : SharedId} {p : Proposal}
    (h : s.proposalCheck l t = .ok (sh, p)) : sharedOf t = some sh ∧ s.set.proposal sh = some p ∧ p.proposer ≠ l := by
  unfold State.proposalCheck at h
  split at h
  · cases h
  · next sh' shared =>
    split at h
    · cases h
    · next p' pending =>
      split at h
      · cases h
      · next other => cases h; exact ⟨shared, pending, other⟩

/-- The agreement that a command brings to a shared table (R93). -/
def Agreed (s : State) (o : Instr) : Prop :=
  (∃ (l : Link) (tb : TableId) (sh : SharedId) (p : Proposal),
      o = .confirm l tb ∧ sharedOf tb = some sh ∧ s.set.proposal sh = some p ∧ p.proposer ≠ l)
    ∨ ∃ (l : Link) (bytes : List Byte), o = .loadData l bytes ∧ s.set.key = .keyLocal

theorem effect_or_held {i : Instr} {f : State → State} {s t : State} (run : exec i s = whenReleased (s.arrive i) f)
    (next : exec i s = .next t) : t = s.arrive i ∨ t = f (s.arrive i) := by
  rw [run] at next
  cases held : s.held with
  | true => rw [whenReleased_held (s := s.arrive i) held] at next; cases next; exact .inl rfl
  | false => rw [whenReleased_running (s := s.arrive i) held] at next; cases next; exact .inr rfl

theorem loadData_agreed {s t : State} {l : Link} {bytes : List Byte} (run : exec (.loadData l bytes) s = .next t) :
    SharedStand s t ∨ Agreed s (.loadData l bytes) := by
  by_cases local_ : s.set.key = .keyLocal
  · exact .inr (.inr ⟨l, bytes, rfl, local_⟩)
  · obtain rfl | rfl := effect_or_held (f := loadDataEffect l bytes) rfl run
    · exact .inl ⟨rfl, rfl, rfl⟩
    · exact .inl (loadData_sharedStand (s := s.arrive _) l bytes local_)

theorem confirm_agreed {s t : State} {l : Link} {tb : TableId} (run : exec (.confirm l tb) s = .next t) :
    SharedStand s t ∨ Agreed s (.confirm l tb) := by
  obtain rfl | rfl := effect_or_held (f := confirmEffect l tb) rfl run
  · exact .inl ⟨rfl, rfl, rfl⟩
  · unfold confirmEffect
    split
    · exact .inl ⟨rfl, rfl, rfl⟩
    · next sh p checked =>
      obtain ⟨shared, pending, other⟩ := proposalCheck_ok checked
      exact .inr (.inl ⟨l, tb, sh, p, rfl, shared, pending, other⟩)

theorem resetRelease_tables (s : State) (strap : Bool) : (resetReleaseEffect strap s).set.tables = s.set.tables := by
  unfold resetReleaseEffect State.startChecks
  split
  · dsimp only
    split <;> simp [State.released, Settings.initial]
  · rfl

/-- Every command but a frame: the shared tables stand, or it brings the agreement, or it is a power-on reset. -/
theorem command_agreed {i : Instr} {s t : State} (notFrame : ∀ l bytes odd, i ≠ .orderFrame l bytes odd)
    (run : exec i s = .next t) : SharedStand s t ∨ Agreed s i ∨ i = .powerOnReset := by
  cases block : blockOf i with
  | links => obtain ⟨_, _, _, rfl⟩ := linksCommand_acts block run; exact .inl ⟨rfl, rfl, rfl⟩
  | regulator => obtain ⟨_, _, _, _, rfl⟩ := regulatorCommand_acts block run; exact .inl ⟨rfl, rfl, rfl⟩
  | measurement => obtain ⟨_, _, _, _, rfl⟩ := measurementCommand_acts block run; exact .inl ⟨rfl, rfl, rfl⟩
  | feeders => obtain ⟨_, _, _, _, _, rfl⟩ := feedersCommand_acts block run; exact .inl ⟨rfl, rfl, rfl⟩
  | saw => obtain ⟨_, _, _, _, _, rfl⟩ := sawCommand_acts block run; exact .inl ⟨rfl, rfl, rfl⟩
  | settings => exact .inl (sharedStand_of_tables (settingsCommand_acts block run).tables)
  | claims =>
    obtain ⟨-, -, set, -⟩ := claimsCommand_acts block run
    exact .inl (sharedStand_of_tables (by rw [set]))
  | other =>
    cases i with
    | orderFrame l bytes odd => exact absurd rfl (notFrame l bytes odd)
    | powerOnReset => exact .inr (.inr rfl)
    | panelReset => cases run; exact .inl ⟨rfl, rfl, rfl⟩
    | resetRelease b => cases run; exact .inl (sharedStand_of_tables (resetRelease_tables s b))
    | cycleCompletion p x xs =>
      have kept : Keeps (fun u => u.set = s.set) (.cycleCompletion p x xs) :=
        keeps_of_effect (fun _ => rfl) fun u _ h => (cycleCompletion_set u p x xs).trans h
      exact .inl (sharedStand_of_tables (by rw [kept s t run rfl]))
    | loadData l bs => exact (loadData_agreed run).imp_right .inl
    | confirm l tb => exact (confirm_agreed run).imp_right .inl
    | _ => cases block

/-! ### What the acceptance of a frame leaves (R161) -/

theorem acceptFrame_set (s : State) (l : Link) (code : Byte) : (s.acceptFrame l code).set = s.set := by
  rw [acceptFrame_eq]; exact takeLoss_set s l

theorem takeLoss_reg (s : State) (l : Link) : (s.takeLoss l).reg = s.reg := by
  have first (u : State) : (u.takeReport (.linkLossReportAllowance l) (linkLossAllowanceEffect l)).reg = u.reg := by
    unfold State.takeReport
    split
    · obtain ⟨⟨reg, -⟩, -⟩ := linkLossAllowance_acts (u.arrive (.linkLossReportAllowance l)) l
      exact reg
    · rfl
  have second (u : State) : (u.takeReport (.linkLossReportSaw l) (linkLossSawEffect l)).reg = u.reg := by
    unfold State.takeReport
    split
    · obtain ⟨_, _, _, _, _, e⟩ := linkLossSaw_acts (u.arrive (.linkLossReportSaw l)) l
      rw [e]; rfl
    · rfl
  exact (second _).trans (first s)

theorem acceptFrame_reg (s : State) (l : Link) (code : Byte) : (s.acceptFrame l code).reg = s.reg := by
  rw [acceptFrame_eq]; exact takeLoss_reg s l

/-- A frame leaves the regulator and the Settings Unit, or takes an order in a state where they stand. -/
theorem orderFrame_takes {l : Link} {bytes : List Byte} {odd : Nat} {s t : State}
    (run : exec (.orderFrame l bytes odd) s = .next t) :
    (t.reg = s.reg ∧ t.set = s.set)
      ∨ ∃ (code : Byte) (ops : List Byte) (o : Instr) (u : State), judgeFrame bytes odd = some (code, ops)
          ∧ decodeOrder l code ops = .ok o ∧ isOrder o = true ∧ exec o u = .next t ∧ u.reg = s.reg
          ∧ u.set = s.set := by
  have reg (code : Byte) := acceptFrame_reg (s.deselect l) l code
  have set (code : Byte) := acceptFrame_set (s.deselect l) l code
  obtain rfl | ⟨first, rfl⟩ | ⟨-, code, ops, judged, ⟨st, -, rfl⟩ | ⟨i, decoded, taken⟩⟩ := exec_orderFrame_cases run
  · exact .inl ⟨rfl, rfl⟩
  · exact .inl ⟨rfl, rfl⟩
  · exact .inl ⟨reg code, set code⟩
  · cases order : isOrder i with
    | true =>
      rw [takeOrder_of_order order] at taken
      exact .inr ⟨code, ops, i, _, judged, decoded, order, taken, reg code, set code⟩
    | false =>
      rw [takeOrder_of_other order] at taken
      cases taken
      exact .inl ⟨reg code, set code⟩

/-- Settles O12. -/
theorem sharedTableChangesOnlyByAgreement : Obligations.SharedTableChangesOnlyByAgreement := by
  unfold Obligations.SharedTableChangesOnlyByAgreement
  intro i s t run changed agreed
  have moved : ¬ SharedStand s t := by
    rintro ⟨bands, order, thresholds⟩
    rcases changed with h | h | h <;> exact absurd ‹_› h
  by_cases frame : ∃ l bytes odd, i = .orderFrame l bytes odd
  · obtain ⟨l, bytes, odd, rfl⟩ := frame
    obtain ⟨-, set⟩ | ⟨code, ops, o, u, judged, decoded, order, taken, -, set⟩ := orderFrame_takes run
    · exact absurd (sharedStand_of_tables (by rw [set])) moved
    · obtain stand | agreement | rfl := command_agreed (order_ne_orderFrame order) taken
      · rw [SharedStand, set] at stand; exact absurd stand moved
      · rw [Agreed, set] at agreement
        exact .inr (.inl ⟨l, bytes, odd, code, ops, o, rfl, judged, decoded, agreement⟩)
      · cases order
  · obtain stand | agreement | rfl := command_agreed (fun l bytes odd e => frame ⟨l, bytes, odd, e⟩) run
    · exact absurd stand moved
    · exact .inl agreement
    · exact .inr (.inr rfl)

/-! ### The TRIP latch (R16, R17, R19) -/

section
variable {s : State}

/-- The TRIP latch is set. -/
abbrev Tripped (s : State) : Prop := s.reg.tripLatch = true

theorem Tripped.waveformLoss (h : Tripped s) : Tripped s.waveformLoss := by
  unfold State.waveformLoss
  dsimp only
  split <;> exact h

theorem Tripped.raiseFrequency (h : Tripped s) : Tripped s.raiseFrequency := by
  unfold State.raiseFrequency; split <;> exact h

theorem Tripped.leaveDeficit (h : Tripped s) : Tripped s.leaveDeficit := by
  unfold State.leaveDeficit; split <;> exact h

theorem Tripped.setTrip (h : Tripped s) : Tripped s.setTrip := by
  unfold State.setTrip; rw [if_pos h]; exact h

theorem Tripped.expireWarmBand (h : Tripped s) : Tripped s.expireWarmBand := by
  unfold State.expireWarmBand; split <;> exact h

theorem Tripped.expireShed (h : Tripped s) : Tripped s.expireShed := by
  unfold State.expireShed
  split
  · exact h
  · exact Tripped.raiseFrequency h

theorem Tripped.expireFast (h : Tripped s) : Tripped s.expireFast := by
  unfold State.expireFast
  split
  · exact h
  · exact Tripped.raiseFrequency h

theorem Tripped.expireRecovery (h : Tripped s) : Tripped s.expireRecovery := by
  unfold State.expireRecovery
  split
  · exact h
  · exact Tripped.leaveDeficit h

theorem Tripped.expireRunaway (h : Tripped s) : Tripped s.expireRunaway := by
  unfold State.expireRunaway; split <;> exact h

theorem Tripped.expireTrip (h : Tripped s) : Tripped s.expireTrip := by
  unfold State.expireTrip
  split
  · exact h
  · exact Tripped.setTrip h

theorem Tripped.expireReached (h : Tripped s) : Tripped s.expireReached := by
  have when? {f : State → State} (kept : ∀ t, Tripped t → Tripped (f t)) {t : State} (b : Bool) (ht : Tripped t) :
      Tripped (if b then f t else t) := by
    cases b with
    | false => exact ht
    | true => exact kept t ht
  unfold State.expireReached
  dsimp only
  exact when? (fun _ => Tripped.expireRunaway) _ (when? (fun _ => Tripped.expireRecovery) _
    (when? (fun _ => Tripped.expireFast) _ (when? (fun _ => Tripped.expireShed) _
      (when? (fun _ => Tripped.expireWarmBand) _ (when? (fun _ => Tripped.expireTrip) _ h)))))

theorem Tripped.testTimings (h : Tripped s) (changed : Bool) : Tripped (s.testTimings changed) := by
  have moved (t : State) (ht : Tripped t) : Tripped
      (if t.reg.station = .black ∧ t.reg.validRun = Config.validLimit then t.enterWarming
        else if t.reg.station = .runaway ∧ t.filteredIs (fun f => f < t.reg.inForce.runawayExit) = true then
          t.enterStation .regulating .empty
        else t) := by
    split
    · exact ht
    · split <;> exact ht
  have judged := moved s.judgeTimings h
  unfold State.testTimings
  cases changed with
  | false => exact judged
  | true => exact Tripped.expireReached judged

theorem crossed_tripLatch (m : CycleMark) (i : Nat) : (s.crossed m i).reg.tripLatch = s.reg.tripLatch := by
  unfold State.crossed
  dsimp only
  split <;> cases m <;> simp [State.readThresholds]

theorem Tripped.regulatorCycle (h : Tripped s) (m : CycleMark) (i : Nat) : Tripped (s.regulatorCycle m i) := by
  have crossed : Tripped (s.crossed m i) := (crossed_tripLatch m i).trans h
  cases m with
  | reference => exact crossed
  | valid f =>
    rw [regulatorCycle_valid]
    exact Tripped.testTimings ((loopStep_reg_tripLatch _ f).trans crossed) _
  | discarded f =>
    rw [regulatorCycle_discarded]
    split
    · exact Tripped.waveformLoss (s := (s.crossed (.discarded f) i).judgeTimings) crossed
    · exact crossed

end

/-- The regulator's commands leave the latch set, but ACK TRIP. -/
theorem regulatorCommand_tripped {i : Instr} (block : blockOf i = .regulator) (other : ∀ l, i ≠ .ackTrip l) :
    Keeps Tripped i := by
  have arrives (m : Instr) (u : State) (h : Tripped u) : Tripped (u.arrive m) := h
  cases i with
  | halfCycleMidpoint =>
    refine keeps_of_effect (fun _ => rfl) fun u _ h => ?_
    unfold halfCycleEffect
    split
    · exact h
    · dsimp only; split <;> exact h
  | silenceExpiry =>
    refine keeps_of_effect (fun _ => rfl) fun u _ h => ?_
    unfold silenceEffect
    split
    · exact h
    · exact Tripped.waveformLoss h
  | warmBandExpiry => exact keeps_of_effect (fun _ => rfl) fun _ _ => Tripped.expireWarmBand
  | shedTimingExpiry => exact keeps_of_effect (fun _ => rfl) fun _ _ => Tripped.expireShed
  | fastTimingExpiry => exact keeps_of_effect (fun _ => rfl) fun _ _ => Tripped.expireFast
  | recoveryTimingExpiry => exact keeps_of_effect (fun _ => rfl) fun _ _ => Tripped.expireRecovery
  | runawayTimingExpiry => exact keeps_of_effect (fun _ => rfl) fun _ _ => Tripped.expireRunaway
  | tripTimingExpiry => exact keeps_of_effect (fun _ => rfl) fun _ _ => Tripped.expireTrip
  | budgetRaiseRequest =>
    refine keeps_of_arrival (fun _ => rfl) (arrives _) fun u _ h => ?_
    unfold budgetRaiseEffect; split <;> exact h
  | budgetClearRequest =>
    refine keeps_of_arrival (fun _ => rfl) (arrives _) fun u _ h => ?_
    unfold budgetClearEffect
    split
    · exact Tripped.leaveDeficit h
    all_goals exact h
  | downStep a =>
    refine keeps_of_arrival (fun _ => rfl) (arrives _) fun u _ h => ?_
    unfold downStepEffect; split <;> exact h
  | upStep a =>
    refine keeps_of_arrival (fun _ => rfl) (arrives _) fun u _ h => ?_
    unfold upStepEffect; split <;> exact h
  | leadLineReport r => exact keeps_of_arrival (fun _ => rfl) (arrives _) fun _ _ h => h
  | ackTrip l => exact absurd rfl (other l)
  | _ => cases block

theorem commit_tripLatch (s : State) (c : TableCopy) : (s.commit c).reg.tripLatch = s.reg.tripLatch := by
  cases c with
  | channels t => unfold State.commit; dsimp only; split <;> rfl
  | bands t => unfold State.commit; dsimp only; split <;> simp
  | saw t => rfl
  | feeders t => rfl
  | shedOrder t => rfl
  | thresholds t => rfl

theorem takeLoad_tripLatch (s : State) (l : Link) (t : TableId) (staging : List (List Byte)) :
    (s.takeLoad l t staging).1.reg.tripLatch = s.reg.tripLatch := by
  unfold State.takeLoad
  split
  · rfl
  · split
    · rfl
    · split
      · exact commit_tripLatch s _
      · split
        · split
          · exact commit_tripLatch s _
          · rfl
        · rw [(propose_acts s l _ _).reg]

theorem loadData_tripLatch (s : State) (l : Link) (bytes : List Byte) :
    (loadDataEffect l bytes s).reg.tripLatch = s.reg.tripLatch := by
  unfold loadDataEffect
  split
  · rfl
  · split
    · rfl
    · dsimp only
      split
      · rfl
      · exact takeLoad_tripLatch (s.onLink l fun c => { c with window := none }) l _ _

theorem confirm_tripLatch (s : State) (l : Link) (t : TableId) :
    (confirmEffect l t s).reg.tripLatch = s.reg.tripLatch := by
  unfold confirmEffect
  split
  · rfl
  · next sh p _ =>
    have ended := (endProposal_acts s sh p).reg
    split
    · exact (commit_tripLatch _ _).trans (by rw [ended])
    · exact congrArg Regulator.tripLatch ended

theorem otherCommand_tripped {i : Instr} (block : blockOf i = .other) (notFrame : ∀ l bytes odd, i ≠ .orderFrame l bytes odd)
    (notPower : i ≠ .powerOnReset) : Keeps Tripped i := by
  have arrives (m : Instr) (u : State) (h : Tripped u) : Tripped (u.arrive m) := h
  cases i with
  | orderFrame l bytes odd => exact absurd rfl (notFrame l bytes odd)
  | powerOnReset => exact absurd rfl notPower
  | panelReset => exact keeps_of_next (fun _ => rfl) fun _ h => h
  | resetRelease b =>
    exact keeps_of_next (fun _ => rfl) fun s h => (congrArg Regulator.tripLatch (resetRelease_reg s b)).trans h
  | cycleCompletion p x xs =>
    refine keeps_of_effect (fun _ => rfl) fun u _ h => ?_
    have counted := Tripped.regulatorCycle ((takeCrossing_reg_tripLatch u p).trans h) (cycleMark u.reg.lastCrossing p) p
    unfold cycleCompletionEffect
    dsimp only
    split <;> simpa [Tripped] using counted
  | loadData l bs =>
    exact keeps_of_arrival (fun _ => rfl) (arrives _) fun u _ h => (loadData_tripLatch u l bs).trans h
  | confirm l t =>
    exact keeps_of_arrival (fun _ => rfl) (arrives _) fun u _ h => (confirm_tripLatch u l t).trans h
  | _ => cases block

/-- Every command but a frame leaves the latch set, or is ACK TRIP or a power-on reset. -/
theorem command_tripped {i : Instr} {s t : State} (notFrame : ∀ l bytes odd, i ≠ .orderFrame l bytes odd)
    (run : exec i s = .next t) (set : s.reg.tripLatch = true) (clear : t.reg.tripLatch = false) :
    (∃ l, i = .ackTrip l) ∨ i = .powerOnReset := by
  by_contra neither
  rw [not_or, not_exists] at neither
  obtain ⟨notAck, notPower⟩ := neither
  have kept : t.reg.tripLatch = true := by
    by_cases regulator : blockOf i = .regulator
    · exact regulatorCommand_tripped regulator notAck s t run set
    · by_cases other : blockOf i = .other
      · exact otherCommand_tripped other notFrame notPower s t run set
      · rw [command_reg regulator other run]; exact set
  exact absurd (kept.symm.trans clear) (by simp)

/-- Settles O13. -/
theorem tripLatchClearsOnlyByOrderOrPowerOn : Obligations.TripLatchClearsOnlyByOrderOrPowerOn := by
  unfold Obligations.TripLatchClearsOnlyByOrderOrPowerOn
  intro i s t run set clear
  by_cases frame : ∃ l bytes odd, i = .orderFrame l bytes odd
  · obtain ⟨l, bytes, odd, rfl⟩ := frame
    obtain ⟨reg, -⟩ | ⟨code, ops, o, u, judged, decoded, order, taken, reg, -⟩ := orderFrame_takes run
    · rw [reg, set] at clear; cases clear
    · obtain ⟨l', rfl⟩ | rfl := command_tripped (order_ne_orderFrame order) taken (reg ▸ set) clear
      · exact .inr (.inl ⟨l, bytes, odd, code, ops, l', rfl, judged, decoded⟩)
      · cases order
  · exact (command_tripped (fun l bytes odd e => frame ⟨l, bytes, odd, e⟩) run set clear).imp_right .inr

end Sys2Proof.Machine

namespace Sys2Proof.Machine

/-! ### How a command runs while no reset is held -/

section
variable {s : State} {i : Instr} {f : State → State}

theorem completes_running {P : State → Prop} (run : exec i s = whenReleased s f) (held : s.held = false) (post : P (f s)) :
    Completes i s P :=
  ⟨f s, run.trans (whenReleased_running held), post⟩

theorem completes_arrival {P : State → Prop} (run : exec i s = whenReleased (s.arrive i) f) (held : s.held = false)
    (post : P (f (s.arrive i))) : Completes i s P :=
  completes_running (s := s) (f := fun t => f (t.arrive i)) (run.trans (by simp [whenReleased, held])) held post

theorem exec_running {t : State} (run : exec i s = whenReleased s f) (held : s.held = false) (effect : f s = t) :
    exec i s = .next t := by
  rw [run, whenReleased_running held, effect]

theorem exec_arrival {t : State} (run : exec i s = whenReleased (s.arrive i) f) (held : s.held = false)
    (effect : f (s.arrive i) = t) : exec i s = .next t := by
  rw [run, whenReleased_arrive_running held, effect]

end

/-! ### The negative half-cycle (R22, R23) -/

/-- R22: what a step of the firing pattern makes of each channel. -/
theorem fireStep_channel (s : State) (i : Fin 4) :
    s.fireStep.reg.conducting[i] = decide (64 ≤ s.reg.counts[i] + s.reg.levels[i])
      ∧ s.fireStep.reg.counts[i] =
        if 64 ≤ s.reg.counts[i] + s.reg.levels[i] then s.reg.counts[i] + s.reg.levels[i] - 64
        else s.reg.counts[i] + s.reg.levels[i] := by
  fin_cases i <;> exact ⟨rfl, rfl⟩

theorem halfCycleEffect_of_midpoint {s : State} {m : Nat} (h : s.reg.midpoint = some m) :
    halfCycleEffect s =
      if s.reg.station = .black then { s with now := max s.now m, reg := { s.reg with midpoint := none } }
      else State.fireStep { s with now := max s.now m, reg := { s.reg with midpoint := none } } := by
  simp only [halfCycleEffect, h]
  rfl

/-- Settles O19: in BLACK nothing but the moment changes, and outside it each channel by `fireStep_channel`. -/
theorem halfCycleStepsThePattern : Obligations.HalfCycleStepsThePattern := by
  intro s m held midpoint
  refine completes_running rfl held ?_
  rw [halfCycleEffect_of_midpoint midpoint]
  by_cases black : s.reg.station = .black
  case pos =>
    rw [if_pos black]
    exact ⟨fun live => absurd black live, fun _ => ⟨rfl, rfl⟩, rfl⟩
  case neg =>
    rw [if_neg black]
    exact ⟨fun _ => fireStep_channel _, fun b => absurd b black, rfl⟩

/-! ### Silence (R3, R7, R31) -/

theorem silenceEffect_of_crossing {s : State} {m : Nat} (h : s.reg.lastCrossing = some m) :
    silenceEffect s =
      State.waveformLoss { s with now := max s.now (m + 100000), reg := { s.reg with lastCrossing := none } } := by
  simp only [silenceEffect, h]
  rfl

theorem waveformLoss_in_black {s : State} (h : s.reg.station = .black) :
    s.waveformLoss =
      State.judgeTimings { s with reg := { s.reg with history := [], discardRun := 0, validRun := 0 } } := if_pos h

theorem waveformLoss_outside_black {s : State} (h : s.reg.station ≠ .black) :
    s.waveformLoss =
      State.enterBlack { s with reg := { s.reg with history := [], discardRun := 0, validRun := 0 } } := if_neg h

/-- R3, R7, R31: what waveform loss makes of a state, by the station state that it finds. -/
theorem waveformLoss_spec (s : State) :
    let t := s.waveformLoss
    t.reg.history = [] ∧ t.reg.discardRun = 0 ∧ t.reg.validRun = 0 ∧ t.reg.lastCrossing = s.reg.lastCrossing
      ∧ t.reg.station = .black ∧ t.reg.tripLatch = s.reg.tripLatch
      ∧ (s.reg.station = .black → t.transit = s.transit ∧ t.reg.bd = s.reg.bd ∧ t.reg.levels = s.reg.levels)
      ∧ (s.reg.station ≠ .black →
          Enters s t .black .empty ∧ t.reg.ratings = s.set.tables.channels.rating ∧ t.reg.bd = t.capacity
            ∧ t.reg.levels = #v[64, 64, 64, 64] ∧ t.reg.counts = #v[0, 0, 0, 0]
            ∧ t.reg.conducting = #v[true, true, true, true] ∧ t.reg.quiet = false)
      ∧ t = { s with reg := t.reg, transit := t.transit } := by
  by_cases black : s.reg.station = .black
  case pos =>
    rw [waveformLoss_in_black black]
    exact ⟨rfl, rfl, rfl, rfl, black, rfl, fun _ => ⟨rfl, rfl, rfl⟩, fun live => absurd black live, rfl⟩
  case neg =>
    rw [waveformLoss_outside_black black]
    exact ⟨rfl, rfl, rfl, rfl, rfl, rfl, fun b => absurd b black,
      fun _ => ⟨⟨rfl, rfl, rfl⟩, rfl, rfl, rfl, rfl, rfl, rfl⟩, rfl⟩

/-- Settles O20: `waveformLoss_spec` at the moment of the expiry. -/
theorem silenceDeclaresWaveformLoss : Obligations.SilenceDeclaresWaveformLoss := by
  intro s m held crossing
  refine completes_running rfl held ?_
  rw [silenceEffect_of_crossing crossing]
  obtain ⟨history, discards, valids, crossed, station, latch, black, entered, frame⟩ :=
    waveformLoss_spec { s with now := max s.now (m + 100000), reg := { s.reg with lastCrossing := none } }
  exact ⟨history, discards, valids, crossed, station, latch, black, entered, frame, rfl⟩

/-! ### BUDGET requests and reports of the Lead Line (R11, R12, R18, R75) -/

theorem budgetRaiseEffect_of_raised {s : State} (h : s.reg.station = .regulating ∨ s.reg.station = .runaway) :
    budgetRaiseEffect s = s.enterStation .deficit { s.reg.reasons with budget := true } := by
  rcases h with h | h <;> simp [budgetRaiseEffect, h]

theorem budgetRaiseEffect_in_deficit {s : State} (h : s.reg.station = .deficit) :
    budgetRaiseEffect s = { s with reg := { s.reg with reasons := { s.reg.reasons with budget := true } } } := by
  simp [budgetRaiseEffect, h]

theorem budgetRaiseEffect_of_discarded {s : State} (h : s.reg.station = .black ∨ s.reg.station = .warming) :
    budgetRaiseEffect s = s := by
  rcases h with h | h <;> simp [budgetRaiseEffect, h]

theorem budgetClearEffect_leaves {s : State} (h : s.reg.station = .deficit) (complete : s.reg.recovery.isComplete = true) :
    budgetClearEffect s =
      State.enterStation { s with reg := { s.reg with reasons := { s.reg.reasons with budget := false } } } .regulating
        .empty := by
  simp [budgetClearEffect, State.leaveDeficit, h, complete]

theorem budgetClearEffect_stays {s : State} (h : s.reg.station = .deficit) (running : s.reg.recovery.isComplete = false) :
    budgetClearEffect s = { s with reg := { s.reg with reasons := { s.reg.reasons with budget := false } } } := by
  simp [budgetClearEffect, State.leaveDeficit, h, running]

theorem budgetClearEffect_elsewhere {s : State} (h : s.reg.station ≠ .deficit) : budgetClearEffect s = s := by
  cases station : s.reg.station with
  | deficit => exact absurd station h
  | black | warming | regulating | runaway => simp [budgetClearEffect, station]

/-- R18: QUIET as its condition is written in the model and in the rule. -/
theorem leadLineReportEffect_eq (r : LineReport) (s : State) :
    leadLineReportEffect r s =
      { s with
        reg :=
          { s.reg with
            lineEmpty := decide (r = .empty)
            quiet :=
              decide (s.reg.station = .regulating ∧ r = .empty)
                && s.filteredIs (fun f => 4980 ≤ f && f ≤ 5020) } } := by
  cases r <;> simp only [Bool.decide_and] <;> rfl

/-- Settles O23: each request and report by the station state on its arrival. -/
theorem requestsAndReportsAtTheRegulator : Obligations.RequestsAndReportsAtTheRegulator := by
  refine ⟨fun s held => ⟨completes_arrival rfl held ⟨?raised, ?inDeficit, ?discarded⟩,
    completes_arrival rfl held ⟨?leaves, ?stays, ?elsewhere⟩⟩, fun r s held => ?line⟩
  case raised =>
    intro station
    rw [budgetRaiseEffect_of_raised (s := s.arrive .budgetRaiseRequest) station]
    exact ⟨⟨rfl, rfl, rfl⟩, rfl⟩
  case inDeficit => exact fun station => budgetRaiseEffect_in_deficit station
  case discarded => exact fun station => budgetRaiseEffect_of_discarded station
  case leaves =>
    intro station complete
    rw [budgetClearEffect_leaves (s := s.arrive .budgetClearRequest) station complete]
    exact ⟨⟨rfl, rfl, rfl⟩, rfl⟩
  case stays => exact fun station running => budgetClearEffect_stays station running
  case elsewhere => exact fun station => budgetClearEffect_elsewhere station
  case line => exact exec_arrival rfl held (leadLineReportEffect_eq r _)

/-! ### Feed-forward steps and the levels that share out a demand (R24, R25, R28, R29) -/

/-- Outside BLACK a demand is set with nothing but Bd, the levels and the timings. -/
theorem setDemand_spec (s : State) (x : Int) :
    (s.setDemand x).reg.bd = min x.toNat s.capacity
      ∧ (s.setDemand x).reg.levels = levelsFor (s.setDemand x).reg.bd s.reg.ratings
      ∧ (s.setDemand x).reg.ratings = s.reg.ratings ∧ (s.setDemand x).reg.counts = s.reg.counts
      ∧ (s.setDemand x).reg.station = s.reg.station := ⟨rfl, rfl, rfl, rfl, rfl⟩

theorem downStepEffect_in_black {s : State} (a : Nat) (h : s.reg.station = .black) : downStepEffect a s = s := if_pos h

theorem upStepEffect_in_black {s : State} (a : Nat) (h : s.reg.station = .black) : upStepEffect a s = s := if_pos h

theorem downStepEffect_outside_black {s : State} (a : Nat) (h : s.reg.station ≠ .black) :
    downStepEffect a s = s.setDemand ((s.reg.bd : Int) - (a : Int)) := if_neg h

theorem upStepEffect_outside_black {s : State} (a : Nat) (h : s.reg.station ≠ .black) :
    upStepEffect a s = s.setDemand ((s.reg.bd : Int) + (a : Int)) := if_neg h

theorem downStepEffect_eq (a : Nat) (s : State) :
    downStepEffect a s = { s with reg := (downStepEffect a s).reg } := by
  unfold downStepEffect; split <;> rfl

theorem upStepEffect_eq (a : Nat) (s : State) : upStepEffect a s = { s with reg := (upStepEffect a s).reg } := by
  unfold upStepEffect; split <;> rfl

/-- R25: a channel of rating r that is given p of it stands at 64 times p / r to the nearest, a half upward. -/
theorem levelFor_nearest {p r : Nat} (present : 0 < r) :
    2 * r * levelFor p r ≤ 128 * p + r ∧ 128 * p + r < 2 * r * (levelFor p r + 1) := by
  have level : levelFor p r = (128 * p + r) / (2 * r) := by rw [levelFor, if_neg present.ne']
  have divided := Nat.div_add_mod (128 * p + r) (2 * r)
  have remainder := Nat.mod_lt (128 * p + r) (y := 2 * r) (by omega)
  rw [level, Nat.mul_add]
  omega

/-- R25: each channel is filled before the next is given anything. -/
theorem levelsFor_channel (bd : Nat) (r : Vector Nat 4) (i : Fin 4) :
    (levelsFor bd r)[i] = levelFor (min (bd - ((r.toList).take i.val).sum) r[i]) r[i] := by
  rcases r with ⟨⟨rs⟩, size⟩
  match rs, size with
  | [a, b, c, d], _ =>
    have second : bd - min bd a = bd - a := by omega
    have third : bd - a - min (bd - a) b = bd - (a + b) := by omega
    have fourth : bd - (a + b) - min (bd - (a + b)) c = bd - (a + (b + c)) := by omega
    fin_cases i <;> simp [levelsFor, allot, second, third, fourth]

/-- Settles O24: the steps set a demand outside BLACK, and `levelsFor_channel` and `levelFor_nearest` give the levels. -/
theorem feedForwardStepsAndLevels : Obligations.FeedForwardStepsAndLevels := by
  refine ⟨fun amount s held => ⟨completes_arrival rfl held ⟨?down, ?downBlack, downStepEffect_eq _ _⟩,
    completes_arrival rfl held ⟨?up, ?upBlack, upStepEffect_eq _ _⟩⟩, fun bd r i => ?levels⟩
  case down =>
    intro live
    have clamped : ((s.reg.bd : Int) - (amount : Int)).toNat = s.reg.bd - amount := by omega
    rw [downStepEffect_outside_black (s := s.arrive _) amount live, ← clamped]
    exact setDemand_spec _ _
  case downBlack => exact fun black => by rw [downStepEffect_in_black (s := s.arrive _) amount black]; rfl
  case up =>
    intro live
    have clamped : ((s.reg.bd : Int) + (amount : Int)).toNat = s.reg.bd + amount := by omega
    rw [upStepEffect_outside_black (s := s.arrive _) amount live, ← clamped]
    exact setDemand_spec _ _
  case upBlack => exact fun black => by rw [upStepEffect_in_black (s := s.arrive _) amount black]; rfl
  case levels =>
    rw [levelsFor_channel]
    exact ⟨fun absent => if_pos absent, fun present => levelFor_nearest present⟩

end Sys2Proof.Machine

namespace Sys2Proof.Machine

/-! ### A timing of the station at its expiry (R5, R9, R10, R12, R13) -/

section
variable {s : State} {since : Nat}

theorem expireWarmBand_of_running (h : s.reg.warmBand = .running since) :
    s.expireWarmBand =
      stationEntered
        { s with
          now := max s.now ((since + 100 * s.reg.inForce.warmUp) * 10000)
          reg := { s.reg with warmBand := .complete since } } .regulating .empty := by
  simp [State.expireWarmBand, h, Timing.start?, Timing.expire, State.expireAt, State.reachTick, State.reach,
    Config.microsPerTick, Config.seconds, Nat.mul_comm 100, enterStation_eq]

theorem expireShed_of_running (h : s.reg.shed = .running since) :
    s.expireShed =
      State.raiseFrequency
        { s with
          now := max s.now ((since + 10 * s.reg.inForce.shedDelay) * 10000)
          reg := { s.reg with shed := .complete since } } := by
  simp [State.expireShed, h, Timing.start?, Timing.expire, State.expireAt, State.reachTick, State.reach,
    Config.microsPerTick, Nat.mul_comm 10]

theorem expireFast_of_running (h : s.reg.fast = .running since) :
    s.expireFast =
      State.raiseFrequency
        { s with
          now := max s.now ((since + 10 * s.reg.inForce.fastDelay) * 10000)
          reg := { s.reg with fast := .complete since } } := by
  simp [State.expireFast, h, Timing.start?, Timing.expire, State.expireAt, State.reachTick, State.reach,
    Config.microsPerTick, Nat.mul_comm 10]

theorem expireRecovery_of_running (h : s.reg.recovery = .running since) :
    s.expireRecovery =
      State.leaveDeficit
        { s with
          now := max s.now ((since + 10 * s.reg.inForce.recoveryTime) * 10000)
          reg := { s.reg with recovery := .complete since } } := by
  simp [State.expireRecovery, h, Timing.start?, Timing.expire, State.expireAt, State.reachTick, State.reach,
    Config.microsPerTick, Nat.mul_comm 10]

theorem expireRunaway_of_running (h : s.reg.runaway = .running since) :
    s.expireRunaway =
      stationEntered
        { s with
          now := max s.now ((since + 10 * s.reg.inForce.runawayDelay) * 10000)
          reg := { s.reg with runaway := .complete since } } .runaway .empty := by
  simp [State.expireRunaway, h, Timing.start?, Timing.expire, State.expireAt, State.reachTick, State.reach,
    Config.microsPerTick, Nat.mul_comm 10, enterStation_eq]

end

/-- R10: FREQUENCY joins the reason set by the station state. -/
theorem raiseFrequency_eq (s : State) :
    s.raiseFrequency =
      if s.reg.station = .regulating then stationEntered s .deficit { s.reg.reasons with frequency := true }
      else if s.reg.station = .deficit then
        { s with reg := { s.reg with reasons := { s.reg.reasons with frequency := true } } }
      else s := by
  cases station : s.reg.station <;> simp [State.raiseFrequency, station, enterStation_eq]

/-- R12: the station leaves DEFICIT with the recovery timing complete and without BUDGET. -/
theorem leaveDeficit_leaves {s : State} {since : Nat} (complete : s.reg.recovery = .complete since)
    (leaves : s.reg.station = .deficit ∧ s.reg.reasons.budget = false) :
    s.leaveDeficit = stationEntered s .regulating .empty := by
  simp [State.leaveDeficit, complete, leaves, Timing.isComplete, enterStation_eq]

theorem leaveDeficit_stays {s : State} (stays : ¬ (s.reg.station = .deficit ∧ s.reg.reasons.budget = false)) :
    s.leaveDeficit = s :=
  if_neg fun h => stays ⟨h.1, h.2.2⟩

/-! ### A timing that does not run -/

theorem start?_of_not_running {t : Timing} (h : ∀ since : Nat, t ≠ .running since) : t.start? = none := by
  cases t with
  | running since => exact absurd rfl (h since)
  | stopped | complete => rfl

/-- R5, log 20: its expiry does nothing. -/
theorem expire_of_not_running (s : State) :
    ((∀ since : Nat, s.reg.warmBand ≠ .running since) → s.expireWarmBand = s)
      ∧ ((∀ since : Nat, s.reg.shed ≠ .running since) → s.expireShed = s)
      ∧ ((∀ since : Nat, s.reg.fast ≠ .running since) → s.expireFast = s)
      ∧ ((∀ since : Nat, s.reg.recovery ≠ .running since) → s.expireRecovery = s)
      ∧ ((∀ since : Nat, s.reg.runaway ≠ .running since) → s.expireRunaway = s)
      ∧ ((∀ since : Nat, s.reg.trip ≠ .running since) → s.expireTrip = s) := by
  refine ⟨fun h => ?_, fun h => ?_, fun h => ?_, fun h => ?_, fun h => ?_, fun h => ?_⟩
  · rw [State.expireWarmBand, start?_of_not_running h]
  · rw [State.expireShed, start?_of_not_running h]
  · rw [State.expireFast, start?_of_not_running h]
  · rw [State.expireRecovery, start?_of_not_running h]
  · rw [State.expireRunaway, start?_of_not_running h]
  · rw [State.expireTrip, start?_of_not_running h]

/-! ### The test after a THRESHOLDS commit (R6)

A timing that has reached its delay by now expires at the present moment; what its expiry does to the other timings is to
judge them again, and a timing that is judged now has not reached a delay above 0. -/

theorem reached_iff (t : Timing) (delay clock : Nat) :
    t.reached delay clock = true ↔ ∃ since ∈ t.start?, since + delay ≤ clock := by
  cases t <;> simp [Timing.reached, Timing.start?]

theorem reachedList_nil (t : Timing) (delay clock : Nat) (i : Instr) :
    (if ∃ since ∈ t.start?, since + delay ≤ clock then [i] else []) = [] ↔ t.reached delay clock = false := by
  rw [← Bool.not_eq_true, reached_iff]
  split <;> simp_all

theorem reachedList_one (t : Timing) (delay clock : Nat) (i j : Instr) :
    (if ∃ since ∈ t.start?, since + delay ≤ clock then [i] else []) = [j] ↔ t.reached delay clock = true ∧ i = j := by
  rw [reached_iff]
  split <;> simp_all

theorem reached_judge {t : Timing} {delay clock : Nat} (c : Bool) (positive : 0 < delay)
    (h : t.reached delay clock = false) : (t.judge c clock).reached delay clock = false := by
  cases c with
  | false => rfl
  | true =>
    cases t with
    | stopped => simp [Timing.judge, Timing.reached, positive.ne']
    | running since => exact h
    | complete since => rfl

/-- The moment stands, and a timing that has not reached its delay in s has not in t. -/
structure StaysUnreached (s t : State) : Prop where
  clock : t.clock = s.clock
  warmBand : ∀ d, 0 < d → s.reg.warmBand.reached d s.clock = false → t.reg.warmBand.reached d t.clock = false
  shed : ∀ d, 0 < d → s.reg.shed.reached d s.clock = false → t.reg.shed.reached d t.clock = false
  fast : ∀ d, 0 < d → s.reg.fast.reached d s.clock = false → t.reg.fast.reached d t.clock = false
  recovery : ∀ d, 0 < d → s.reg.recovery.reached d s.clock = false → t.reg.recovery.reached d t.clock = false
  runaway : ∀ d, 0 < d → s.reg.runaway.reached d s.clock = false → t.reg.runaway.reached d t.clock = false

theorem staysUnreached_enterStation (s : State) (st : StationState) (r : Reasons) : StaysUnreached s (s.enterStation st r) where
  clock := rfl
  warmBand _ := reached_judge _
  shed _ := reached_judge _
  fast _ := reached_judge _
  recovery _ := reached_judge _
  runaway _ := reached_judge _

theorem StaysUnreached.refl (s : State) : StaysUnreached s s where
  clock := rfl
  warmBand _ _ h := h
  shed _ _ h := h
  fast _ _ h := h
  recovery _ _ h := h
  runaway _ _ h := h

theorem StaysUnreached.trans {s t u : State} (h : StaysUnreached s t) (k : StaysUnreached t u) : StaysUnreached s u where
  clock := k.clock.trans h.clock
  warmBand d pos no := k.warmBand d pos (h.warmBand d pos no)
  shed d pos no := k.shed d pos (h.shed d pos no)
  fast d pos no := k.fast d pos (h.fast d pos no)
  recovery d pos no := k.recovery d pos (h.recovery d pos no)
  runaway d pos no := k.runaway d pos (h.runaway d pos no)

theorem reached_expire (t : Timing) (delay clock : Nat) : t.expire.reached delay clock = false := by cases t <;> rfl

theorem staysUnreached_raiseFrequency (s : State) : StaysUnreached s s.raiseFrequency := by
  unfold State.raiseFrequency
  split
  case h_1 => exact staysUnreached_enterStation _ _ _
  all_goals exact ⟨rfl, fun _ _ h => h, fun _ _ h => h, fun _ _ h => h, fun _ _ h => h, fun _ _ h => h⟩

theorem staysUnreached_leaveDeficit (s : State) : StaysUnreached s s.leaveDeficit := by
  unfold State.leaveDeficit
  split
  · exact staysUnreached_enterStation _ _ _
  · exact .refl s

theorem staysUnreached_setTrip (s : State) : StaysUnreached s s.setTrip := by
  unfold State.setTrip
  split
  · exact .refl s
  · exact ⟨rfl, fun _ _ h => h, fun _ _ h => h, fun _ _ h => h, fun _ _ h => h, fun _ _ h => h⟩

/-- An expiry whose delay has passed takes place now. -/
theorem expireAt_of_reached {s : State} {t : Timing} {since delay : Nat} (start : t.start? = some since)
    (h : t.reached delay s.clock = true) : s.expireAt since delay = s := by
  obtain ⟨_, started, passed⟩ := (reached_iff _ _ _).1 h
  obtain rfl : since = _ := Option.some.inj (start.symm.trans started)
  have past : (since + delay) * 10000 ≤ s.now :=
    (Nat.mul_le_mul_right _ passed).trans (Nat.div_mul_le_self s.now 10000)
  have stands : max s.now ((since + delay) * 10000) = s.now := Nat.max_eq_left past
  simp [State.expireAt, State.reachTick, State.reach, Config.microsPerTick, stands]

section
variable {s : State}

theorem staysUnreached_expireTrip (h : s.reg.trip.reached (Config.tenths s.reg.inForce.tripDelay) s.clock = true) :
    StaysUnreached s s.expireTrip := by
  unfold State.expireTrip
  split
  case h_1 => exact .refl s
  case h_2 since start =>
    dsimp only
    rw [expireAt_of_reached start h]
    refine .trans ?_ (staysUnreached_setTrip _)
    exact ⟨rfl, fun _ _ h => h, fun _ _ h => h, fun _ _ h => h, fun _ _ h => h, fun _ _ h => h⟩

theorem staysUnreached_expireWarmBand (h : s.reg.warmBand.reached (Config.seconds s.reg.inForce.warmUp) s.clock = true) :
    StaysUnreached s s.expireWarmBand := by
  unfold State.expireWarmBand
  split
  case h_1 => exact .refl s
  case h_2 since start =>
    dsimp only
    rw [expireAt_of_reached start h]
    refine .trans ?_ (staysUnreached_enterStation _ _ _)
    exact ⟨rfl, fun _ _ _ => reached_expire _ _ _, fun _ _ h => h, fun _ _ h => h, fun _ _ h => h, fun _ _ h => h⟩

theorem staysUnreached_expireShed (h : s.reg.shed.reached (Config.tenths s.reg.inForce.shedDelay) s.clock = true) :
    StaysUnreached s s.expireShed := by
  unfold State.expireShed
  split
  case h_1 => exact .refl s
  case h_2 since start =>
    dsimp only
    rw [expireAt_of_reached start h]
    refine .trans ?_ (staysUnreached_raiseFrequency _)
    exact ⟨rfl, fun _ _ h => h, fun _ _ _ => reached_expire _ _ _, fun _ _ h => h, fun _ _ h => h, fun _ _ h => h⟩

theorem staysUnreached_expireFast (h : s.reg.fast.reached (Config.tenths s.reg.inForce.fastDelay) s.clock = true) :
    StaysUnreached s s.expireFast := by
  unfold State.expireFast
  split
  case h_1 => exact .refl s
  case h_2 since start =>
    dsimp only
    rw [expireAt_of_reached start h]
    refine .trans ?_ (staysUnreached_raiseFrequency _)
    exact ⟨rfl, fun _ _ h => h, fun _ _ h => h, fun _ _ _ => reached_expire _ _ _, fun _ _ h => h, fun _ _ h => h⟩

theorem staysUnreached_expireRecovery
    (h : s.reg.recovery.reached (Config.tenths s.reg.inForce.recoveryTime) s.clock = true) :
    StaysUnreached s s.expireRecovery := by
  unfold State.expireRecovery
  split
  case h_1 => exact .refl s
  case h_2 since start =>
    dsimp only
    rw [expireAt_of_reached start h]
    refine .trans ?_ (staysUnreached_leaveDeficit _)
    exact ⟨rfl, fun _ _ h => h, fun _ _ h => h, fun _ _ h => h, fun _ _ _ => reached_expire _ _ _, fun _ _ h => h⟩

/-- R6: with no timing at its delay the test does nothing. -/
theorem expireReached_none (trip : s.reg.trip.reached (Config.tenths s.reg.inForce.tripDelay) s.clock = false)
    (warmBand : s.reg.warmBand.reached (Config.seconds s.reg.inForce.warmUp) s.clock = false)
    (shed : s.reg.shed.reached (Config.tenths s.reg.inForce.shedDelay) s.clock = false)
    (fast : s.reg.fast.reached (Config.tenths s.reg.inForce.fastDelay) s.clock = false)
    (recovery : s.reg.recovery.reached (Config.tenths s.reg.inForce.recoveryTime) s.clock = false)
    (runaway : s.reg.runaway.reached (Config.tenths s.reg.inForce.runawayDelay) s.clock = false) :
    s.expireReached = s := by
  simp [State.expireReached, trip, warmBand, shed, fast, recovery, runaway]

end

/-- Settles O21: the expiries by `expire_of_not_running` and the equation of each timing that runs; at the test, a single
timing at its delay expires as its own command has it, since its expiry brings no other to its delay. -/
theorem timingsMoveTheStation : Obligations.TimingsMoveTheStation := by
  refine ⟨fun s held => ?_, fun s since held => ⟨?warmBand, ?shed, ?fast, ?recovery, ?runaway⟩⟩
  case warmBand => exact fun running _ => exec_running rfl held (expireWarmBand_of_running running)
  case shed =>
    exact fun running => exec_running rfl held ((expireShed_of_running running).trans (raiseFrequency_eq _))
  case fast =>
    exact fun running => exec_running rfl held ((expireFast_of_running running).trans (raiseFrequency_eq _))
  case recovery =>
    intro running
    exact ⟨fun leaves => exec_running rfl held ((expireRecovery_of_running running).trans (leaveDeficit_leaves rfl leaves)),
      fun stays => exec_running rfl held ((expireRecovery_of_running running).trans (leaveDeficit_stays stays))⟩
  case runaway => exact fun running _ => exec_running rfl held (expireRunaway_of_running running)
  obtain ⟨warmBand, shed, fast, recovery, runaway, trip⟩ := expire_of_not_running s
  refine ⟨fun h => exec_running rfl held (warmBand h), fun h => exec_running rfl held (shed h),
    fun h => exec_running rfl held (fast h), fun h => exec_running rfl held (recovery h),
    fun h => exec_running rfl held (runaway h), fun h => exec_running rfl held (trip h), ?none, ?one⟩
  case none =>
    intro due
    simp only [List.append_eq_nil_iff, reachedList_nil, Nat.mul_comm 10, Nat.mul_comm 100] at due
    obtain ⟨⟨⟨⟨⟨trip, warmBand⟩, shed⟩, fast⟩, recovery⟩, runaway⟩ := due
    exact expireReached_none trip warmBand shed fast recovery runaway
  case one =>
    intro tripPos warmPos shedPos fastPos recoveryPos runawayPos i due
    have tenths : ∀ n, 10 * n = Config.tenths n := fun n => Nat.mul_comm 10 n
    have seconds : ∀ n, 100 * n = Config.seconds n := fun n => Nat.mul_comm 100 n
    simp only [List.append_eq_singleton_iff, List.append_eq_nil_iff, reachedList_nil, reachedList_one, tenths, seconds] at due
    have tenthsPos : ∀ {n}, 0 < n → 0 < Config.tenths n := fun h => Nat.mul_pos h (by decide)
    have secondsPos : ∀ {n}, 0 < n → 0 < Config.seconds n := fun h => Nat.mul_pos h (by decide)
    rcases due with
      ⟨⟨⟨⟨⟨trip, warm⟩, shed⟩, fast⟩, recovery⟩, runaway, rfl⟩
        | ⟨⟨⟨⟨⟨trip, warm⟩, shed⟩, fast⟩, recovery, rfl⟩
            | ⟨⟨⟨⟨trip, warm⟩, shed⟩, fast, rfl⟩
                | ⟨⟨⟨trip, warm⟩, shed, rfl⟩ | ⟨⟨trip, warm, rfl⟩ | ⟨⟨trip, rfl⟩, warm⟩, shed⟩, fast⟩, recovery⟩, runaway⟩
    case inl =>
      refine exec_running rfl held (f := State.expireRunaway) ?_
      simp [State.expireReached, trip, warm, shed, fast, recovery, runaway]
    case inr.inl =>
      have stays := staysUnreached_expireRecovery recovery
      refine exec_running rfl held (f := State.expireRecovery) ?_
      simp [State.expireReached, trip, warm, shed, fast, recovery, stays.runaway _ (tenthsPos runawayPos) runaway]
    case inr.inr.inl =>
      have stays := staysUnreached_expireFast fast
      refine exec_running rfl held (f := State.expireFast) ?_
      simp [State.expireReached, trip, warm, shed, fast, stays.recovery _ (tenthsPos recoveryPos) recovery,
        stays.runaway _ (tenthsPos runawayPos) runaway]
    case inr.inr.inr.inl =>
      have stays := staysUnreached_expireShed shed
      refine exec_running rfl held (f := State.expireShed) ?_
      simp [State.expireReached, trip, warm, shed, stays.fast _ (tenthsPos fastPos) fast,
        stays.recovery _ (tenthsPos recoveryPos) recovery, stays.runaway _ (tenthsPos runawayPos) runaway]
    case inr.inr.inr.inr.inl =>
      have stays := staysUnreached_expireWarmBand warm
      refine exec_running rfl held (f := State.expireWarmBand) ?_
      simp [State.expireReached, trip, warm, stays.shed _ (tenthsPos shedPos) shed,
        stays.fast _ (tenthsPos fastPos) fast, stays.recovery _ (tenthsPos recoveryPos) recovery,
        stays.runaway _ (tenthsPos runawayPos) runaway]
    case inr.inr.inr.inr.inr =>
      have stays := staysUnreached_expireTrip trip
      refine exec_running rfl held (f := State.expireTrip) ?_
      simp [State.expireReached, trip, stays.warmBand _ (secondsPos warmPos) warm,
        stays.shed _ (tenthsPos shedPos) shed, stays.fast _ (tenthsPos fastPos) fast,
        stays.recovery _ (tenthsPos recoveryPos) recovery, stays.runaway _ (tenthsPos runawayPos) runaway]

end Sys2Proof.Machine

namespace Sys2Proof.Machine

/-! ### Letting a claim go (R42, R45, R50) -/

theorem endsQuietly_iff (o : Ending) : endsQuietly o = true ↔ o = .withdrawn ∨ o = .released := by cases o <;> decide

/-- R50: what a claim's return to FREE makes of the state once its place in the queue or on the line, or its committed
amount, has been given back. -/
def State.ended (t : State) (n : Fin 24) (c : Claim) (o : Ending) : State :=
  if endsQuietly o then t.setClaim n (c.freed o) else (t.setClaim n (c.freed o)).addNotice (holderOf n) .claimEnded

theorem ended_eq (t : State) (n : Fin 24) (c : Claim) (o : Ending) :
    t.ended n c o =
      { t with
        alw := { t.alw with claims := t.alw.claims.set n (c.freed o) }
        links := if o = .withdrawn ∨ o = .released then t.links else (t.addNotice (holderOf n) .claimEnded).links } := by
  unfold State.ended
  by_cases quiet : o = .withdrawn ∨ o = .released
  case pos => rw [if_pos ((endsQuietly_iff o).2 quiet), if_pos quiet]; rfl
  case neg => rw [if_neg fun h => quiet ((endsQuietly_iff o).1 h), if_neg quiet]; rfl

section
variable {s : State} {n : Fin 24}

theorem letGo_of_waiting (o : Ending) (h : (s.claim n).state = .waiting) :
    s.letGo n o =
      State.ended { s with alw := { s.alw with queue := s.alw.queue.erase n } } n (s.claim n) o := by
  simp only [State.letGo, h]; rfl

theorem letGo_of_pending (o : Ending) (h : (s.claim n).state = .pending) :
    s.letGo n o = (s.removeMark n).ended n (s.claim n) o := by
  simp only [State.letGo, h]; rfl

theorem letGo_of_carried (o : Ending) (h : (s.claim n).state = .carried) :
    s.letGo n o = (s.send (.upStep (s.claim n).committed)).ended n (s.claim n) o := by
  simp only [State.letGo, h]; rfl

theorem removeMark_eq (s : State) (n : Fin 24) :
    s.removeMark n =
      { s with
        alw := { s.alw with line := s.alw.line.filter fun m => m.claim ≠ n }
        transit :=
          s.transit
            ++ if s.alw.line ≠ [] ∧ (s.alw.line.filter fun m => m.claim ≠ n) = [] then [.leadLineReport .empty] else [] } := by
  unfold State.removeMark
  dsimp only
  split <;> simp [State.send]

/-- Settles O26: the equation by the state that the claim leaves, and its output by R45. -/
theorem lettingAClaimGo : Obligations.LettingAClaimGo := by
  intro s n o
  refine ⟨fun free => letGo_free s o free, fun live => ⟨?_, ?_, fun x once bound => letGo_opens_output o once live bound⟩⟩
  case refine_1 =>
    cases state : (s.claim n).state with
    | free => exact absurd state live
    | waiting => rw [letGo_of_waiting o state, ended_eq]; simp [Claim.freed]; rfl
    | pending => rw [letGo_of_pending o state, removeMark_eq, ended_eq]; simp [Claim.freed]; rfl
    | carried => rw [letGo_of_carried o state, ended_eq]; simp [Claim.freed]; exact ⟨rfl, rfl⟩
  case refine_2 =>
    refine Bool.eq_false_iff.2 fun enabled => ?_
    have carried := carried_of_carryEnable enabled
    rw [letGo_claim s o live] at carried
    cases carried

end

end Sys2Proof.Machine

namespace Sys2Proof.Machine

/-! ### The water test's Bc (R37, log 29)

A feed-forward step that has been sent has already changed what the water test takes, so its arrival does not. -/

theorem any_feedForward_iff (ms : List Instr) :
    ms.any isFeedForward = true ↔ ∃ a : Nat, .downStep a ∈ ms ∨ .upStep a ∈ ms := by
  rw [List.any_eq_true]
  constructor
  · rintro ⟨i, mem, forward⟩
    cases i with
    | downStep a => exact ⟨a, .inl mem⟩
    | upStep a => exact ⟨a, .inr mem⟩
    | _ => cases forward
  · rintro ⟨a, mem | mem⟩
    · exact ⟨_, mem, rfl⟩
    · exact ⟨_, mem, rfl⟩

theorem notFeedForward_of_none {ms : List Instr} (none_ : ∀ b : Nat, .downStep b ∉ ms ∧ .upStep b ∉ ms) :
    ∀ i ∈ ms, isFeedForward i = false := by
  intro i mem
  by_contra forward
  obtain ⟨a, down | up⟩ := (any_feedForward_iff ms).1 (List.any_eq_true.2 ⟨i, mem, by simpa using forward⟩)
  · exact (none_ a).1 down
  · exact (none_ a).2 up

/-- Where the levels share out Bd, the water test takes the Bc of the demand that is due, whatever is on its way. -/
theorem waterBc_shared {s : State} (live : s.reg.station ≠ .black) (shared : s.reg.levels = levelsFor s.reg.bd s.reg.ratings) :
    s.waterBc = computedBallast (levelsFor s.demandDue s.reg.ratings) s.reg.ratings := by
  by_cases sent : s.transit.any isFeedForward = true
  · exact waterBc_due s sent live
  · have quiet : ∀ i ∈ s.transit, isFeedForward i = false := by simpa using sent
    rw [waterBc_settled s (by simpa using sent), State.demandDue, foldl_stepDemand_other quiet, State.bc, shared]

/-- The arrival of the oldest feed-forward step sets the demand that the water test has already taken. -/
theorem waterBc_stepTaken {s : State} {before after : List Instr} {i : Instr} {x : Int} (live : s.reg.station ≠ .black)
    (split : s.transit = before ++ i :: after) (forward : isFeedForward i = true)
    (first : ∀ j ∈ before, isFeedForward j = false)
    (demand : min x.toNat s.capacity = stepDemand s.capacity s.reg.bd i) : ((s.arrive i).setDemand x).waterBc = s.waterBc := by
  have absent : i ∉ before := fun mem => by rw [first i mem] at forward; cases forward
  have left : s.transit.erase i = before ++ after := by
    rw [split, List.erase_append_right _ absent, List.erase_cons_head]
  have due : ((s.arrive i).setDemand x).demandDue = s.demandDue := by
    rw [demandDue_first s split first, ← demand, ← left]
    rfl
  have sent : s.transit.any isFeedForward = true := List.any_eq_true.2 ⟨i, by simp [split], forward⟩
  rw [waterBc_shared (s := (s.arrive i).setDemand x) live rfl, due, waterBc_due s sent live]
  rfl

/-! ### The admission tests (R64 to R66) -/

/-- R65: the band fit test with the head's amount added to its own group's sum. -/
theorem bandFitWith_iff (s : State) (n : Fin 24) :
    let extra (g : Group) : Nat := if groupOf n = g then (s.claim n).amount else 0
    s.bandFitWith n = true ↔
      (s.hSum + extra .hamlet - s.alw.bands.h) + (s.wSum + extra .saw - s.alw.bands.w) + (s.sSum + extra .supply)
        ≤ s.alw.bands.c := by
  cases group : groupOf n <;> simp only [State.bandFitWith, commonNeed, group, reduceCtorEq, if_true, if_false,
    Nat.add_zero] <;> exact decide_eq_true_iff

theorem headPasses_iff (s : State) (n : Fin 24) :
    s.headPasses n = true ↔
      (s.reported = .regulating ∨ s.reported = .runaway) ∧ s.alw.stale = false ∧ s.alw.line.length < 4
        ∧ s.bandFitWith n = true ∧ (s.claim n).amount ≤ s.headroom := by
  simp only [State.headPasses, Bool.and_eq_true, Bool.or_eq_true, Bool.not_eq_true', decide_eq_true_eq, and_assoc]
  rfl

/-- R67: what an admission changes. -/
theorem admitHead_eq (s : State) (n : Fin 24) (rest : List (Fin 24)) :
    let c := s.claim n
    let due := placeMark (s.clock + 10 * c.leadTime) s.alw.line
    s.admitHead n rest =
      { s with
        alw :=
          { s.alw with
            claims := s.alw.claims.set n { c with state := .pending, waitDeadline := none, dueTime := some due }
            queue := rest
            line := insertMark { claim := n, due := due, amount := c.amount } s.alw.line }
        transit :=
          s.transit ++ admissionReport n ++ if s.alw.line = [] then [.leadLineReport .firstMark] else [] } := by
  have tenths : Config.tenths (s.claim n).leadTime = 10 * (s.claim n).leadTime := Nat.mul_comm _ _
  unfold State.admitHead
  dsimp only
  rw [tenths]
  split
  · rfl
  · rw [List.append_nil]; rfl

/-- Settles O27: the water test by `waterBc_stepTaken`, and the consideration by the five tests of R64. -/
theorem considerationAdmitsTheHead : Obligations.ConsiderationAdmitsTheHead := by
  refine ⟨fun s => ⟨?settled, ?due, fun before after a held live first => ⟨?down, ?up⟩⟩,
    fun s => ⟨fun empty => consider_nil s empty, fun n rest queue => ?admitted⟩⟩
  case settled =>
    rintro (quiet | black)
    · exact waterBc_settled s (by rw [Bool.eq_false_iff]; exact fun sent => quiet ((any_feedForward_iff _).1 sent))
    · simp [State.waterBc, black]
  case due =>
    intro sent live
    rw [waterBc_due s ((any_feedForward_iff _).2 sent) live, State.demandDue]
    congr
  case down =>
    intro split
    refine completes_arrival rfl held ?_
    rw [downStepEffect_outside_black (s := s.arrive _) a live]
    refine waterBc_stepTaken live split rfl (notFeedForward_of_none first) ?_
    have clamped : ((s.reg.bd : Int) - (a : Int)).toNat = s.reg.bd - a := by omega
    exact congrArg (min · s.capacity) clamped
  case up =>
    intro split
    refine completes_arrival rfl held ?_
    rw [upStepEffect_outside_black (s := s.arrive _) a live]
    refine waterBc_stepTaken live split rfl (notFeedForward_of_none first) ?_
    have clamped : ((s.reg.bd : Int) + (a : Int)).toNat = s.reg.bd + a := by omega
    exact congrArg (min · s.capacity) clamped
  case admitted =>
    have tests := headPasses_iff s n
    have fits := bandFitWith_iff s n
    dsimp only at fits
    rw [fits] at tests
    refine ⟨fun fails => consider_stays s queue (Bool.eq_false_iff.2 fun h => fails (tests.1 h)), fun passes => ?_⟩
    exact (consider_admits s queue (tests.2 passes)).trans (congrArg State.consider (admitHead_eq s n rest))

/-! ### The place of a mark (R70, R71) -/

/-- Settles O28: `placeMark_spec`, where three marks move the time by less than 150. -/
theorem markIsPlacedAtTheEarliestTime : Obligations.MarkIsPlacedAtTheEarliestTime := by
  intro candidate line guarded
  obtain ⟨late, apart, earliest, bound⟩ := placeMark_spec line candidate guarded
  refine ⟨late, apart, earliest, fun short => ?near, fun mark due => ⟨insertMark_perm mark line, ?kept⟩⟩
  case near =>
    have moved : (2 * Config.stepGuard - 1) * line.length ≤ 49 * 3 := Nat.mul_le_mul_left 49 short
    omega
  case kept => exact insertMark_guarded guarded (by rw [due]; exact apart)

end Sys2Proof.Machine

namespace Sys2Proof.Machine

/-! ### CLAIM by the first check that fails (R44 to R47) -/

/-- R44: the auxiliary outputs that a claim of each group can be bound to. -/
theorem bindingAllowed_iff (n : Fin 24) (b : Binding) (free : blockOwner n = none) :
    bindingAllowed n b = true ↔
      b = .nothing
        ∨ ∃ x : Fin 6, b = .aux x
            ∧ (n.val < 4 ∧ x.val < 2 ∨ 4 ≤ n.val ∧ n.val < 10 ∧ (x = 2 ∨ x = 3) ∨ 10 ≤ n.val ∧ 4 ≤ x.val) := by
  have outputs : ∀ (n : Fin 24) (x : Fin 6), blockOwner n = none → (bindingAllowed n (.aux x) = true ↔
      (n.val < 4 ∧ x.val < 2 ∨ 4 ≤ n.val ∧ n.val < 10 ∧ (x = 2 ∨ x = 3) ∨ 10 ≤ n.val ∧ 4 ≤ x.val)) := by decide
  cases b with
  | nothing => simp [bindingAllowed]
  | aux x => simp [outputs n x free]
  | feeder k => simp [bindingAllowed]
  | saw => simp [bindingAllowed]

/-- R45: the output that a binding names is held by a claim that is not FREE. -/
theorem outputHeld_iff (s : State) (b : Binding) :
    s.outputHeld b = true ↔
      ∃ (m : Fin 24) (x : Fin 6), (s.claim m).state ≠ .free ∧ (s.claim m).binding = .aux x ∧ b = .aux x := by
  rw [← Bool.not_eq_false, outputHeld_eq_false_iff]
  simp only [not_forall, not_not, exists_prop]

section
variable {s : State} {l : Link} {o : ClaimOperands} {n : Fin 24}

theorem claimCheck_in_black (black : s.reported = .black) : s.claimCheck l o = .error .stationBlack := if_pos black

theorem claimCheck_elsewhere (live : s.reported ≠ .black) (other : ∀ m ∈ freeClaims l, m.val ≠ o.number) :
    s.claimCheck l o = .error .notYourField := by
  rw [State.claimCheck, if_neg live, claimInField_none other]

/-- The checks of a claim number in the link's field. -/
theorem claimCheck_of_field (live : s.reported ≠ .black) (field : n ∈ freeClaims l) (number : n.val = o.number) :
    s.claimCheck l o =
      if (s.claim n).state ≠ .free then .error .wrongState
      else if ClaimOperandsSound n o = false then .error .badOperand
      else if s.outputHeld o.binding then .error .outputBusy
      else if Config.queueLimit ≤ s.alw.queue.length then .error .queueFull
      else .ok n := by
  rw [State.claimCheck, if_neg live, claimInField_some field number]

theorem exec_claim_refused {st : Status} (held : s.held = false)
    (check : (s.arrive (.claim l o)).claimCheck l o = .error st) : AnsweredOnly (.claim l o) l 0x20 st s :=
  exec_arrival rfl held (by rw [claimEffect, check])

theorem exec_claim_accepted (held : s.held = false) (check : (s.arrive (.claim l o)).claimCheck l o = .ok n) :
    exec (.claim l o) s =
      .next (((s.arrive (.claim l o)).acceptClaim n o.amount o.runAmount o.surgeTime o.leadTime o.waitLimit o.binding
        o.tag).answer l 0x20 .ok) :=
  exec_arrival rfl held (by rw [claimEffect, check])

end

/-- R48: the record that a claim's acceptance writes, and the queue that it joins. -/
theorem acceptClaim_eq (s : State) (n : Fin 24) (amount leadTime tag : Nat) (run surge wait : Option Nat) (b : Binding) :
    let waiting : State :=
      { s with
        alw :=
          { s.alw with
            claims := s.alw.claims.set n
              { state := .waiting, amount := amount, runAmount := run, surgeEnded := if run.isSome then some false else none
                surgeTime := surge, leadTime := leadTime, waitLimit := wait, binding := b, tag := tag
                waitDeadline := some (s.clock + 10 * wait.getD 300), dueTime := none, surgeEnd := none
                last := (s.claim n).last }
            queue := s.alw.queue ++ [n] } }
    s.acceptClaim n amount run surge leadTime wait b tag = if s.alw.queue = [] then waiting.consider else waiting := by
  have tenths : Config.tenths (wait.getD Config.defaultWaitTenths) = 10 * wait.getD 300 := Nat.mul_comm _ _
  have surgeMark : (run.map fun _ => false) = if run.isSome then some false else none := by cases run <;> rfl
  unfold State.acceptClaim
  rw [tenths, surgeMark]
  rfl

/-- Settles O29: CLAIM by `claimCheck_of_field`, its acceptance by `acceptClaim_eq`, and a block's request as R49 orders its
checks. -/
theorem claimIsCheckedAndAccepted : Obligations.ClaimIsCheckedAndAccepted := by
  refine ⟨fun l o s held => ⟨?black, ?elsewhere, fun n field number live => ?_⟩,
    fun s n amount leadTime tag run surge wait b => ⟨acceptClaim_eq s n amount leadTime tag run surge wait b, rfl⟩,
    fun s n => endAwaits_iff s n⟩
  case black => exact fun black => exec_claim_refused held (claimCheck_in_black black)
  case elsewhere => exact fun live other => exec_claim_refused held (claimCheck_elsewhere live other)
  have check := claimCheck_of_field (s := s.arrive (.claim l o)) live field number
  have sound := claimOperandsSound_iff n o
  rw [bindingAllowed_iff n o.binding (blockOwner_of_freeClaims field)] at sound
  have busy := outputHeld_iff s o.binding
  refine ⟨?wrongState, ?badOperand, ?outputBusy, ?queueFull, ?accepted⟩
  case wrongState =>
    exact fun state => exec_claim_refused held (check.trans (if_pos state))
  case badOperand =>
    intro free unsound
    refine exec_claim_refused held ?_
    have fails : ClaimOperandsSound n o = false := Bool.eq_false_iff.2 fun h => unsound (sound.1 h)
    exact check.trans ((if_neg (not_not_intro free)).trans (if_pos fails))
  case outputBusy =>
    intro free fits taken
    exact exec_claim_refused held (check.trans ((if_neg (not_not_intro free)).trans
      ((if_neg (by simp [sound.2 fits])).trans (if_pos (busy.2 taken)))))
  case queueFull =>
    intro free fits idle full
    exact exec_claim_refused held (check.trans ((if_neg (not_not_intro free)).trans
      ((if_neg (by simp [sound.2 fits])).trans ((if_neg fun h => idle (busy.1 h)).trans (if_pos full)))))
  case accepted =>
    intro free fits idle room
    exact exec_claim_accepted held (check.trans ((if_neg (not_not_intro free)).trans
      ((if_neg (by simp [sound.2 fits])).trans ((if_neg fun h => idle (busy.1 h)).trans (if_neg (Nat.not_le.2 room))))))

end Sys2Proof.Machine

namespace Sys2Proof.Machine

/-! ### Expiries of waits and surges (R54, R55, R68, R69) -/

section
variable {s : State} {n : Fin 24}

theorem waitExpiryEffect_of_waiting {t : Nat} (state : (s.claim n).state = .waiting)
    (deadline : (s.claim n).waitDeadline = some t) :
    waitExpiryEffect n s =
      let u := ((s.reachTick t).letGo n .expired).sendAll (endingReport n .expired)
      if s.alw.queue.head? = some n then u.consider else u := by
  unfold waitExpiryEffect
  rw [state, deadline]
  exact if_congr decide_eq_true_iff rfl rfl

theorem waitExpiryEffect_elsewhere (state : (s.claim n).state ≠ .waiting) : waitExpiryEffect n s = s := by
  unfold waitExpiryEffect
  split
  case h_1 waiting _ => exact absurd waiting state
  case h_2 => rfl

theorem surgeExpiryEffect_of_carried {t : Nat} (state : (s.claim n).state = .carried)
    (surge : (s.claim n).surgeEnd = some t) : surgeExpiryEffect n s = (s.reachTick t).endSurge n := by
  unfold surgeExpiryEffect
  rw [state, surge]

theorem surgeExpiryEffect_elsewhere (other : (s.claim n).state ≠ .carried ∨ (s.claim n).surgeEnd = none) :
    surgeExpiryEffect n s = s := by
  unfold surgeExpiryEffect
  split
  case h_1 carried surge =>
    rcases other with state | none_
    · exact absurd carried state
    · rw [none_] at surge; cases surge
  case h_2 => rfl

/-- R54, R55: what the end of a surge changes before the head is considered. -/
theorem endSurge_eq {run : Nat} (runs : (s.claim n).runAmount = some run) :
    s.endSurge n =
      let c := s.claim n
      let t : State :=
        { s with
          alw := { s.alw with claims := s.alw.claims.set n { c with surgeEnded := some true, surgeEnd := none } }
          transit := s.transit ++ [.upStep (c.amount - run)] }
      (if s.reported = .deficit then t.budgetCheck else t).consider := by
  unfold State.endSurge
  dsimp only
  rw [runs]
  rfl

end

theorem reachTick_eq (s : State) (t : Nat) : s.reachTick t = { s with now := max s.now (t * 10000) } := rfl

/-- Settles O32: each expiry by the state that it finds its claim in, the surges by `endSurge_eq`. -/
theorem expiriesOfWaitsAndSurges : Obligations.ExpiriesOfWaitsAndSurges := by
  refine ⟨fun n s held => ⟨?waits, fun state => exec_running rfl held (waitExpiryEffect_elsewhere state)⟩,
    fun s held => ⟨?surges, fun n other => exec_running rfl held (surgeExpiryEffect_elsewhere other), ?request, ?refused⟩⟩
  case waits => exact fun t state deadline => exec_running rfl held (waitExpiryEffect_of_waiting state deadline)
  case surges =>
    intro n t run state surge runs
    exact exec_running rfl held ((surgeExpiryEffect_of_carried state surge).trans (endSurge_eq (s := s.reachTick t) runs))
  case request =>
    intro run state surge runs
    exact exec_arrival (f := surgeEndRequestEffect) rfl held
      ((if_pos ⟨state, surge⟩).trans (endSurge_eq (s := s.arrive .surgeEndRequest) runs))
  case refused =>
    intro other
    refine exec_arrival (f := surgeEndRequestEffect) rfl held (if_neg fun h => ?_)
    obtain ⟨state, surge⟩ := h
    exact other.elim (fun ne => ne state) (fun ne => ne surge)

/-! ### The due event (R72, R73, R75) -/

/-- R72: the seven steps of the due event. -/
theorem dueEvent_eq (s : State) (m : Mark) :
    s.dueEvent m =
      let c := s.claim m.claim
      let rest := s.alw.line.filter fun x => x.claim ≠ m.claim
      { s with
        alw :=
          { s.alw with
            claims := s.alw.claims.set m.claim
              { c with
                state := .carried
                dueTime := none
                surgeEnd := c.surgeTime.map fun t => s.clock + 10 * t }
            line := rest }
        links := (s.addNotice (holderOf m.claim) .claimDue).links
        transit :=
          s.transit ++ [.downStep m.amount] ++ carriedReport m.claim
            ++ if rest = [] then [.leadLineReport .empty] else [] } := by
  have tenths : ∀ t, Config.tenths t = 10 * t := fun t => Nat.mul_comm _ _
  unfold State.dueEvent
  simp only [tenths]
  split
  case isTrue empty =>
    have rest : (s.alw.line.filter fun x => decide (x.claim ≠ m.claim)) = [] := empty
    simp only [rest, if_true]
    rfl
  case isFalse more =>
    have rest : (s.alw.line.filter fun x => decide (x.claim ≠ m.claim)) ≠ [] := more
    simp only [if_neg rest, List.append_nil]
    rfl

/-- R73: the reports to a claim's owning block. -/
theorem reports_of_owner (n : Fin 24) (o : Ending) :
    (blockOwner n = none → admissionReport n = [] ∧ carriedReport n = [] ∧ endingReport n o = [])
      ∧ (∀ c, blockOwner n = some (.saw c) →
          admissionReport n = [.sawAdmissionReport c] ∧ carriedReport n = [.sawCarriedReport c]
            ∧ endingReport n o = [.sawEndingReport c o])
      ∧ ∀ k, blockOwner n = some (.feeder k) →
          admissionReport n = [.feederAdmissionReport k] ∧ carriedReport n = [.feederCarriedReport k]
            ∧ endingReport n o = [.feederEndingReport k o] := by
  refine ⟨fun h => ?_, fun c h => ?_, fun k h => ?_⟩ <;> simp [admissionReport, carriedReport, endingReport, h]

theorem blockOwner_none {n : Fin 24} (h : n.val < 4 ∨ 6 ≤ n.val ∧ n.val < 12) : blockOwner n = none := by
  have table : ∀ n : Fin 24, n.val < 4 ∨ 6 ≤ n.val ∧ n.val < 12 → blockOwner n = none := by decide
  exact table n h

theorem blockOwner_feeder {n : Fin 24} {k : Fin 12} (h : n.val = 12 + k.val) : blockOwner n = some (.feeder k) := by
  have table : ∀ (n : Fin 24) (k : Fin 12), n.val = 12 + k.val → blockOwner n = some (.feeder k) := by decide
  exact table n k h

/-- Settles O33: `dueEvent_eq` for the mark that the line holds, and the reports by the claim's owning block. -/
theorem dueEventConnectsTheLoad : Obligations.DueEventConnectsTheLoad := by
  intro n s held
  refine ⟨?due, ?none, fun free o => (reports_of_owner n o).1 (blockOwner_none free), fun o => ?saw,
    fun k o feeder => (reports_of_owner n o).2.2 k (blockOwner_feeder feeder)⟩
  case due =>
    intro m found
    obtain rfl : m.claim = n := by simpa using List.find?_some found
    have effect : dueEventEffect m.claim s = (((s.reachTick m.due).dueEvent m).consider).sync := by
      rw [dueEventEffect, found]
    refine exec_running rfl held (effect.trans ?_)
    exact congrArg (fun t : State => t.consider.sync) (dueEvent_eq (s.reachTick m.due) m)
  case none =>
    intro absent
    exact exec_running rfl held (by rw [dueEventEffect, absent])
  case saw =>
    obtain ⟨motorAdmission, motorCarried, motorEnding⟩ := (reports_of_owner 4 o).2.1 .motor (by decide)
    obtain ⟨carriageAdmission, carriageCarried, carriageEnding⟩ := (reports_of_owner 5 o).2.1 .carriage (by decide)
    exact ⟨motorCarried, carriageCarried, motorAdmission, carriageAdmission, motorEnding, carriageEnding⟩

end Sys2Proof.Machine

namespace Sys2Proof.Machine

/-! ### The budget check (R87, R88) -/

theorem bandsFit_iff (s : State) : s.bandsFit = true ↔ s.need ≤ s.alw.bands.c := decide_eq_true_iff

section
variable {s : State}

theorem budgetCheck_raises (exceeds : s.alw.bands.c < s.need) (mark : s.alw.budgetRaised = false) :
    s.budgetCheck = State.send { s with alw := { s.alw with budgetRaised := true } } .budgetRaiseRequest := by
  rw [State.budgetCheck, if_neg fun fits => Nat.not_le.2 exceeds ((bandsFit_iff s).1 fits), if_neg (by simp [mark])]

theorem budgetCheck_clears (fits : s.need ≤ s.alw.bands.c) (mark : s.alw.budgetRaised = true) :
    s.budgetCheck = State.send { s with alw := { s.alw with budgetRaised := false } } .budgetClearRequest := by
  rw [State.budgetCheck, if_pos ((bandsFit_iff s).2 fits), if_pos mark]

theorem budgetCheck_stands (exceeds : s.alw.bands.c < s.need) (mark : s.alw.budgetRaised = true) : s.budgetCheck = s := by
  rw [State.budgetCheck, if_neg fun fits => Nat.not_le.2 exceeds ((bandsFit_iff s).1 fits), if_pos mark]

theorem budgetCheck_idle (fits : s.need ≤ s.alw.bands.c) (mark : s.alw.budgetRaised = false) : s.budgetCheck = s := by
  rw [State.budgetCheck, if_pos ((bandsFit_iff s).2 fits), if_neg (by simp [mark])]

end

/-! ### The groups' sums, claim by claim (R39, R41) -/

theorem hSum_eq (s : State) :
    s.hSum = ((List.range 24).map fun i => if h : i < 24 ∧ 10 ≤ i then (s.claim ⟨i, h.1⟩).committed else 0).sum := by
  simp [State.hSum, State.committedOf, Group.claims, List.range_succ]

theorem wSum_eq (s : State) :
    s.wSum = ((List.range 10).map fun i => if h : i < 10 ∧ 4 ≤ i then (s.claim ⟨i, by omega⟩).committed else 0).sum := by
  simp [State.wSum, State.committedOf, Group.claims, List.range_succ]

theorem sSum_eq (s : State) :
    s.sSum = (s.claim 0).committed + (s.claim 1).committed + (s.claim 2).committed + (s.claim 3).committed := by
  simp [State.sSum, State.committedOf, Group.claims, Nat.add_assoc]

/-- Settles O35: the four cases of the budget check, the sums, and what follows a return to FREE from each state. -/
theorem budgetCheckAndWhatFollowsAnEnding : Obligations.BudgetCheckAndWhatFollowsAnEnding := by
  refine ⟨fun s => ⟨budgetCheck_raises, budgetCheck_clears, budgetCheck_stands, budgetCheck_idle, hSum_eq s, wSum_eq s,
    sSum_eq s⟩, fun s n o => ⟨?free, ?waiting, ?committed⟩⟩
  case free =>
    intro free
    rw [State.endClaim, free, letGo_free s o free]
    rfl
  case waiting =>
    intro waiting
    rw [State.endClaim, waiting]
    exact if_congr decide_eq_true_iff rfl rfl
  case committed =>
    intro state
    have reported := letGo_reported s n o
    have checked : (s.letGo n o).budgetCheckInDeficit =
        if s.reported = .deficit then (s.letGo n o).budgetCheck else s.letGo n o := by
      rw [State.budgetCheckInDeficit, reported]
    rcases state with state | state
    · rw [State.endClaim, state]
      exact congrArg State.consider checked
    · rw [State.endClaim, state]
      exact congrArg State.consider checked

end Sys2Proof.Machine

namespace Sys2Proof.Machine

/-! ### Claims that are let go one after another (R50, R59, R78, R79)

A station change and the loss of a link each let a list of claims go. What the operations make of the state is kept here for
the claims let go so far, with the outcome that each has ended with; what they send is told by each operation. -/

/-- A notice that stands in a link's set. -/
abbrev Noticed (t : State) (l : Link) (k : Notice) : Prop := (t.link l).notices &&& k.bit ≠ 0

theorem Notice.bit_ne_zero (k : Notice) : k.bit ≠ 0 := by cases k <;> decide

theorem noticed_addNotice_self (s : State) (l : Link) (k : Notice) : Noticed (s.addNotice l k) l k := by
  simp only [Noticed, State.addNotice, onLink_link]
  intro none_
  have bits : ((s.link l).notices &&& k.bit) ||| k.bit = 0 := by
    rwa [BitVec.and_or_distrib_right, BitVec.and_self] at none_
  exact k.bit_ne_zero (BitVec.or_eq_zero_iff.1 bits).2

theorem Noticed.addNotice {s : State} {m : Link} {j : Notice} (h : Noticed s m j) (l : Link) (k : Notice) :
    Noticed (s.addNotice l k) m j := by
  by_cases same : m = l
  case pos =>
    subst same
    simp only [Noticed, State.addNotice, onLink_link]
    intro none_
    rw [BitVec.and_or_distrib_right] at none_
    exact h (BitVec.or_eq_zero_iff.1 none_).1
  case neg => rwa [Noticed, State.addNotice, onLink_link_of_ne _ _ same]

/-- From u to t the claims listed have been let go, each with its outcome. -/
structure LetsGo (u t : State) (done : List (Fin 24 × Ending)) : Prop where
  laws : ClaimTableLaws t
  gone : ∀ p ∈ done, t.claim p.1 = (u.claim p.1).freed p.2
  stays : ∀ n : Fin 24, n ∉ done.map Prod.fst → t.claim n = u.claim n
  queue : t.alw.queue = u.alw.queue.filter fun n => n ∉ done.map Prod.fst
  line : t.alw.line = u.alw.line.filter fun m => m.claim ∉ done.map Prod.fst
  alw : t.alw = { u.alw with
    claims := t.alw.claims, queue := t.alw.queue, line := t.alw.line, budgetRaised := t.alw.budgetRaised }
  noticed : ∀ p ∈ done, endsQuietly p.2 = false → Noticed t (holderOf p.1) .claimEnded
  links : NoticesOnly u t
  frame : t = { u with alw := t.alw, links := t.links, transit := t.transit }

theorem LetsGo.none {u : State} (laws : ClaimTableLaws u) : LetsGo u u [] where
  laws := laws
  gone _ h := absurd h (by simp)
  stays _ _ := rfl
  queue := by simp
  line := by simp
  alw := rfl
  noticed _ h := absurd h (by simp)
  links := .refl u
  frame := rfl

/-- An operation on the messages and the budget mark alone lets no claim go. -/
theorem LetsGo.passes {u t v : State} {done : List (Fin 24 × Ending)} (h : LetsGo u t done)
    (alw : v.alw = { t.alw with budgetRaised := v.alw.budgetRaised }) (links : v.links = t.links)
    (frame : v = { t with alw := v.alw, links := v.links, transit := v.transit }) : LetsGo u v done := by
  have claims : v.alw.claims = t.alw.claims := by rw [alw]
  have queue : v.alw.queue = t.alw.queue := by rw [alw]
  have line : v.alw.line = t.alw.line := by rw [alw]
  have claim (n : Fin 24) : v.claim n = t.claim n := by rw [State.claim, claims, State.claim]
  have link (l : Link) : v.link l = t.link l := by rw [State.link, links, State.link]
  refine ⟨claimTableLaws_congr claims queue line h.laws, fun p hp => (claim _).trans (h.gone p hp),
    fun n hn => (claim n).trans (h.stays n hn), queue.trans h.queue, line.trans h.line, ?_,
    fun p hp loud => ?_, fun l => ?_, ?_⟩
  · rw [claims, queue, line, alw, h.alw]
  · rw [Noticed, link]; exact h.noticed p hp loud
  · rw [link]; exact h.links l
  · rw [frame, h.frame]

/-! ### One claim let go (R42, R50) -/

/-- The empty report goes out when the last mark leaves the line. -/
def emptied (before after : List Mark) : List Instr :=
  if before ≠ [] ∧ after = [] then [.leadLineReport .empty] else []

theorem emptied_self (line : List Mark) : emptied line line = [] := if_neg fun h => h.1 h.2

theorem emptied_append {a b c : List Mark} (ab : a = [] → b = []) (bc : b = [] → c = []) :
    emptied a b ++ emptied b c = emptied a c := by
  by_cases ha : a = [] <;> by_cases hb : b = [] <;> by_cases hc : c = [] <;> simp_all [emptied]

section
variable {t : State} {n : Fin 24}

/-- Where the claims, the queue and the line agree, a claim let go leaves both, whatever its state. -/
theorem letGo_alw_of_laws (o : Ending) (laws : ClaimTableLaws t) (live : (t.claim n).state ≠ .free) :
    (t.letGo n o).alw =
      { t.alw with
        claims := t.alw.claims.set n ((t.claim n).freed o)
        queue := t.alw.queue.erase n
        line := t.alw.line.filter fun m => m.claim ≠ n } := by
  obtain ⟨queue, line, -⟩ := laws
  rw [((lettingAClaimGo t n o).2 live).1]
  by_cases waiting : (t.claim n).state = .waiting
  · rw [filter_of_not_pending line (by simp [waiting])]
    simp [waiting, Claim.freed]
  · by_cases pending : (t.claim n).state = .pending
    · rw [erase_of_not_waiting queue waiting]
      simp [pending, Claim.freed]
    · rw [erase_of_not_waiting queue waiting, filter_of_not_pending line pending]
      simp [waiting, pending, Claim.freed]

/-- R50: the up step of a carried claim, or the empty report of the last mark. -/
theorem letGo_transit (o : Ending) (laws : ClaimTableLaws t) (live : (t.claim n).state ≠ .free) :
    (t.letGo n o).transit =
      t.transit ++ ((if (t.claim n).state = .carried then [.upStep (t.claim n).committed] else [])
        ++ emptied t.alw.line (t.alw.line.filter fun m => m.claim ≠ n)) := by
  obtain ⟨-, line, -⟩ := laws
  rw [((lettingAClaimGo t n o).2 live).1]
  by_cases pending : (t.claim n).state = .pending
  · simp [pending, emptied]
  · rw [filter_of_not_pending line pending, emptied_self]
    simp [pending]

theorem letGo_noticed (o : Ending) (live : (t.claim n).state ≠ .free) (loud : endsQuietly o = false) :
    Noticed (t.letGo n o) (holderOf n) .claimEnded := by
  have not_ : ¬ (o = .withdrawn ∨ o = .released) := fun h => by rw [(endsQuietly_iff o).2 h] at loud; cases loud
  rw [((lettingAClaimGo t n o).2 live).1]
  simp only [not_, if_false]
  exact noticed_addNotice_self t _ _

theorem Noticed.letGo {l : Link} {k : Notice} (h : Noticed t l k) (o : Ending) (live : (t.claim n).state ≠ .free) :
    Noticed (t.letGo n o) l k := by
  rw [((lettingAClaimGo t n o).2 live).1]
  by_cases quiet : o = .withdrawn ∨ o = .released
  · simp only [quiet, if_true]; exact h
  · simp only [quiet, if_false]; exact h.addNotice _ _

theorem letGo_frame (o : Ending) (live : (t.claim n).state ≠ .free) :
    t.letGo n o =
      { t with alw := (t.letGo n o).alw, links := (t.letGo n o).links, transit := (t.letGo n o).transit } := by
  rw [((lettingAClaimGo t n o).2 live).1]

end

/-- One more claim is let go. -/
theorem LetsGo.letGo {u t : State} {done : List (Fin 24 × Ending)} {n : Fin 24} (h : LetsGo u t done) (o : Ending)
    (new : n ∉ done.map Prod.fst) (live : (u.claim n).state ≠ .free) : LetsGo u (t.letGo n o) (done ++ [(n, o)]) := by
  have found : t.claim n = u.claim n := h.stays n new
  have awake : (t.claim n).state ≠ .free := by rwa [found]
  have alw := letGo_alw_of_laws o h.laws awake
  have nodup : t.alw.queue.Nodup := h.laws.1.2.1
  have member (m : Fin 24) : m ∈ (done ++ [(n, o)]).map Prod.fst ↔ m ∈ done.map Prod.fst ∨ m = n := by
    rw [List.map_append, List.mem_append, List.map_singleton, List.mem_singleton]
  refine ⟨claimTableLaws_letGo n o h.laws, fun p hp => ?gone, fun m hm => ?stays, ?queue, ?line, ?alw,
    fun p hp loud => ?noticed, h.links.trans (letGo_noticesOnly t n o), ?frame⟩
  case gone =>
    rcases List.mem_append.1 hp with hp | hp
    · have other : p.1 ≠ n := fun e => new (e ▸ List.mem_map_of_mem hp)
      rw [letGo_claim_of_ne t o other, h.gone p hp]
    · obtain rfl := List.mem_singleton.1 hp
      rw [letGo_claim t o awake, found]
  case stays =>
    obtain ⟨old, other⟩ := not_or.1 (mt (member m).2 hm)
    rw [letGo_claim_of_ne t o other, h.stays m old]
  case queue =>
    rw [alw, nodup.erase_eq_filter, h.queue, List.filter_filter]
    exact List.filter_congr fun m _ => by
      rw [Bool.eq_iff_iff]
      simp only [Bool.and_eq_true, decide_eq_true_eq, bne_iff_ne, member, not_or, and_comm]
  case line =>
    rw [alw, h.line, List.filter_filter]
    exact List.filter_congr fun m _ => by
      rw [Bool.eq_iff_iff]
      simp only [Bool.and_eq_true, decide_eq_true_eq, member, not_or, and_comm]
  case alw => rw [alw, h.alw]
  case noticed =>
    rcases List.mem_append.1 hp with hp | hp
    · exact (h.noticed p hp loud).letGo o awake
    · obtain rfl := List.mem_singleton.1 hp
      exact letGo_noticed o awake loud
  case frame =>
    rw [letGo_frame o awake, h.frame]

/-- The line that has been left empty stays empty. -/
theorem LetsGo.line_nil {u t : State} {done : List (Fin 24 × Ending)} (h : LetsGo u t done) (empty : u.alw.line = []) :
    t.alw.line = [] := by
  rw [h.line, empty]; rfl

end Sys2Proof.Machine

namespace Sys2Proof.Machine

/-! ### Entry to BLACK at the claims (R79) -/

/-- What the cancelling of a claim sends besides the empty report. -/
def cancelSends (u : State) (n : Fin 24) : List Instr :=
  (if (u.claim n).state = .carried then [.upStep (u.claim n).committed] else [])
    ++ if (u.claim n).state = .free then [] else endingReport n .cancelled

/-- The claims of a list that are cancelled. -/
def cancelled (u : State) (ns : List (Fin 24)) : List (Fin 24 × Ending) :=
  (ns.filter fun n => (u.claim n).state ≠ .free).map fun n => (n, .cancelled)

theorem mem_cancelled (u : State) (ns : List (Fin 24)) (n : Fin 24) :
    n ∈ (cancelled u ns).map Prod.fst ↔ n ∈ ns ∧ (u.claim n).state ≠ .free := by
  simp [cancelled]

/-- The claims of a list, each cancelled in turn. -/
theorem cancelClaims_spec {u : State} (laws : ClaimTableLaws u) (ns : List (Fin 24)) (nodup : ns.Nodup) :
    LetsGo u (ns.foldl State.cancelClaim u) (cancelled u ns)
      ∧ ∃ sent, (ns.foldl State.cancelClaim u).transit = u.transit ++ sent
        ∧ sent.Perm (ns.flatMap (cancelSends u) ++ emptied u.alw.line (ns.foldl State.cancelClaim u).alw.line) := by
  induction ns using List.reverseRecOn with
  | nil => exact ⟨.none laws, [], by simp, by simp [emptied_self]⟩
  | append_singleton ns n ih =>
    obtain ⟨nodupInit, -, apart⟩ := List.nodup_append.1 nodup
    have fresh : n ∉ ns := fun mem => apart n mem n (by simp) rfl
    obtain ⟨lets, sent, transit, perm⟩ := ih nodupInit
    rw [List.foldl_append, List.foldl_cons, List.foldl_nil]
    generalize ns.foldl State.cancelClaim u = t at lets transit perm ⊢
    have found : t.claim n = u.claim n := lets.stays n fun mem => fresh ((mem_cancelled u ns n).1 mem).1
    by_cases free : (u.claim n).state = .free
    case pos =>
      have same : t.cancelClaim n = t := if_pos (by rw [found, free])
      have list : cancelled u (ns ++ [n]) = cancelled u ns := by simp [cancelled, free]
      rw [same, list]
      exact ⟨lets, sent, transit, by simpa [cancelSends, free] using perm⟩
    case neg =>
      have awake : (t.claim n).state ≠ .free := by rwa [found]
      have effect : t.cancelClaim n = (t.letGo n .cancelled).sendAll (endingReport n .cancelled) := if_neg awake
      have list : cancelled u (ns ++ [n]) = cancelled u ns ++ [(n, .cancelled)] := by simp [cancelled, free]
      have new : n ∉ (cancelled u ns).map Prod.fst := fun mem => fresh ((mem_cancelled u ns n).1 mem).1
      have after := (lets.letGo .cancelled new free)
      have left : (t.letGo n .cancelled).alw.line = t.alw.line.filter fun m => m.claim ≠ n := by
        rw [letGo_alw_of_laws _ lets.laws awake]
      rw [effect, list]
      refine ⟨after.passes rfl rfl rfl, sent ++ ((if (u.claim n).state = .carried then [.upStep (u.claim n).committed] else [])
        ++ emptied t.alw.line (t.letGo n .cancelled).alw.line ++ endingReport n .cancelled), ?_, ?_⟩
      · rw [State.sendAll, letGo_transit _ lets.laws awake, transit, found, left]
        simp only [List.append_assoc]
      · have joined : emptied u.alw.line t.alw.line ++ emptied t.alw.line (t.letGo n .cancelled).alw.line =
            emptied u.alw.line (t.letGo n .cancelled).alw.line :=
          emptied_append lets.line_nil fun empty => by rw [left, empty]; rfl
        rw [List.flatMap_append, List.flatMap_singleton, sendAll_alw, ← joined, cancelSends, if_neg free]
        rw [List.perm_iff_count] at perm ⊢
        intro i
        have counted := perm i
        simp only [List.count_append] at counted ⊢
        omega

/-! ### Entry to DEFICIT at the claims (R78, R88, R125) -/

/-- A message that is not about the budget. -/
abbrev NotBudget (i : Instr) : Prop := i ≠ .budgetRaiseRequest ∧ i ≠ .budgetClearRequest

/-- R88: the check sends at most a request, and leaves everything but its mark. -/
theorem budgetCheck_sends (t : State) :
    ∃ b : List Instr, t.budgetCheck.transit = t.transit ++ b ∧ ∀ i ∈ b, i = .budgetRaiseRequest ∨ i = .budgetClearRequest := by
  unfold State.budgetCheck
  split
  · split
    · exact ⟨[.budgetClearRequest], rfl, by simp⟩
    · exact ⟨[], by simp, by simp⟩
  · split
    · exact ⟨[], by simp, by simp⟩
    · exact ⟨[.budgetRaiseRequest], rfl, by simp⟩

theorem budgetCheckInDeficit_sends (t : State) :
    ∃ b : List Instr, t.budgetCheckInDeficit.transit = t.transit ++ b
      ∧ ∀ i ∈ b, i = .budgetRaiseRequest ∨ i = .budgetClearRequest := by
  unfold State.budgetCheckInDeficit
  split
  · exact budgetCheck_sends t
  · exact ⟨[], by simp, by simp⟩

theorem budgetCheck_frame (t : State) :
    t.budgetCheck.alw = { t.alw with budgetRaised := t.budgetCheck.alw.budgetRaised } ∧ t.budgetCheck.links = t.links
      ∧ t.budgetCheck =
        { t with alw := t.budgetCheck.alw, links := t.budgetCheck.links, transit := t.budgetCheck.transit } := by
  unfold State.budgetCheck
  split <;> split <;> exact ⟨rfl, rfl, rfl⟩

theorem LetsGo.budgetCheck {u t : State} {done : List (Fin 24 × Ending)} (h : LetsGo u t done) :
    LetsGo u t.budgetCheck done := by
  obtain ⟨alw, links, frame⟩ := budgetCheck_frame t
  exact h.passes alw links frame

theorem LetsGo.budgetCheckInDeficit {u t : State} {done : List (Fin 24 × Ending)} (h : LetsGo u t done) :
    LetsGo u t.budgetCheckInDeficit done := by
  unfold State.budgetCheckInDeficit
  split
  · exact h.budgetCheck
  · exact h

theorem mem_endingReport {n : Fin 24} {o : Ending} {i : Instr} (h : i ∈ endingReport n o) :
    NotBudget i ∧ ∀ m e, i ≠ .endRequest m e := by
  unfold endingReport at h
  split at h
  · cases h
  · rw [List.mem_singleton] at h; subst h; simp [NotBudget]
  · rw [List.mem_singleton] at h; subst h; simp [NotBudget]

theorem mem_emptied {a b : List Mark} {i : Instr} (h : i ∈ emptied a b) : i = .leadLineReport .empty := by
  unfold emptied at h
  split at h
  · exact List.mem_singleton.1 h
  · cases h

/-- The outcome of a mark: SHED where the end request of a shed step is on its way. -/
def markEnding (u : State) (n : Fin 24) : Ending := if .endRequest n .shed ∈ u.transit then .shed else .cancelled

/-- What the cancelling of a mark sends besides the empty report and the budget requests. -/
def markSends (u : State) (n : Fin 24) : List Instr :=
  if .endRequest n .shed ∈ u.transit then [] else endingReport n .cancelled

/-- A line that is empty once some claims have gone is empty once more have. -/
theorem LetsGo.line_nil_of {u t v : State} {done more : List (Fin 24 × Ending)} (k : LetsGo u v (done ++ more))
    (h : LetsGo u t done) (empty : t.alw.line = []) : v.alw.line = [] := by
  rw [k.line, List.filter_eq_nil_iff]
  intro m mem
  have gone := List.filter_eq_nil_iff.1 (h.line.symm.trans empty) m mem
  rw [decide_eq_true_eq, not_not] at gone ⊢
  rw [List.map_append]
  exact List.mem_append_left _ gone

theorem mem_markSends {u : State} {n : Fin 24} {i : Instr} (h : i ∈ markSends u n) :
    NotBudget i ∧ ∀ m e, i ≠ .endRequest m e := by
  unfold markSends at h
  split at h
  · cases h
  · exact mem_endingReport h

/-- What a mark's cancelling sends is not about the budget, and no end request. -/
theorem mem_markSent {u : State} {n : Fin 24} {a b : List Mark} {i : Instr} (h : i ∈ emptied a b ++ markSends u n) :
    NotBudget i ∧ ∀ m e, i ≠ .endRequest m e := by
  rcases List.mem_append.1 h with h | h
  · rw [mem_emptied h]; simp [NotBudget]
  · exact mem_markSends h

theorem LetsGo.cancelMark {u t : State} {done : List (Fin 24 × Ending)} {n : Fin 24} (h : LetsGo u t done)
    (new : n ∉ done.map Prod.fst) (pending : (u.claim n).state = .pending)
    (sent : .endRequest n .shed ∈ t.transit ↔ Instr.endRequest n .shed ∈ u.transit) :
    LetsGo u (t.cancelMark n) (done ++ [(n, markEnding u n)])
      ∧ (t.cancelMark n).transit =
        t.transit.erase (.endRequest n .shed) ++ (emptied t.alw.line (t.cancelMark n).alw.line ++ markSends u n) := by
  have found : t.claim n = u.claim n := h.stays n new
  have state : (t.claim n).state = .pending := by rw [found, pending]
  have live : (t.claim n).state ≠ .free := by simp [state]
  by_cases shed : Instr.endRequest n .shed ∈ u.transit
  case pos =>
    have arrived : LetsGo u (t.arrive (.endRequest n .shed)) done := h.passes rfl rfl rfl
    have ending : markEnding u n = .shed := if_pos shed
    rw [cancelMark_shed t (sent.2 shed), ending]
    refine ⟨arrived.letGo .shed new (by simp [pending]), ?_⟩
    rw [letGo_transit .shed arrived.laws live, letGo_alw_of_laws .shed arrived.laws live, markSends, if_pos shed]
    rw [arrive_claim, if_neg (by simp [state]), List.nil_append, List.append_nil]
    rfl
  case neg =>
    have ending : markEnding u n = .cancelled := if_neg shed
    have effect : t.cancelClaim n = (t.letGo n .cancelled).sendAll (endingReport n .cancelled) := if_neg live
    rw [cancelMark_cancelled t (mt sent.1 shed), ending, effect, List.erase_of_not_mem (mt sent.1 shed)]
    refine ⟨(h.letGo .cancelled new (by simp [pending])).passes rfl rfl rfl, ?_⟩
    rw [State.sendAll, letGo_transit .cancelled h.laws live, letGo_alw_of_laws .cancelled h.laws live, markSends,
      if_neg shed]
    simp [state]

/-- The claims of a list, each mark of theirs cancelled in turn with its budget check. -/
theorem cancelMarks_fold {u : State} (laws : ClaimTableLaws u) (ns : List (Fin 24)) (nodup : ns.Nodup)
    (pending : ∀ n ∈ ns, (u.claim n).state = .pending) :
    let t := ns.foldl (fun t n => (t.cancelMark n).budgetCheckInDeficit) u
    LetsGo u t (ns.map fun n => (n, markEnding u n))
      ∧ ∃ sent, t.transit = u.transit.diff (ns.map fun n => .endRequest n .shed) ++ sent
        ∧ (∀ i ∈ sent, ∀ m e, i ≠ .endRequest m e)
        ∧ (sent.filter fun i => NotBudget i).Perm (ns.flatMap (markSends u) ++ emptied u.alw.line t.alw.line) := by
  induction ns using List.reverseRecOn with
  | nil => exact ⟨.none laws, [], by simp, by simp, by simp [emptied_self]⟩
  | append_singleton ns n ih =>
    obtain ⟨nodupInit, -, apart⟩ := List.nodup_append.1 nodup
    have fresh : n ∉ ns := fun mem => apart n mem n (by simp) rfl
    obtain ⟨lets, sent, transit, requests, perm⟩ := ih nodupInit fun m hm => pending m (by simp [hm])
    dsimp only
    rw [List.foldl_append, List.foldl_cons, List.foldl_nil]
    generalize ns.foldl (fun t n => (t.cancelMark n).budgetCheckInDeficit) u = t at lets transit perm ⊢
    have new : n ∉ (ns.map fun n => (n, markEnding u n)).map Prod.fst := by simpa using fresh
    have other : Instr.endRequest n .shed ∉ ns.map fun n => Instr.endRequest n .shed := by simpa using fresh
    have quiet : Instr.endRequest n .shed ∉ sent := fun mem => requests _ mem n .shed rfl
    have shed : .endRequest n .shed ∈ t.transit ↔ Instr.endRequest n .shed ∈ u.transit := by
      rw [transit, List.mem_append, or_iff_left quiet]
      exact ⟨fun mem => List.diff_subset _ _ mem, fun mem => List.mem_diff_of_mem mem other⟩
    have left : t.transit.erase (.endRequest n .shed) =
        u.transit.diff ((ns ++ [n]).map fun n => Instr.endRequest n .shed) ++ sent := by
      rw [transit, List.map_append, List.map_singleton, List.diff_append, List.diff_cons, List.diff_nil, List.erase_append,
        List.erase_of_not_mem quiet]
      split
      next => rfl
      next absent => rw [List.erase_of_not_mem absent]
    obtain ⟨marked, sends⟩ := lets.cancelMark new (pending n (by simp)) shed
    obtain ⟨b, checked, budget⟩ := budgetCheckInDeficit_sends (t.cancelMark n)
    have line : (t.cancelMark n).budgetCheckInDeficit.alw.line = (t.cancelMark n).alw.line :=
      marked.budgetCheckInDeficit.line.trans marked.line.symm
    rw [List.map_append, List.map_singleton]
    refine ⟨marked.budgetCheckInDeficit, sent ++ (emptied t.alw.line (t.cancelMark n).alw.line ++ markSends u n) ++ b,
      ?transit, ?requests, ?perm⟩
    case transit => rw [checked, sends, left, List.map_append, List.map_singleton]; simp only [List.append_assoc]
    case requests =>
      intro i mem m e
      rcases List.mem_append.1 mem with mem | mem
      · rcases List.mem_append.1 mem with mem | mem
        · exact requests i mem m e
        · exact (mem_markSent mem).2 m e
      · rcases budget i mem with rfl | rfl <;> simp
    case perm =>
      have kept : (emptied t.alw.line (t.cancelMark n).alw.line ++ markSends u n).filter (fun i => NotBudget i) =
          emptied t.alw.line (t.cancelMark n).alw.line ++ markSends u n :=
        List.filter_eq_self.2 fun i mem => decide_eq_true (mem_markSent mem).1
      have dropped : b.filter (fun i => NotBudget i) = [] :=
        List.filter_eq_nil_iff.2 fun i mem => by rcases budget i mem with rfl | rfl <;> simp [NotBudget]
      have joined : emptied u.alw.line t.alw.line ++ emptied t.alw.line (t.cancelMark n).alw.line =
          emptied u.alw.line (t.cancelMark n).alw.line :=
        emptied_append (c := (t.cancelMark n).alw.line) lets.line_nil (marked.line_nil_of lets)
      rw [List.filter_append, List.filter_append, kept, dropped, List.append_nil, List.flatMap_append,
        List.flatMap_singleton, line, ← joined]
      rw [List.perm_iff_count] at perm ⊢
      intro i
      have counted := perm i
      simp only [List.count_append] at counted ⊢
      omega

end Sys2Proof.Machine

namespace Sys2Proof.Machine

/-! ### The report of a station change at the claims (R77 to R80) -/

theorem allowanceReportEffect_black {r : StateReport} (s : State) (h : r.entered = .black) :
    allowanceReportEffect r s = (s.withReport { state := r.entered, reasons := r.reasons }).cancelAll.sync := by
  unfold allowanceReportEffect; rw [h]; rfl

theorem allowanceReportEffect_warming {r : StateReport} (s : State) (h : r.entered = .warming) :
    allowanceReportEffect r s = s.withReport { state := r.entered, reasons := r.reasons } := by
  unfold allowanceReportEffect; rw [h]; rfl

theorem allowanceReportEffect_deficit {r : StateReport} (s : State) (h : r.entered = .deficit) :
    allowanceReportEffect r s = (s.withReport { state := r.entered, reasons := r.reasons }).cancelMarks.sync := by
  unfold allowanceReportEffect; rw [h]; rfl

theorem allowanceReportEffect_running {r : StateReport} (s : State) (h : r.entered = .regulating ∨ r.entered = .runaway) :
    allowanceReportEffect r s = (s.withReport { state := r.entered, reasons := r.reasons }).consider := by
  unfold allowanceReportEffect; rcases h with h | h <;> rw [h] <;> rfl

/-- What a station change leaves of the other blocks once the contactor timings have been judged. -/
theorem sync_frame {u t : State} (frame : t = { u with alw := t.alw, links := t.links, transit := t.transit }) :
    t.sync =
        { u with
          alw := t.sync.alw, links := t.sync.links, transit := t.sync.transit, fdr := t.sync.fdr, saw := t.sync.saw }
      ∧ t.sync.saw.state = u.saw.state ∧ ∀ k : Fin 12, (t.sync.feeder k).state = (u.feeder k).state := by
  have fdr : t.fdr = u.fdr := by rw [frame]
  have saw : t.saw = u.saw := by rw [frame]
  have state : t.sync.saw.state = t.saw.state := rfl
  refine ⟨?_, state.trans (congrArg SawUnit.state saw), fun k => ?_⟩
  · conv_lhs => rw [frame]
    conv_rhs => rw [frame]
    rfl
  · have timed : t.sync.feeder k = feederTimings (t.feeder k) (t.feederDriven k) t.pins.fb[k] t.clock := feeder_syncFeeders t k
    rw [timed, feederTimings_eq, State.feeder, fdr, State.feeder]

theorem need_of_alw {s t : State} (alw : t.alw = s.alw) : t.need = s.need := by
  simp [State.need, State.hSum, State.wSum, State.sSum, State.committedOf, State.claim, alw]

theorem claim_sync (s : State) (n : Fin 24) : s.sync.claim n = s.claim n := by rw [State.claim, sync_alw, State.claim]

theorem link_sync (s : State) (l : Link) : s.sync.link l = s.link l := by rw [State.link, sync_links, State.link]

theorem noticed_sync {s : State} {l : Link} {k : Notice} (h : Noticed s l k) : Noticed s.sync l k := by
  rwa [Noticed, link_sync]

/-- R88: after the check the mark tells whether the bands fit. -/
theorem budgetCheck_mark (s : State) : s.budgetCheck.alw.budgetRaised = false ↔ s.budgetCheck.need ≤ s.budgetCheck.alw.bands.c := by
  have needs : s.budgetCheck.need = s.need := by
    simp [State.need, State.hSum, State.wSum, State.sSum, State.committedOf]
  rw [needs, budgetCheck_bands]
  rcases Nat.lt_or_ge s.alw.bands.c s.need with exceeds | fits
  · have raised : s.budgetCheck.alw.budgetRaised = true := by
      cases mark : s.alw.budgetRaised with
      | false => rw [budgetCheck_raises exceeds mark]; rfl
      | true => rw [budgetCheck_stands exceeds mark, mark]
    simp [raised, Nat.not_le.2 exceeds]
  · have clear : s.budgetCheck.alw.budgetRaised = false := by
      cases mark : s.alw.budgetRaised with
      | false => rw [budgetCheck_idle fits mark, mark]
      | true => rw [budgetCheck_clears fits mark]; rfl
    simp [clear, fits]

/-- The other blocks and the links after a station change: the contactor timings and the notices alone. -/
abbrev ChangeFrame (u t : State) : Prop :=
  t = { u with alw := t.alw, links := t.links, transit := t.transit, fdr := t.fdr, saw := t.saw }
    ∧ t.saw.state = u.saw.state ∧ (∀ k : Fin 12, (t.feeder k).state = (u.feeder k).state) ∧ NoticesOnly u t

theorem emptied_nil (line : List Mark) : emptied line [] = if line = [] then [] else [.leadLineReport .empty] := by
  by_cases empty : line = [] <;> simp [emptied, empty]

/-- R79: what entry to BLACK makes of the claims. -/
theorem cancelAll_outcome {u : State} (laws : ClaimTableLaws u) :
    let t := u.cancelAll.sync
    t.alw = { u.alw with claims := t.alw.claims, queue := [], line := [], stale := true, budgetRaised := false }
      ∧ (∀ n : Fin 24, (u.claim n).state ≠ .free →
          t.claim n = (u.claim n).freed .cancelled ∧ Noticed t (holderOf n) .claimEnded)
      ∧ (∀ n : Fin 24, (u.claim n).state = .free → t.claim n = u.claim n)
      ∧ (∃ sent, t.transit = u.transit ++ sent
          ∧ sent.Perm (allClaims.flatMap (cancelSends u) ++ if u.alw.line = [] then [] else [.leadLineReport .empty]))
      ∧ ChangeFrame u t := by
  obtain ⟨lets, sent, transit, perm⟩ := cancelClaims_spec laws allClaims (by decide)
  obtain ⟨⟨-, -, waiting⟩, ⟨-, -, pending, -⟩, -⟩ := laws
  rw [cancelAll_eq]
  generalize allClaims.foldl State.cancelClaim u = t at lets transit perm ⊢
  have member (n : Fin 24) : n ∈ (cancelled u allClaims).map Prod.fst ↔ (u.claim n).state ≠ .free := by
    rw [mem_cancelled, and_iff_right (mem_allClaims n)]
  have mem {n : Fin 24} (live : (u.claim n).state ≠ .free) : (n, Ending.cancelled) ∈ cancelled u allClaims := by
    simpa [cancelled, mem_allClaims] using live
  have queue : t.alw.queue = [] := by
    rw [lets.queue, List.filter_eq_nil_iff]
    intro n queued
    simp [member, (waiting n).1 queued]
  have line : t.alw.line = [] := by
    rw [lets.line, List.filter_eq_nil_iff]
    intro m mark
    simp [member, (pending m.claim).1 (List.mem_map_of_mem mark)]
  have stale : t.markStale =
      { u with alw := t.markStale.alw, links := t.markStale.links, transit := t.markStale.transit } := by
    conv_lhs => rw [lets.frame]
    rfl
  obtain ⟨frame, saw, feeders⟩ := sync_frame stale
  dsimp only
  refine ⟨?alw, fun n live => ⟨lets.gone _ (mem live), lets.noticed _ (mem live) rfl⟩,
    fun n free => lets.stays n (by simp [member, free]), ⟨sent, transit, ?sent⟩, frame, saw, feeders, lets.links⟩
  case alw =>
    rw [sync_alw, State.markStale, lets.alw, queue, line]
  case sent => rwa [line, emptied_nil] at perm

/-- R78, R88: what entry to DEFICIT makes of the claims. -/
theorem cancelMarks_outcome {u : State} (laws : ClaimTableLaws u) :
    let t := u.cancelMarks.sync
    t.alw = { u.alw with claims := t.alw.claims, line := [], budgetRaised := t.alw.budgetRaised }
      ∧ (t.alw.budgetRaised = false ↔ t.need ≤ t.alw.bands.c)
      ∧ (∀ n : Fin 24, (u.claim n).state = .pending →
          t.claim n = (u.claim n).freed (markEnding u n) ∧ Noticed t (holderOf n) .claimEnded)
      ∧ (∀ n : Fin 24, (u.claim n).state ≠ .pending → t.claim n = u.claim n)
      ∧ (∃ sent, t.transit = u.transit.diff (u.alw.line.map fun m => .endRequest m.claim .shed) ++ sent
          ∧ (sent.filter fun i => NotBudget i).Perm
            ((u.alw.line.flatMap fun m => markSends u m.claim)
              ++ if u.alw.line = [] then [] else [.leadLineReport .empty]))
      ∧ ChangeFrame u t := by
  have ⟨⟨_, _, waiting⟩, ⟨_, nodup, pending, _⟩, _⟩ := laws
  obtain ⟨lets, sent, transit, -, perm⟩ := cancelMarks_fold laws _ nodup fun n mem => (pending n).1 mem
  rw [State.cancelMarks]
  generalize (u.alw.line.map Mark.claim).foldl (fun t n => (t.cancelMark n).budgetCheckInDeficit) u = t
    at lets transit perm ⊢
  obtain ⟨b, checked, budget⟩ := budgetCheck_sends t
  have after := lets.budgetCheck
  have member (n : Fin 24) :
      n ∈ ((u.alw.line.map Mark.claim).map fun n => (n, markEnding u n)).map Prod.fst ↔ (u.claim n).state = .pending := by
    rw [List.map_map, ← pending n]
    simp
  have mem {n : Fin 24} (marked : (u.claim n).state = .pending) :
      (n, markEnding u n) ∈ (u.alw.line.map Mark.claim).map fun n => (n, markEnding u n) :=
    List.mem_map_of_mem ((pending n).2 marked)
  have queue : t.budgetCheck.alw.queue = u.alw.queue := by
    rw [after.queue, List.filter_eq_self]
    intro n queued
    rw [decide_eq_true_eq, member, (waiting n).1 queued]
    decide
  have line : t.budgetCheck.alw.line = [] := by
    rw [after.line, List.filter_eq_nil_iff]
    intro m mark
    rw [decide_eq_true_eq, not_not, member, (pending m.claim).1 (List.mem_map_of_mem mark)]
  have loud (n : Fin 24) : endsQuietly (markEnding u n) = false := by unfold markEnding; split <;> rfl
  obtain ⟨frame, saw, feeders⟩ := sync_frame after.frame
  dsimp only
  refine ⟨?alw, by rw [need_of_alw (sync_alw _), sync_alw]; exact budgetCheck_mark t,
    fun n marked => ⟨(claim_sync _ n).trans (after.gone _ (mem marked)),
      noticed_sync (after.noticed _ (mem marked) (loud n))⟩,
    fun n free => (claim_sync _ n).trans (after.stays n (mt (member n).1 free)), ⟨sent ++ b, ?transit, ?sent⟩, frame, saw, feeders, fun l => ?links⟩
  case alw =>
    rw [sync_alw]
    conv_lhs => rw [after.alw, queue, line]
  case links => rw [link_sync]; exact after.links l
  case transit => rw [sync_transit, checked, transit, List.append_assoc, List.map_map]; rfl
  case sent =>
    have dropped : b.filter (fun i => NotBudget i) = [] :=
      List.filter_eq_nil_iff.2 fun i mem => by rcases budget i mem with rfl | rfl <;> simp [NotBudget]
    have emptiedLine : t.alw.line = [] := by rw [← budgetCheck_line, line]
    rw [emptiedLine, emptied_nil, List.flatMap_map] at perm
    rwa [List.filter_append, dropped, List.append_nil]

/-- Settles O36: entry to BLACK by `cancelAll_outcome`, entry to DEFICIT by `cancelMarks_outcome`. -/
theorem stationChangeAtTheClaims : Obligations.StationChangeAtTheClaims := by
  intro r s held laws
  have reported : ClaimTableLaws ((s.arrive (.allowanceStateReport r)).withReport { state := r.entered, reasons := r.reasons }) :=
    claimTableLaws_congr rfl rfl rfl laws
  refine ⟨fun running => exec_arrival rfl held (allowanceReportEffect_running _ running),
    fun warming => exec_arrival rfl held (allowanceReportEffect_warming _ warming), fun deficit => ?deficit,
    fun black => ?black⟩
  case black =>
    refine completes_arrival rfl held ?_
    rw [allowanceReportEffect_black _ black]
    exact cancelAll_outcome reported
  case deficit =>
    refine completes_arrival rfl held ?_
    rw [allowanceReportEffect_deficit _ deficit]
    obtain ⟨alw, mark, gone, stays, ⟨sent, transit, perm⟩, frame⟩ := cancelMarks_outcome reported
    have shed (n : Fin 24) : Instr.endRequest n .shed ∈ s.transit.erase (.allowanceStateReport r) ↔
        .endRequest n .shed ∈ s.transit := List.mem_erase_of_ne (by simp)
    have sends (n : Fin 24) : markSends ((s.arrive (.allowanceStateReport r)).withReport
        { state := r.entered, reasons := r.reasons }) n =
          if .endRequest n .shed ∈ s.transit then [] else endingReport n .cancelled := if_congr (shed n) rfl rfl
    simp only [sends] at perm
    refine ⟨alw, mark, fun n pending => ?_, stays, ⟨sent, transit, perm⟩, frame⟩
    obtain ⟨ended, noticed⟩ := gone n pending
    refine ⟨noticed, fun absent => ?_, fun present => ?_⟩
    · exact ended.trans (congrArg _ (if_neg (mt (shed n).1 absent)))
    · exact ended.trans (congrArg _ (if_pos ((shed n).2 present)))

end Sys2Proof.Machine

namespace Sys2Proof.Machine

/-! ### The loss of a link at the claims (R59, R75, R88) -/

/-- The claims of a list that a lost link gives up. -/
def lostOf (u : State) (ns : List (Fin 24)) : List (Fin 24 × Ending) :=
  (ns.filter fun n => (u.claim n).state = .waiting ∨ (u.claim n).state = .pending).map fun n => (n, .linkLost)

theorem mem_lostOf (u : State) (ns : List (Fin 24)) (n : Fin 24) :
    n ∈ (lostOf u ns).map Prod.fst ↔ n ∈ ns ∧ ((u.claim n).state = .waiting ∨ (u.claim n).state = .pending) := by
  simp [lostOf]

/-- What has been sent while claims were given up, and the budget mark. -/
structure LossSends (u t : State) (sent : List Instr) : Prop where
  transit : t.transit = u.transit ++ sent
  kinds : ∀ i ∈ sent, i = .leadLineReport .empty ∨ i = .budgetRaiseRequest ∨ i = .budgetClearRequest
  empties : sent.filter (fun i => decide (i = .leadLineReport .empty)) = emptied u.alw.line t.alw.line
  quiet : u.reported ≠ .deficit ∨ t.alw.line = u.alw.line →
    sent = emptied u.alw.line t.alw.line ∧ t.alw.budgetRaised = u.alw.budgetRaised
  checked : u.reported = .deficit → t.alw.line ≠ u.alw.line → (t.alw.budgetRaised = true ↔ t.alw.bands.c < t.need)

theorem filter_emptied (a b : List Mark) :
    (emptied a b).filter (fun i => decide (i = .leadLineReport .empty)) = emptied a b :=
  List.filter_eq_self.2 fun _ mem => decide_eq_true (mem_emptied mem)

/-- A claim that had committed nothing leaves the common need. -/
theorem need_letGo_of_waiting {t : State} {n : Fin 24} (o : Ending) (laws : ClaimTableLaws t)
    (waiting : (t.claim n).state = .waiting) : (t.letGo n o).need = t.need := by
  have live : (t.claim n).state ≠ .free := by simp [waiting]
  have same (m : Fin 24) : ((t.letGo n o).claim m).committed = (t.claim m).committed := by
    by_cases self : m = n
    · subst self
      rw [letGo_claim t o live, committed_of_free_or_waiting (.inl rfl), committed_of_free_or_waiting (.inr waiting)]
    · rw [letGo_claim_of_ne t o self]
  have bands : (t.letGo n o).alw.bands = t.alw.bands := by rw [letGo_alw_of_laws o laws live]
  exact Nat.le_antisymm (need_le bands fun m => (same m).le) (need_le bands.symm fun m => (same m).ge)

section
variable {u t : State} {done : List (Fin 24 × Ending)} {n : Fin 24} {sent : List Instr}

/-- A claim that waits leaves the line, the need and the messages. -/
theorem LossSends.waiting (h : LossSends u t sent) (laws : ClaimTableLaws t) (waiting : (t.claim n).state = .waiting) :
    LossSends u (t.letGo n .linkLost) sent := by
  have live : (t.claim n).state ≠ .free := by simp [waiting]
  have alw := letGo_alw_of_laws .linkLost laws live
  have line : (t.letGo n .linkLost).alw.line = t.alw.line := by
    rw [alw]; exact filter_of_not_pending laws.2.1 (by simp [waiting])
  have mark : (t.letGo n .linkLost).alw.budgetRaised = t.alw.budgetRaised := by rw [alw]
  have bands : (t.letGo n .linkLost).alw.bands = t.alw.bands := by rw [alw]
  have transit : (t.letGo n .linkLost).transit = t.transit := by
    rw [letGo_transit _ laws live, filter_of_not_pending laws.2.1 (by simp [waiting]), emptied_self]
    simp [waiting]
  refine ⟨transit.trans h.transit, h.kinds, by rw [line]; exact h.empties, fun quiet => ?_, fun deficit moved => ?_⟩
  · rw [line, mark]; exact h.quiet (by rwa [line] at quiet)
  · rw [mark, bands, need_letGo_of_waiting _ laws waiting]
    exact h.checked deficit (by rwa [line] at moved)

/-- A claim on the line leaves with the empty report, if it was the last, and with a budget check in DEFICIT. -/
theorem LossSends.pending (h : LossSends u t sent) (lets : LetsGo u t done) (new : n ∉ done.map Prod.fst)
    (laws : ClaimTableLaws u) (pending : (u.claim n).state = .pending) :
    ∃ sent, LossSends u (t.letGo n .linkLost).budgetCheckInDeficit sent := by
  have found : t.claim n = u.claim n := lets.stays n new
  have state : (t.claim n).state = .pending := by rw [found, pending]
  have live : (t.claim n).state ≠ .free := by simp [state]
  have after := lets.letGo .linkLost new (by simp [pending])
  have transit : (t.letGo n .linkLost).transit = t.transit ++ emptied t.alw.line (t.letGo n .linkLost).alw.line := by
    rw [letGo_transit _ lets.laws live, letGo_alw_of_laws _ lets.laws live, if_neg (by simp [state]), List.nil_append]
  have joined : emptied u.alw.line t.alw.line ++ emptied t.alw.line (t.letGo n .linkLost).alw.line =
      emptied u.alw.line (t.letGo n .linkLost).alw.line :=
    emptied_append (c := (t.letGo n .linkLost).alw.line) lets.line_nil (after.line_nil_of lets)
  have moved : (t.letGo n .linkLost).alw.line ≠ u.alw.line := by
    intro same
    obtain ⟨m, mem, rfl⟩ := List.mem_map.1 ((laws.2.1.2.2.1 n).2 pending)
    have kept := List.filter_eq_self.1 (after.line.symm.trans same) m mem
    simp at kept
  have raised : (t.letGo n .linkLost).alw.budgetRaised = t.alw.budgetRaised := by rw [letGo_alw_of_laws _ lets.laws live]
  have reported : (t.letGo n .linkLost).reported = u.reported := by rw [letGo_reported, State.reported, lets.alw]
  have filtered : (sent ++ emptied t.alw.line (t.letGo n .linkLost).alw.line).filter
      (fun i => decide (i = .leadLineReport .empty)) = emptied u.alw.line (t.letGo n .linkLost).alw.line := by
    rw [List.filter_append, h.empties, filter_emptied, joined]
  generalize t.letGo n .linkLost = v at *
  by_cases deficit : u.reported = .deficit
  case pos =>
    have check : v.budgetCheckInDeficit = v.budgetCheck := if_pos (reported.trans deficit)
    obtain ⟨b, sends, budget⟩ := budgetCheck_sends v
    have dropped : b.filter (fun i => decide (i = .leadLineReport .empty)) = [] :=
      List.filter_eq_nil_iff.2 fun i mem => by rcases budget i mem with rfl | rfl <;> simp
    rw [check]
    refine ⟨sent ++ emptied t.alw.line v.alw.line ++ b, ?_, fun i mem => ?_, ?_, fun quiet => ?_, fun _ _ => ?_⟩
    · rw [sends, transit, h.transit]; simp only [List.append_assoc]
    · rcases List.mem_append.1 mem with mem | mem
      · rcases List.mem_append.1 mem with mem | mem
        · exact h.kinds i mem
        · exact .inl (mem_emptied mem)
      · exact .inr (budget i mem)
    · rw [List.filter_append, filtered, dropped, List.append_nil, budgetCheck_line]
    · rw [budgetCheck_line] at quiet
      exact absurd quiet (not_or.2 ⟨not_not_intro deficit, moved⟩)
    · rw [← Bool.not_eq_false, budgetCheck_mark, Nat.not_le]
  case neg =>
    have check : v.budgetCheckInDeficit = v := if_neg fun e => deficit (reported.symm.trans e)
    obtain ⟨only, mark⟩ := h.quiet (.inl deficit)
    rw [check]
    refine ⟨sent ++ emptied t.alw.line v.alw.line, ?_, fun i mem => ?_, filtered, fun _ => ⟨?_, raised.trans mark⟩,
      fun e => absurd e deficit⟩
    · rw [transit, h.transit, List.append_assoc]
    · rcases List.mem_append.1 mem with mem | mem
      · exact h.kinds i mem
      · exact .inl (mem_emptied mem)
    · rw [only, joined]

end

/-- The claims of a list, each given up in turn where it waits or stands on the line. -/
theorem loseClaims_fold {u : State} (laws : ClaimTableLaws u) (ns : List (Fin 24)) (nodup : ns.Nodup) :
    LetsGo u (ns.foldl State.loseClaim u) (lostOf u ns) ∧ ∃ sent, LossSends u (ns.foldl State.loseClaim u) sent := by
  induction ns using List.reverseRecOn with
  | nil =>
    exact ⟨.none laws, [], by simp, by simp, by simp [emptied_self], fun _ => ⟨(emptied_self _).symm, rfl⟩,
      fun _ moved => absurd rfl moved⟩
  | append_singleton ns n ih =>
    obtain ⟨nodupInit, -, apart⟩ := List.nodup_append.1 nodup
    have fresh : n ∉ ns := fun mem => apart n mem n (by simp) rfl
    obtain ⟨lets, sent, sends⟩ := ih nodupInit
    rw [List.foldl_append, List.foldl_cons, List.foldl_nil]
    generalize ns.foldl State.loseClaim u = t at lets sends ⊢
    have new : n ∉ (lostOf u ns).map Prod.fst := fun mem => fresh ((mem_lostOf u ns n).1 mem).1
    have found : t.claim n = u.claim n := lets.stays n new
    cases state : (u.claim n).state with
    | free | carried =>
      have same : t.loseClaim n = t := by rw [State.loseClaim, found, state]
      have list : lostOf u (ns ++ [n]) = lostOf u ns := by simp [lostOf, state]
      rw [same, list]
      exact ⟨lets, sent, sends⟩
    | waiting =>
      have effect : t.loseClaim n = t.letGo n .linkLost := by rw [State.loseClaim, found, state]
      have list : lostOf u (ns ++ [n]) = lostOf u ns ++ [(n, .linkLost)] := by simp [lostOf, state]
      rw [effect, list]
      exact ⟨lets.letGo .linkLost new (by simp [state]), sent, sends.waiting lets.laws (by rw [found, state])⟩
    | pending =>
      have effect : t.loseClaim n = (t.letGo n .linkLost).budgetCheckInDeficit := by rw [State.loseClaim, found, state]
      have list : lostOf u (ns ++ [n]) = lostOf u ns ++ [(n, .linkLost)] := by simp [lostOf, state]
      rw [effect, list]
      exact ⟨(lets.letGo .linkLost new (by simp [state])).budgetCheckInDeficit, sends.pending lets new laws state⟩

theorem freeClaims_nodup (l : Link) : (freeClaims l).Nodup := by cases l <;> decide

theorem holderOf_of_freeClaims {l : Link} {n : Fin 24} (h : n ∈ freeClaims l) : holderOf n = l := by
  have table : ∀ n ∈ freeClaims l, holderOf n = l := by cases l <;> decide
  exact table n h

/-- The state once the claims of a lost link have been given up, and before the head is considered. -/
def State.linkGone (s : State) (l : Link) : State :=
  (freeClaims l).foldl State.loseClaim { s with alw := { s.alw with stale := s.alw.stale || l = .l1 } }

theorem linkLossAllowanceEffect_eq (l : Link) (s : State) :
    linkLossAllowanceEffect l s =
      if (s.linkGone l).alw.queue.head? = s.alw.queue.head? ∧ (s.linkGone l).alw.line = s.alw.line then s.linkGone l
      else (s.linkGone l).consider := by
  unfold linkLossAllowanceEffect State.linkGone
  rfl

/-- R85: the loss of L1 sets STALE. -/
def State.linkStale (s : State) (l : Link) : State := { s with alw := { s.alw with stale := s.alw.stale || l = .l1 } }

theorem linkGone_spec {s : State} (laws : ClaimTableLaws s) (l : Link) :
    LetsGo (s.linkStale l) (s.linkGone l) (lostOf (s.linkStale l) (freeClaims l))
      ∧ ∃ sent, LossSends (s.linkStale l) (s.linkGone l) sent :=
  loseClaims_fold (u := s.linkStale l) (claimTableLaws_congr rfl rfl rfl laws) (freeClaims l) (freeClaims_nodup l)

/-- Settles O37: `loseClaims_fold` over the free claims of the link. -/
theorem linkLossAtTheClaims : Obligations.LinkLossAtTheClaims := by
  intro l s held laws
  obtain ⟨lets, sent, sends⟩ :=
    linkGone_spec (s := s.arrive (.linkLossReportAllowance l)) (claimTableLaws_congr rfl rfl rfl laws) l
  refine ⟨(s.arrive (.linkLossReportAllowance l)).linkGone l, exec_arrival rfl held (linkLossAllowanceEffect_eq l _), ?_⟩
  generalize (s.arrive (.linkLossReportAllowance l)).linkGone l = t at lets sends ⊢
  have member (n : Fin 24) := mem_lostOf ((s.arrive (.linkLossReportAllowance l)).linkStale l) (freeClaims l) n
  have mem {n : Fin 24} (lost : n ∈ freeClaims l ∧ ((s.claim n).state = .waiting ∨ (s.claim n).state = .pending)) :
      (n, Ending.linkLost) ∈ lostOf ((s.arrive (.linkLossReportAllowance l)).linkStale l) (freeClaims l) :=
    List.mem_map_of_mem (List.mem_filter.2 ⟨lost.1, decide_eq_true lost.2⟩)
  refine ⟨lets.alw, lets.queue ▸ List.filter_sublist, lets.line ▸ List.filter_sublist, lets.links,
    fun n lost => ⟨lets.gone _ (mem lost), ?noticed⟩, fun n kept => lets.stays n (mt (member n).1 kept), fun n => ?queue, fun m => ?line, ⟨?quiet, ?deficit⟩, lets.frame⟩
  case noticed =>
    have noticed := lets.noticed _ (mem lost) rfl
    rwa [Noticed, holderOf_of_freeClaims lost.1] at noticed
  case queue =>
    rw [lets.queue, List.mem_filter, decide_eq_true_eq, member]
    rfl
  case line =>
    rw [lets.line, List.mem_filter, decide_eq_true_eq, member]
    rfl
  case quiet =>
    intro quiet
    obtain ⟨only, mark⟩ := sends.quiet quiet
    exact ⟨sends.transit.trans (congrArg _ only), mark⟩
  case deficit =>
    intro deficit moved
    exact ⟨sends.checked deficit moved, sent, sends.transit, sends.kinds, sends.empties⟩

end Sys2Proof.Machine

namespace Sys2Proof.Machine

/-! ### The feeder that an order names (R106, R107) -/

theorem feederNumbered_succ (k : Fin 12) : feederNumbered (k.val + 1) = some k := by
  simp [feederNumbered, Nat.succ_le_of_lt k.isLt]

theorem feederNumbered_none {k : Nat} (h : k = 0 ∨ 12 < k) : feederNumbered k = none := by
  unfold feederNumbered
  rw [dif_neg (by omega)]

theorem feederOrderCheck_succ (k : Fin 12) : feederOrderCheck .l3 (k.val + 1) = .ok k := by
  simp [feederOrderCheck, feederNumbered_succ]

theorem feederOrderCheck_elsewhere {l : Link} (k : Nat) (h : l ≠ .l3) : feederOrderCheck l k = .error .notYourField :=
  if_pos h

theorem feederOrderCheck_unknown {k : Nat} (h : k = 0 ∨ 12 < k) : feederOrderCheck .l3 k = .error .badOperand := by
  simp [feederOrderCheck, feederNumbered_none h]

section
variable {s t : State} {k : Fin 12} {st : Status}

theorem exec_feederOn (held : s.held = false) (h : (s.arrive (.feederOn .l3 (k.val + 1))).feederOn k = (t, st)) :
    exec (.feederOn .l3 (k.val + 1)) s = .next (t.answer .l3 0x40 st) :=
  exec_arrival rfl held (by rw [feederOnEffect, feederOrderCheck_succ]; simp only [h])

theorem exec_feederOff (held : s.held = false) (h : (s.arrive (.feederOff .l3 (k.val + 1))).feederOff k = (t, st)) :
    exec (.feederOff .l3 (k.val + 1)) s = .next (t.answer .l3 0x41 st) :=
  exec_arrival rfl held (by rw [feederOffEffect, feederOrderCheck_succ]; simp only [h])

theorem exec_feederClear (held : s.held = false) (h : (s.arrive (.feederClear .l3 (k.val + 1))).feederClear k = (t, st)) :
    exec (.feederClear .l3 (k.val + 1)) s = .next (t.answer .l3 0x42 st) :=
  exec_arrival rfl held (by rw [feederClearEffect, feederOrderCheck_succ]; simp only [h])

end

/-- A feeder order whose check fails is answered with the check's status. -/
theorem feederOrders_refused {s : State} {l : Link} {k : Nat} {st : Status} (held : s.held = false)
    (check : feederOrderCheck l k = .error st) :
    AnsweredOnly (.feederOn l k) l 0x40 st s ∧ AnsweredOnly (.feederOff l k) l 0x41 st s
      ∧ AnsweredOnly (.feederClear l k) l 0x42 st s :=
  ⟨exec_arrival rfl held (by rw [feederOnEffect, check]), exec_arrival rfl held (by rw [feederOffEffect, check]),
    exec_arrival rfl held (by rw [feederClearEffect, check])⟩

/-! ### FEEDER ON (R49, R106) -/

section
variable {s : State} {k : Fin 12}

theorem requestFeeder_ok (h : s.claimRequestStatus (feederClaim k) (s.feederConfig k).rating none = .ok) :
    s.requestFeeder k =
      (s.acceptClaim (feederClaim k) (s.feederConfig k).rating none none (s.feederConfig k).leadTime (some 300) (.feeder k)
        (k.val + 1), .ok) := by
  unfold State.requestFeeder
  simp only [h]
  rfl

theorem requestFeeder_refused (h : s.claimRequestStatus (feederClaim k) (s.feederConfig k).rating none ≠ .ok) :
    s.requestFeeder k = (s, s.claimRequestStatus (feederClaim k) (s.feederConfig k).rating none) := by
  unfold State.requestFeeder
  dsimp only
  split
  next ok => exact absurd ok h
  next => rfl

theorem feederOn_unconfigured (h : (s.feederConfig k).rating = 0) : s.feederOn k = (s, .badOperand) := if_pos h

theorem feederOn_not_off (configured : (s.feederConfig k).rating ≠ 0) (h : (s.feeder k).state ≠ .off) :
    s.feederOn k = (s, .wrongState) := (if_neg configured).trans (if_pos h)

theorem feederOn_refused (configured : (s.feederConfig k).rating ≠ 0) (off : (s.feeder k).state = .off)
    (h : s.claimRequestStatus (feederClaim k) (s.feederConfig k).rating none ≠ .ok) :
    s.feederOn k = (s, s.claimRequestStatus (feederClaim k) (s.feederConfig k).rating none) := by
  rw [State.feederOn, if_neg configured, if_neg (not_not_intro off), requestFeeder_refused h]
  split
  next heq => exact absurd (congrArg Prod.snd heq) h
  next heq => exact heq.symm

theorem feederOn_ok (configured : (s.feederConfig k).rating ≠ 0) (off : (s.feeder k).state = .off)
    (h : s.claimRequestStatus (feederClaim k) (s.feederConfig k).rating none = .ok) :
    s.feederOn k =
      ((s.acceptClaim (feederClaim k) (s.feederConfig k).rating none none (s.feederConfig k).leadTime (some 300) (.feeder k)
        (k.val + 1)).setFeeder k { s.feeder k with state := .waiting, restoring := false }, .ok) := by
  rw [State.feederOn, if_neg configured, if_neg (not_not_intro off), requestFeeder_ok h]

end

/-- Settles O38: FEEDER ON by the configuration, the feeder's state and the claim request's status. -/
theorem feederOnMakesItsClaim : Obligations.FeederOnMakesItsClaim := by
  refine ⟨fun k s held => ?on, fun l k s held => ⟨fun other => feederOrders_refused held (feederOrderCheck_elsewhere k other),
    fun unknown => ?unknown⟩⟩
  case on =>
    have request := arrive_claimRequestStatus s (i := .feederOn .l3 (k.val + 1)) (by simp) (feederClaim k)
      (s.feederConfig k).rating none
    refine ⟨fun absent => exec_feederOn held (feederOn_unconfigured absent),
      fun configured state => exec_feederOn held (feederOn_not_off configured state),
      fun configured off refused => ?_, fun configured off ok => ?_⟩
    · have effect := feederOn_refused (s := s.arrive (.feederOn .l3 (k.val + 1))) configured off (by rw [arrive_feederConfig, request]; exact refused)
      rw [arrive_feederConfig, request] at effect
      exact exec_feederOn held effect
    · exact exec_feederOn held (feederOn_ok configured off (by rw [arrive_feederConfig, request]; exact ok))
  case unknown =>
    obtain ⟨on, off, clear⟩ := feederOrders_refused (s := s) held (feederOrderCheck_unknown unknown)
    exact ⟨on, off, clear, exec_arrival rfl held (by rw [readFeederEffect, feederNumbered_none unknown])⟩

/-! ### FEEDER OFF and FEEDER CLEAR (R105, R107, R129) -/

/-- R129: the cursor of a restoring feeder that has left its wait goes to STAGGER. -/
theorem releaseCursor_eq (s : State) (k : Fin 12) :
    s.releaseCursor k =
      { s with
        fdr :=
          { s.fdr with
            cursor :=
              if s.fdr.cursor = .restoring k then .stagger (s.clock + 10 * s.set.tables.thresholds.stagger)
              else s.fdr.cursor } } := by
  have tenths : Config.tenths s.set.tables.thresholds.stagger = 10 * s.set.tables.thresholds.stagger := Nat.mul_comm _ _
  unfold State.releaseCursor State.startStagger
  rw [tenths]
  split <;> rfl

theorem FeederState.isFault_iff (st : FeederState) : st.isFault = true ↔ ∃ kind, st = .fault kind := by
  cases st <;> simp [FeederState.isFault]

section
variable {s : State} {k : Fin 12}

theorem feederOff_waits (h : (s.feeder k).state = .waiting ∨ (s.feeder k).state = .pending) :
    s.feederOff k =
      (State.releaseCursor
        ((s.send (.endRequest (feederClaim k) .withdrawn)).setFeeder k
          { s.feeder k with state := .off, close := false, restoring := false }) k, .ok) := by
  rcases h with h | h <;> simp only [State.feederOff, h]

theorem feederOff_on (h : (s.feeder k).state = .on) :
    s.feederOff k =
      (State.syncFeeders
        ((s.send (.endRequest (feederClaim k) .released)).setFeeder k
          { s.feeder k with state := .off, close := false, restoring := false }), .ok) := by
  simp only [State.feederOff, h]

theorem feederOff_shed (h : (s.feeder k).state = .shed) :
    s.feederOff k = (s.setFeeder k { s.feeder k with state := .off, close := false, restoring := false }, .ok) := by
  simp only [State.feederOff, h]

theorem feederOff_refused (h : (s.feeder k).state = .off ∨ (s.feeder k).state = .locked ∨ (s.feeder k).state.isFault = true) :
    s.feederOff k = (s, .wrongState) := by
  rcases h with h | h | h
  · simp only [State.feederOff, h]
  · simp only [State.feederOff, h]
  · obtain ⟨kind, h⟩ := (FeederState.isFault_iff _).1 h
    simp only [State.feederOff, h]

theorem feederClear_unlocks (h : (s.feeder k).state = .locked) (key : s.set.key = .keyLocal) :
    s.feederClear k = (s.setFeeder k { s.feeder k with state := .off, history := [] }, .ok) := by
  simp only [State.feederClear, h, key, if_true]

theorem feederClear_keyRequired (h : (s.feeder k).state = .locked) (key : s.set.key = .keyRemote) :
    s.feederClear k = (s, .keyRequired) := by
  simp only [State.feederClear, h, key, reduceCtorEq, if_false]

theorem feederClear_open (h : (s.feeder k).state.isFault = true) (open_ : s.pins.fb[k] = false) :
    s.feederClear k = ((s.setFeeder k { s.feeder k with state := .off }).syncFeeders, .ok) := by
  obtain ⟨kind, h⟩ := (FeederState.isFault_iff _).1 h
  simp only [State.feederClear, h, open_, Bool.false_eq_true, if_false]

theorem feederClear_closed (h : (s.feeder k).state.isFault = true) (closed : s.pins.fb[k] = true) :
    s.feederClear k = (s, .wrongState) := by
  obtain ⟨kind, h⟩ := (FeederState.isFault_iff _).1 h
  simp only [State.feederClear, h, closed, if_true]

theorem feederClear_refused (notLocked : (s.feeder k).state ≠ .locked) (sound : (s.feeder k).state.isFault = false) :
    s.feederClear k = (s, .wrongState) := by
  unfold State.feederClear
  dsimp only
  split
  next locked => exact absurd locked notLocked
  next kind fault => rw [fault] at sound; cases sound
  all_goals rfl

end

/-- Settles O39: each order by the feeder's state. -/
theorem feederOffAndClear : Obligations.FeederOffAndClear := by
  intro k s held
  refine ⟨fun waits => ?_, fun on => exec_feederOff held (feederOff_on (s := s.arrive _) on),
    fun shed => exec_feederOff held (feederOff_shed (s := s.arrive _) shed),
    fun refused => exec_feederOff held (feederOff_refused (s := s.arrive _) refused),
    fun locked key => exec_feederClear held (feederClear_unlocks (s := s.arrive _) locked key),
    fun locked key => exec_feederClear held (feederClear_keyRequired (s := s.arrive _) locked key),
    fun fault open_ => exec_feederClear held (feederClear_open (s := s.arrive _) fault open_),
    fun fault closed => exec_feederClear held (feederClear_closed (s := s.arrive _) fault closed),
    fun notLocked sound => exec_feederClear held (feederClear_refused (s := s.arrive _) notLocked sound)⟩
  have effect := feederOff_waits (s := s.arrive (.feederOff .l3 (k.val + 1))) waits
  rw [releaseCursor_eq] at effect
  exact exec_feederOff held effect

end Sys2Proof.Machine

namespace Sys2Proof.Machine

/-! ### The reports of a feeder's claim (R105, R108, R129) -/

section
variable {s : State} {k : Fin 12}

/-- R108: the carried report of a feeder that waits. -/
theorem feederCarriedEffect_waits (h : (s.feeder k).state = .waiting ∨ (s.feeder k).state = .pending) :
    feederCarriedEffect k s =
      State.syncFeeders
        { s with
          fdr :=
            { s.fdr with
              feeders := s.fdr.feeders.set k { s.feeder k with state := .on, close := true, restoring := false }
              cursor :=
                if s.fdr.cursor = .restoring k then .stagger (s.clock + 10 * s.set.tables.thresholds.stagger)
                else s.fdr.cursor }
          links := if (s.feeder k).restoring then (s.addNotice .l3 .feeder).links else s.links } := by
  unfold feederCarriedEffect
  dsimp only
  rw [if_pos h, releaseCursor_eq]
  split <;> rfl

theorem feederCarriedEffect_elsewhere (h : ¬ ((s.feeder k).state = .waiting ∨ (s.feeder k).state = .pending)) :
    feederCarriedEffect k s = s := if_neg h

/-- R108: which endings move a feeder, and whether it goes to SHED. -/
theorem feederEndingEffect_waits {o : Ending} (h : (s.feeder k).state = .waiting ∨ (s.feeder k).state = .pending)
    (ended : o = .expired ∨ o = .cancelled) :
    feederEndingEffect k o s = s.feederLetGo k ((s.feeder k).restoring || (s.feederConfig k).autoRestore) := by
  unfold feederEndingEffect
  rcases h with h | h <;> simp only [h, ended, if_true]

theorem feederEndingEffect_on (h : (s.feeder k).state = .on) :
    feederEndingEffect k .cancelled s = s.feederLetGo k (s.feederConfig k).autoRestore := by
  simp only [feederEndingEffect, h, if_true]

theorem feederEndingEffect_elsewhere {o : Ending}
    (waits : ¬ (((s.feeder k).state = .waiting ∨ (s.feeder k).state = .pending) ∧ (o = .expired ∨ o = .cancelled)))
    (on : ¬ ((s.feeder k).state = .on ∧ o = .cancelled)) : feederEndingEffect k o s = s := by
  unfold feederEndingEffect
  dsimp only
  split
  next h => exact if_neg fun ended => waits ⟨.inl h, ended⟩
  next h => exact if_neg fun ended => waits ⟨.inr h, ended⟩
  next h => exact if_neg fun ended => on ⟨h, ended⟩
  all_goals rfl

/-- What an ending makes of the feeder before the cursor is looked at. -/
theorem dropFeeder_eq (s : State) (k : Fin 12) (toShed : Bool) :
    s.dropFeeder k toShed =
      { s with
        fdr :=
          { s.fdr with
            feeders :=
              s.fdr.feeders.set k
                { s.feeder k with state := if toShed then .shed else .off, close := false, restoring := false } }
        links := (s.addNotice .l3 .feeder).links } := rfl

theorem feederLetGo_chooses {toShed : Bool} (ready : s.fdr.cursor = .ready) (shed : toShed = true) :
    s.feederLetGo k toShed = (s.dropFeeder k toShed).restorationChoice.syncFeeders := by
  rw [feederLetGo_eq, if_pos ⟨ready, shed⟩]

theorem feederLetGo_releases {toShed : Bool} (h : ¬ (s.fdr.cursor = .ready ∧ toShed = true)) :
    s.feederLetGo k toShed = ((s.dropFeeder k toShed).releaseCursor k).syncFeeders := by
  rw [feederLetGo_eq, if_neg h]

end

/-- Settles O40: each report by the feeder's state, and an ending by where the cursor stands. -/
theorem feederReportsMoveTheFeeder : Obligations.FeederReportsMoveTheFeeder := by
  intro k s held
  refine ⟨fun waiting => exec_arrival (f := feederAdmissionEffect k) rfl held (if_pos waiting),
    fun other => exec_arrival (f := feederAdmissionEffect k) rfl held (if_neg other),
    fun waits => exec_arrival rfl held (feederCarriedEffect_waits (s := s.arrive _) waits),
    fun idle => exec_arrival rfl held (feederCarriedEffect_elsewhere (s := s.arrive _) idle), fun o => ?ending⟩
  case ending =>
    have moves (acts : ((s.feeder k).state = .waiting ∨ (s.feeder k).state = .pending) ∧ (o = .expired ∨ o = .cancelled)
          ∨ (s.feeder k).state = .on ∧ o = .cancelled) :
        feederEndingEffect k o (s.arrive (.feederEndingReport k o)) =
          (s.arrive (.feederEndingReport k o)).feederLetGo k
            (decide ((s.feeder k).state = .waiting ∨ (s.feeder k).state = .pending) && (s.feeder k).restoring
              || (s.feederConfig k).autoRestore) := by
      rcases acts with ⟨waits, ended⟩ | ⟨on, rfl⟩
      · rw [feederEndingEffect_waits (s := s.arrive _) waits ended, decide_eq_true waits, Bool.true_and]
        rfl
      · rw [feederEndingEffect_on (s := s.arrive _) on, decide_eq_false (by simp [on]), Bool.false_and, Bool.false_or]
        rfl
    refine ⟨fun acts ready shed => ?_, fun acts notReady => ?_, fun idle => ?_⟩
    · refine exec_arrival rfl held ((moves acts).trans ?_)
      rw [feederLetGo_chooses (s := s.arrive _) ready shed, dropFeeder_eq]
      rfl
    · refine exec_arrival rfl held ((moves acts).trans ?_)
      rw [feederLetGo_releases (s := s.arrive _) notReady, releaseCursor_eq, dropFeeder_eq]
      rfl
    · exact exec_arrival rfl held (feederEndingEffect_elsewhere (s := s.arrive _) (fun h => idle (.inl h)) fun h => idle (.inr h))

end Sys2Proof.Machine

namespace Sys2Proof.Machine

/-! ### Shed steps (R120, R121, R123, R124) -/

theorem restartStep_eq (s : State) :
    s.restartStep =
      { s with fdr := { s.fdr with step := .running s.clock (10 * s.set.tables.thresholds.shedInterval) false } } := by
  have tenths : Config.tenths s.set.tables.thresholds.shedInterval = 10 * s.set.tables.thresholds.shedInterval :=
    Nat.mul_comm _ _
  rw [State.restartStep, tenths]

theorem find?_first {α : Type} {p : α → Bool} {l before rest : List α} {x : α} (split : l = before ++ x :: rest)
    (none_ : ∀ y ∈ before, p y = false) (found : p x = true) : l.find? p = some x := by
  rw [List.find?_eq_some_iff_append]
  exact ⟨found, before, rest, split, fun y hy => by simp [none_ y hy]⟩

section
variable {s : State}

theorem shedStep_of_no_reason (h : s.reg.reasons = .empty) : s.shedStep = s.restartStep.syncFeeders := by
  simp only [State.shedStep, if_pos h]

theorem shedStep_of_feeder {k : Fin 12} (h : s.reg.reasons ≠ .empty)
    (target : (shedList s.set.tables.shedOrder).find? s.targetEffective = some (.feeder k)) :
    s.shedStep = (s.shedFeeder k).restartStep.syncFeeders := by
  simp only [State.shedStep, if_neg h, target]

theorem shedStep_of_saw {w : SawTarget} (h : s.reg.reasons ≠ .empty)
    (target : (shedList s.set.tables.shedOrder).find? s.targetEffective = some (.saw w)) :
    s.shedStep = (s.send (.shedRequest w)).restartStep.syncFeeders := by
  simp only [State.shedStep, if_neg h, target]

theorem shedStep_of_no_target (h : s.reg.reasons ≠ .empty)
    (target : (shedList s.set.tables.shedOrder).find? s.targetEffective = none) :
    s.shedStep = s.forcedRelease.restartStep.syncFeeders := by
  simp only [State.shedStep, if_neg h, target]

theorem forcedRelease_first {n : Fin 24} (h : forcedOrder.find? (fun n => (s.claim n).state = .carried) = some n) :
    s.forcedRelease = s.send (.endRequest n .forced) := by
  rw [State.forcedRelease, h]

theorem forcedRelease_none (h : forcedOrder.find? (fun n => (s.claim n).state = .carried) = none) : s.forcedRelease = s := by
  rw [State.forcedRelease, h]

/-! ### The marks of the step timing (R120) -/

theorem stepHalfMarkEffect_running {since interval : Nat} (h : s.fdr.step = .running since interval false) :
    stepHalfMarkEffect s =
      if s.belowFast then State.shedStep { s with now := max s.now ((since + interval / 2) * 10000) }
      else
        { s with
          now := max s.now ((since + interval / 2) * 10000)
          fdr := { s.fdr with step := .running since interval true } } := by
  unfold stepHalfMarkEffect
  rw [h]
  rfl

theorem stepHalfMarkEffect_elsewhere (h : ∀ since interval : Nat, s.fdr.step ≠ .running since interval false) :
    stepHalfMarkEffect s = s := by
  unfold stepHalfMarkEffect
  split
  next since interval running => exact absurd running (h since interval)
  all_goals rfl

theorem stepFullMarkEffect_running {since interval : Nat} {half : Bool} (h : s.fdr.step = .running since interval half) :
    stepFullMarkEffect s = State.shedStep { s with now := max s.now ((since + interval) * 10000) } := by
  unfold stepFullMarkEffect
  rw [h]
  rfl

theorem stepFullMarkEffect_stopped (h : s.fdr.step = .stopped) : stepFullMarkEffect s = s := by
  rw [stepFullMarkEffect, h]

/-- R120: the step between the marks. -/
theorem stepBetweenMarks_cases (s : State) :
    let between : Prop :=
      s.belowFast = true ∧ ∃ since interval : Nat, s.fdr.step = .running since interval true ∧ s.clock < since + interval
    (between → s.stepBetweenMarks = s.shedStep) ∧ (¬ between → s.stepBetweenMarks = s) := by
  unfold State.stepBetweenMarks
  constructor
  · rintro ⟨fast, since, interval, running, early⟩
    simp only [running, early, fast, and_self, if_true]
  · intro outside
    split
    next => rfl
    next since interval half running =>
      refine if_neg fun h => outside ?_
      obtain ⟨rfl, early, fast⟩ := h
      exact ⟨fast, since, interval, running, early⟩

end

/-- Settles O41: the first effective target of the list or the first carried free claim, and the marks of the timing. -/
theorem shedStepsAndTheirMarks : Obligations.ShedStepsAndTheirMarks := by
  refine ⟨fun s => ?step, fun s held => ⟨fun since interval running => ⟨fun fast => ?early, fun slow => ?passes⟩,
    fun since interval half running => exec_running rfl held (stepFullMarkEffect_running running),
    fun other => exec_running rfl held (stepHalfMarkEffect_elsewhere other),
    fun stopped => exec_running rfl held (stepFullMarkEffect_stopped stopped)⟩, stepBetweenMarks_cases⟩
  case early => exact exec_running rfl held ((stepHalfMarkEffect_running running).trans (if_pos fast))
  case passes => exact exec_running rfl held ((stepHalfMarkEffect_running running).trans (if_neg (by simp [slow])))
  case step =>
    have again (t : State) := congrArg State.syncFeeders (restartStep_eq t)
    refine ⟨fun empty => (shedStep_of_no_reason empty).trans (again s),
      fun reasons => ⟨fun before rest x split none_ effective => ?target, fun none_ => ?forced⟩⟩
    case target =>
      have first := find?_first split none_ effective
      exact ⟨fun k feeder => (shedStep_of_feeder reasons (feeder ▸ first)).trans (again _),
        fun w saw => (shedStep_of_saw reasons (saw ▸ first)).trans (again _)⟩
    case forced =>
      have noTarget : (shedList s.set.tables.shedOrder).find? s.targetEffective = none := by simpa using none_
      have step := (shedStep_of_no_target reasons noTarget).trans (again _)
      refine ⟨fun before rest n split idle carried => ?_, fun idle => ?_⟩
      · have first : forcedOrder.find? (fun n => decide ((s.claim n).state = .carried)) = some n :=
          find?_first split (fun m hm => by simp [idle m hm]) (by simp [carried])
        rw [forcedRelease_first first] at step
        exact step
      · have noClaim : forcedOrder.find? (fun n => decide ((s.claim n).state = .carried)) = none := by
          rw [List.find?_eq_none]
          exact fun n hn => by simpa using idle n hn
        rw [forcedRelease_none noClaim] at step
        exact step

end Sys2Proof.Machine

namespace Sys2Proof.Machine

/-! ### Targets and what a shed does to a feeder (R113, R114, R118, R119, R122) -/

theorem targetActive_feeder_iff (s : State) (k : Fin 12) :
    s.targetActive (.feeder k) = true ↔
      ((s.feeder k).state = .on ∨ (s.feeder k).state = .waiting ∨ (s.feeder k).state = .pending)
        ∧ .feederEndingReport k .cancelled ∉ s.transit := by
  rw [← cancellationAwaits_iff]
  simp [State.targetActive, or_assoc]

theorem sawTargetActive_feedHold_iff (st : SawState) :
    sawTargetActive .feedHold st = true ↔
      st = .feeding ∨ st = .returning
        ∨ ∃ d : Direction, st = .feedWait d ∨ st = .feedHold .overload d ∨ st = .feedHold .manual d := by
  cases st with
  | feedHold reason d => cases reason <;> simp [sawTargetActive]
  | _ => simp [sawTargetActive]

theorem sawTargetActive_stop_iff (st : SawState) :
    sawTargetActive .stop st = true ↔ st ≠ .stopped ∧ st ≠ .stopping ∧ st.isFault = false := by
  cases st <;> simp [sawTargetActive, SawState.isFault, SawState.motorOn]

theorem lowersNeed_iff (s : State) (x : ShedTarget) :
    s.lowersNeed x = true ↔
      match x with
      | .feeder k => s.alw.bands.h < s.hSum ∧ 0 < (s.claim (feederClaim k)).committed
      | .saw .feedHold => s.alw.bands.w < s.wSum ∧ 0 < (s.claim 5).committed
      | .saw .stop => s.alw.bands.w < s.wSum ∧ 0 < (s.claim 4).committed + (s.claim 5).committed := by
  cases x with
  | feeder k => simp [State.lowersNeed, targetClaims]
  | saw t => cases t <;> simp [State.lowersNeed, targetClaims]

theorem targetEffective_iff (s : State) (x : ShedTarget) :
    s.targetEffective x = true ↔
      s.targetActive x = true
        ∧ (s.reg.reasons.frequency = true ∨ s.reg.reasons.budget = true ∧ s.lowersNeed x = true) := by
  simp [State.targetEffective]

theorem joinHistory_eq (h : List Nat) (t : Nat) : joinHistory h t = (h ++ [t]).drop (h.length + 1 - 3) := by
  unfold joinHistory
  dsimp only
  rw [List.length_append, List.length_singleton]
  split
  next => rfl
  next short => rw [Nat.sub_eq_zero_of_le (Nat.not_lt.1 short), List.drop_zero]

theorem locksOut_iff (s : State) (k : Fin 12) :
    s.locksOut k = true ↔
      (s.feederConfig k).cls = .ordinary
        ∧ s.set.tables.thresholds.lockCount ≤
          ((s.feeder k).history.filter fun t => s.clock ≤ t + 6000 * s.set.tables.thresholds.lockWindow).length + 1 := by
  have minutes : Config.minutes s.set.tables.thresholds.lockWindow = 6000 * s.set.tables.thresholds.lockWindow :=
    Nat.mul_comm _ _
  simp [State.locksOut, minutes]

/-- Settles O42: the tests by their equations, and the state of a feeder that is shed by the lockout of R114. -/
theorem effectiveTargetsAndShedFeeders : Obligations.EffectiveTargetsAndShedFeeders := by
  intro s
  refine ⟨targetActive_feeder_iff s, sawTargetActive_feedHold_iff _, sawTargetActive_stop_iff _, fun x => ?effective,
    fun k => ?shed⟩
  case effective =>
    refine (targetEffective_iff s x).trans (and_congr_right' (or_congr_right (and_congr_right' ?_)))
    cases x with
    | feeder k => exact lowersNeed_iff s (.feeder k)
    | saw t => cases t <;> exact lowersNeed_iff s _
  case shed =>
    refine ⟨if s.locksOut k then .locked else .shed, fun locked => if_pos ((locksOut_iff s k).2 locked),
      fun free => if_neg (mt (locksOut_iff s k).1 free), ?_⟩
    unfold State.shedFeeder
    dsimp only
    rw [joinHistory_eq]
    rfl

/-! ### The choice of a feeder to restore (R126 to R129) -/

/-- R128: of a candidate and the best so far, the one of the lower rank; of equal ranks the one before. -/
def State.lowerRank (s : State) (best : Option (Fin 12)) (k : Fin 12) : Option (Fin 12) :=
  match best with
  | none => some k
  | some b => if (s.feederConfig k).rank < (s.feederConfig b).rank then some k else some b

theorem lowestShed_eq (s : State) :
    s.lowestShed = (allFeeders.filter fun k => (s.feeder k).state = .shed).foldl s.lowerRank none := rfl

/-- R128: k comes before j in the choice. -/
abbrev Outranks (s : State) (k j : Fin 12) : Prop :=
  (s.feederConfig k).rank < (s.feederConfig j).rank
    ∨ (s.feederConfig k).rank = (s.feederConfig j).rank ∧ k.val < j.val

/-- The best of an ascending list is the one that comes before all the others. -/
theorem foldl_lowerRank (s : State) (k : Fin 12) (ks : List (Fin 12)) :
    ∀ b : Fin 12, (b :: ks).Pairwise (· < ·) → k ∈ b :: ks → (∀ j ∈ b :: ks, j ≠ k → Outranks s k j) →
      ks.foldl s.lowerRank (some b) = some k := by
  induction ks with
  | nil =>
    intro b _ mem _
    rw [List.mem_singleton.1 mem]
    rfl
  | cons j js ih =>
    intro b ascending mem best
    obtain ⟨first, later⟩ := List.pairwise_cons.1 ascending
    have before : b < j := first j (by simp)
    rw [List.foldl_cons]
    by_cases lower : (s.feederConfig j).rank < (s.feederConfig b).rank
    case pos =>
      have step : s.lowerRank (some b) j = some j := if_pos lower
      have notFirst : k ≠ b := by
        rintro rfl
        have outranked := best j (by simp) before.ne'
        omega
      rw [step]
      exact ih j later ((List.mem_cons.1 mem).resolve_left notFirst) fun i hi => best i (List.mem_cons_of_mem _ hi)
    case neg =>
      have step : s.lowerRank (some b) j = some b := if_neg lower
      have notNext : k ≠ j := by
        rintro rfl
        have outranked := best b (by simp) before.ne
        have ordered := Fin.lt_def.1 before
        omega
      have kept : k ∈ b :: js := by
        rcases List.mem_cons.1 mem with rfl | mem
        · simp
        · exact List.mem_cons_of_mem _ ((List.mem_cons.1 mem).resolve_left notNext)
      have sub : (b :: js).Sublist (b :: j :: js) := (List.sublist_cons_self j js).cons_cons b
      rw [step]
      exact ih b (ascending.sublist sub) kept fun i hi => best i (sub.subset hi)

theorem mem_shedFeeders (s : State) (k : Fin 12) :
    k ∈ allFeeders.filter (fun k => (s.feeder k).state = .shed) ↔ (s.feeder k).state = .shed := by
  have every : ∀ k : Fin 12, k ∈ allFeeders := by decide
  simp [every]

theorem lowestShed_none {s : State} (h : ∀ k : Fin 12, (s.feeder k).state ≠ .shed) : s.lowestShed = none := by
  have empty : allFeeders.filter (fun k => (s.feeder k).state = .shed) = [] :=
    List.filter_eq_nil_iff.2 fun k _ => by simpa using h k
  rw [lowestShed_eq, empty]
  rfl

theorem lowestShed_some {s : State} {k : Fin 12} (shed : (s.feeder k).state = .shed)
    (best : ∀ j : Fin 12, (s.feeder j).state = .shed → j ≠ k → Outranks s k j) : s.lowestShed = some k := by
  have ascending : allFeeders.Pairwise (· < ·) := by decide
  have sorted := ascending.filter (fun k => (s.feeder k).state = .shed)
  have member := mem_shedFeeders s
  rw [lowestShed_eq]
  generalize allFeeders.filter (fun k => decide ((s.feeder k).state = .shed)) = ks at sorted member ⊢
  cases ks with
  | nil => exact absurd ((member k).2 shed) (by simp)
  | cons b ks =>
    exact foldl_lowerRank s k ks b sorted ((member k).2 shed) fun j hj other => best j ((member j).1 hj) other

theorem startStagger_eq (s : State) :
    s.startStagger =
      { s with fdr := { s.fdr with cursor := .stagger (s.clock + 10 * s.set.tables.thresholds.stagger) } } := by
  have tenths : Config.tenths s.set.tables.thresholds.stagger = 10 * s.set.tables.thresholds.stagger := Nat.mul_comm _ _
  rw [State.startStagger, tenths, State.setCursor]

section
variable {s : State} {k : Fin 12}

theorem restorationChoice_ready (h : s.lowestShed = none) : s.restorationChoice = s.setCursor .ready := by
  rw [State.restorationChoice, h]

theorem restorationChoice_ok (h : s.lowestShed = some k)
    (status : s.claimRequestStatus (feederClaim k) (s.feederConfig k).rating none = .ok) :
    s.restorationChoice =
      ((s.acceptClaim (feederClaim k) (s.feederConfig k).rating none none (s.feederConfig k).leadTime (some 300) (.feeder k)
        (k.val + 1)).setFeeder k { s.feeder k with state := .waiting, restoring := true }).setCursor (.restoring k) := by
  simp only [State.restorationChoice, h, requestFeeder_ok status]

theorem restorationChoice_refused (h : s.lowestShed = some k)
    (status : s.claimRequestStatus (feederClaim k) (s.feederConfig k).rating none ≠ .ok) :
    s.restorationChoice = s.startStagger := by
  simp only [State.restorationChoice, h, requestFeeder_refused status]

theorem restoreHoldEffect_elsewhere (h : ∀ t : Nat, s.fdr.cursor ≠ .hold t) : restoreHoldEffect s = s := by
  unfold restoreHoldEffect
  split
  next t holds => exact absurd holds (h t)
  all_goals rfl

theorem staggerEffect_elsewhere (h : ∀ t : Nat, s.fdr.cursor ≠ .stagger t) : staggerEffect s = s := by
  unfold staggerEffect
  split
  next t runs => exact absurd runs (h t)
  all_goals rfl

end

/-- Settles O43: the choice by `lowestShed_some` and the status of the claim request. -/
theorem restorationChoosesTheLowestRank : Obligations.RestorationChoosesTheLowestRank := by
  intro s
  refine ⟨fun none_ => restorationChoice_ready (lowestShed_none none_), fun k shed best => ⟨fun ok => ?_, fun refused => ?_⟩,
    fun held => ⟨fun t holds => exec_running rfl held (by rw [restoreHoldEffect, holds]; rfl),
      fun t runs => exec_running rfl held (by rw [staggerEffect, runs]; rfl),
      fun other => exec_running rfl held (restoreHoldEffect_elsewhere other),
      fun other => exec_running rfl held (staggerEffect_elsewhere other)⟩⟩
  · exact restorationChoice_ok (lowestShed_some shed best) ok
  · exact (restorationChoice_refused (lowestShed_some shed best) refused).trans (startStagger_eq s)

end Sys2Proof.Machine

namespace Sys2Proof.Machine

/-! ### The report of a station change at the feeders (R115, R120, R127, R130, R131) -/

section
variable {r : StateReport} {s : State}

theorem feederStateReportEffect_black (h : r.entered = .black) : feederStateReportEffect r s = s.feedersAtBlack := by
  rw [feederStateReportEffect, h]

theorem feederStateReportEffect_warming (h : r.entered = .warming) : feederStateReportEffect r s = s := by
  rw [feederStateReportEffect, h]

theorem feederStateReportEffect_deficit (h : r.entered = .deficit) :
    feederStateReportEffect r s = (s.takeRestored.cancelRestoring.setCursor .idle).shedStep := by
  rw [feederStateReportEffect, h]

theorem feederStateReportEffect_regulating (h : r.entered = .regulating) :
    feederStateReportEffect r s =
      { s with
        fdr :=
          { s.fdr with
            step := .stopped
            cursor :=
              if s.fdr.cursor = .idle then .hold (s.clock + 100 * s.set.tables.thresholds.restoreHold)
              else s.fdr.cursor } } := by
  have seconds : Config.seconds s.set.tables.thresholds.restoreHold = 100 * s.set.tables.thresholds.restoreHold :=
    Nat.mul_comm _ _
  rw [feederStateReportEffect, h, ← seconds]
  dsimp only
  split <;> rfl

theorem feederStateReportEffect_runaway_hold {t : Nat} (h : r.entered = .runaway) (holds : s.fdr.cursor = .hold t) :
    feederStateReportEffect r s = s.setCursor .idle := by
  rw [feederStateReportEffect, h]
  simp only [holds]

theorem feederStateReportEffect_runaway_other (h : r.entered = .runaway) (other : ∀ t : Nat, s.fdr.cursor ≠ .hold t) :
    feederStateReportEffect r s = s := by
  rw [feederStateReportEffect, h]
  dsimp only
  split
  next t holds => exact absurd holds (other t)
  all_goals rfl

end

/-! ### A restoring feeder at entry to DEFICIT (R81, R130) -/

section
variable {s : State} {k : Fin 12}

/-- A feeder whose carried report is taken first is ON, and no longer the restoring one. -/
theorem feederCarriedEffect_restored (cursor : s.fdr.cursor = .restoring k)
    (waits : (s.feeder k).state = .waiting ∨ (s.feeder k).state = .pending) :
    ((feederCarriedEffect k s).feeder k).state = .on ∧ ∀ j : Fin 12, (feederCarriedEffect k s).fdr.cursor ≠ .restoring j := by
  rw [feederCarriedEffect_waits waits]
  refine ⟨?_, fun j => ?_⟩
  · rw [feeder_syncFeeders, feederTimings_eq]
    simp [State.feeder]
  · simp [State.syncFeeders, cursor]

theorem cancelRestoring_waits (cursor : s.fdr.cursor = .restoring k)
    (waits : (s.feeder k).state = .waiting ∨ (s.feeder k).state = .pending)
    (kept : .feederEndingReport k .cancelled ∉ s.transit) :
    s.cancelRestoring =
      { s with
        transit := s.transit ++ [.endRequest (feederClaim k) .cancelled]
        fdr := { s.fdr with feeders := s.fdr.feeders.set k { s.feeder k with state := .shed, restoring := false } }
        links := (s.addNotice .l3 .feeder).links } := by
  have alive : s.cancellationAwaits k = false := Bool.eq_false_iff.2 fun h => kept ((cancellationAwaits_iff s k).1 h)
  conv_lhs => simp only [State.cancelRestoring, cursor]
  rw [if_pos ⟨waits, alive⟩]
  rfl

theorem cancelRestoring_left
    (h : ∀ k : Fin 12, s.fdr.cursor = .restoring k →
      ¬ ((s.feeder k).state = .waiting ∨ (s.feeder k).state = .pending) ∨ .feederEndingReport k .cancelled ∈ s.transit) :
    s.cancelRestoring = s := by
  unfold State.cancelRestoring
  split
  next k cursor =>
    refine if_neg fun both => ?_
    obtain ⟨waits, alive⟩ := both
    rcases h k cursor with idle | cancelled
    · exact idle waits
    · rw [(cancellationAwaits_iff s k).2 cancelled] at alive; cases alive
  all_goals rfl

end

/-! ### Entry to BLACK at the feeders (R115) -/

/-- The Feeder Controller in BLACK before its contactor timings are judged. -/
def State.feedersMoved (s : State) : State :=
  { s with
    fdr :=
      { feeders := vec12 fun k => (s.feeder k).atBlack (s.feederConfig k).autoRestore
        cursor := .idle
        step := .stopped } }

theorem feedersAtBlack_eq (s : State) :
    s.feedersAtBlack =
      State.syncFeeders
        (if allFeeders.any fun k => (s.feeder k).state ≠ (s.feedersMoved.feeder k).state then
          s.feedersMoved.addNotice .l3 .feeder
        else s.feedersMoved) := rfl

theorem feedersMoved_feeder (s : State) (k : Fin 12) :
    s.feedersMoved.feeder k = (s.feeder k).atBlack (s.feederConfig k).autoRestore := vec12_get _ k

/-- R115: the row of each state. -/
theorem atBlack_state (f : Feeder) (autoRestore : Bool) :
    let active : Prop := f.state = .on ∨ f.state = .waiting ∨ f.state = .pending ∨ f.state = .shed
    (active → (f.atBlack autoRestore).state = if autoRestore then .shed else .off)
      ∧ (¬ active → (f.atBlack autoRestore).state = f.state) := by
  cases state : f.state <;> simp [Feeder.atBlack, state]

theorem feedersAtBlack_feeder (s : State) (k : Fin 12) :
    (s.feedersAtBlack.feeder k).state = (s.feedersMoved.feeder k).state
      ∧ (s.feedersAtBlack.feeder k).close = false ∧ (s.feedersAtBlack.feeder k).restoring = false
      ∧ (s.feedersAtBlack.feeder k).history = (s.feeder k).history := by
  have moved : ∀ t : State, t.fdr = s.feedersMoved.fdr → (t.syncFeeders.feeder k).state = (s.feedersMoved.feeder k).state
      ∧ (t.syncFeeders.feeder k).close = false ∧ (t.syncFeeders.feeder k).restoring = false
      ∧ (t.syncFeeders.feeder k).history = (s.feeder k).history := by
    intro t same
    have feeder : t.feeder k = s.feedersMoved.feeder k := by rw [State.feeder, same]; rfl
    rw [feeder_syncFeeders, feederTimings_eq, feeder, feedersMoved_feeder]
    exact ⟨rfl, rfl, rfl, rfl⟩
  rw [feedersAtBlack_eq]
  split
  · exact moved _ rfl
  · exact moved _ rfl

theorem feedersAtBlack_links (s : State) :
    ((∃ k : Fin 12, (s.feedersAtBlack.feeder k).state ≠ (s.feeder k).state) →
        s.feedersAtBlack.links = (s.addNotice .l3 .feeder).links)
      ∧ ((∀ k : Fin 12, (s.feedersAtBlack.feeder k).state = (s.feeder k).state) → s.feedersAtBlack.links = s.links) := by
  have every : ∀ k : Fin 12, k ∈ allFeeders := by decide
  have state (k : Fin 12) := (feedersAtBlack_feeder s k).1
  refine ⟨fun ⟨k, moved⟩ => ?_, fun same => ?_⟩
  · have changed : (allFeeders.any fun k => (s.feeder k).state ≠ (s.feedersMoved.feeder k).state) = true :=
      List.any_eq_true.2 ⟨k, every k, by rw [state] at moved; simpa using moved.symm⟩
    rw [feedersAtBlack_eq, if_pos changed]
    rfl
  · have unchanged : ¬ (allFeeders.any fun k => (s.feeder k).state ≠ (s.feedersMoved.feeder k).state) = true := by
      rw [List.any_eq_true]
      rintro ⟨k, -, moved⟩
      rw [decide_eq_true_eq, ← state] at moved
      exact moved (same k).symm
    rw [feedersAtBlack_eq, if_neg unchanged]
    rfl

theorem feedersAtBlack_frame (s : State) :
    s.feedersAtBlack.fdr.cursor = .idle ∧ s.feedersAtBlack.fdr.step = .stopped
      ∧ s.feedersAtBlack = { s with fdr := s.feedersAtBlack.fdr, links := s.feedersAtBlack.links } := by
  rw [feedersAtBlack_eq]
  split <;> exact ⟨rfl, rfl, rfl⟩

theorem ending_arrive (s : State) (r : StateReport) (k : Fin 12) :
    .feederEndingReport k .cancelled ∈ (s.arrive (.feederStateReport r)).transit ↔
      .feederEndingReport k .cancelled ∈ s.transit := List.mem_erase_of_ne (by simp)

/-- The arrival of the station's report leaves a due event that was taken before it. -/
theorem dueTaken_arrive (s : State) (r : StateReport) (k : Fin 12) :
    (s.arrive (.feederStateReport r)).dueTaken k = true ↔
      ((s.feeder k).state = .waiting ∨ (s.feeder k).state = .pending) ∧ (s.claim (feederClaim k)).state = .carried
        ∧ .feederCarriedReport k ∈ s.transit := by
  have carried : .feederCarriedReport k ∈ (s.arrive (.feederStateReport r)).transit ↔
      .feederCarriedReport k ∈ s.transit := List.mem_erase_of_ne (by simp)
  rw [dueTaken_iff, carried]
  rfl

/-- Settles O44: each report by the state entered; in DEFICIT, by what the restoring feeder's claim has come to. -/
theorem stationChangeAtTheFeeders : Obligations.StationChangeAtTheFeeders := by
  intro r s held
  refine ⟨fun warming => exec_arrival rfl held (feederStateReportEffect_warming warming),
    fun regulating => exec_arrival rfl held (feederStateReportEffect_regulating regulating),
    fun runaway => ⟨?holds, fun other => exec_arrival rfl held (feederStateReportEffect_runaway_other runaway other)⟩,
    fun deficit => ⟨fun k cursor connected => ?connected, fun k cursor waits apart kept => ?given, fun none_ => ?none⟩,
    fun black => ?black⟩
  case holds =>
    rintro ⟨t, holds⟩
    exact exec_arrival rfl held (feederStateReportEffect_runaway_hold (s := s.arrive _) runaway holds)
  case black =>
    refine completes_arrival rfl held ?_
    rw [feederStateReportEffect_black black]
    obtain ⟨cursor, step, frame⟩ := feedersAtBlack_frame (s.arrive (.feederStateReport r))
    have feeder := feedersAtBlack_feeder (s.arrive (.feederStateReport r))
    obtain ⟨moved, same⟩ := feedersAtBlack_links (s.arrive (.feederStateReport r))
    generalize (s.arrive (.feederStateReport r)).feedersAtBlack = t at cursor step frame feeder moved same ⊢
    refine ⟨cursor, step, by rw [frame], fun k => ?_, moved, same, frame⟩
    obtain ⟨state, close, restoring, history⟩ := feeder k
    obtain ⟨active, other⟩ := atBlack_state (s.feeder k) (s.feederConfig k).autoRestore
    rw [feedersMoved_feeder] at state
    exact ⟨close, restoring, history, fun h => state.trans (active h), fun h => state.trans (other h)⟩
  case connected =>
    obtain ⟨waits, claim, sent⟩ := connected
    have taken := takeRestored_connected (s := s.arrive (.feederStateReport r)) cursor
      ((dueTaken_arrive s r k).2 ⟨waits, claim, sent⟩)
    obtain ⟨on, free⟩ := feederCarriedEffect_restored
      (s := (s.arrive (.feederStateReport r)).arrive (.feederCarriedReport k)) cursor waits
    refine ⟨_, exec_arrival rfl held rfl, on, exec_arrival rfl held ?_⟩
    rw [feederStateReportEffect_deficit deficit, taken, cancelRestoring_none free]
    rfl
  case given =>
    have none_ := takeRestored_none (s := s.arrive (.feederStateReport r)) fun j other => by
      obtain rfl : k = j := Cursor.restoring.inj (cursor.symm.trans other)
      exact Bool.eq_false_iff.2 fun h => apart ((dueTaken_arrive s r k).1 h)
    have cancelled := cancelRestoring_waits (s := s.arrive (.feederStateReport r)) cursor waits
      (mt (ending_arrive s r k).1 kept)
    refine exec_arrival rfl held ?_
    rw [feederStateReportEffect_deficit deficit, none_, cancelled]
    rfl
  case none =>
    have taken := takeRestored_none (s := s.arrive (.feederStateReport r)) fun j cursor =>
      Bool.eq_false_iff.2 fun h => (none_ j cursor).1 ((dueTaken_arrive s r j).1 h)
    have left := cancelRestoring_left (s := s.arrive (.feederStateReport r)) fun j cursor =>
      (none_ j cursor).2.imp id (ending_arrive s r j).2
    refine exec_arrival rfl held ?_
    rw [feederStateReportEffect_deficit deficit, taken, left]
    rfl

end Sys2Proof.Machine

namespace Sys2Proof.Machine

/-! ### The contactor checks of a feeder (R110 to R112, R129) -/

/-- A feeder in FAULT. -/
def Feeder.faulted (f : Feeder) (kind : FeederFault) : Feeder :=
  { f with state := .fault kind, close := false, restoring := false, follow := .stopped, stuck := .stopped }

/-- R112: the end request goes out where the feeder holds a claim. -/
theorem faultFeeder_sends (s : State) (k : Fin 12) (kind : FeederFault) :
    s.faultFeeder k kind =
      (((State.setFeeder
        { s with
          transit :=
            s.transit
              ++ if (s.feeder k).state = .on ∨ (s.feeder k).state = .waiting ∨ (s.feeder k).state = .pending then
                  [.endRequest (feederClaim k) .fault]
                 else [] } k ((s.feeder k).faulted kind)).addNotice .l3 .feeder).releaseCursor k).syncFeeders := by
  unfold State.faultFeeder
  dsimp only
  generalize same : (s.feeder k).state = st
  cases st <;> simp [State.send, Feeder.faulted]

/-- R112: entry to FAULT, with what it leaves to the cursor. -/
theorem faultFeeder_eq (s : State) (k : Fin 12) (kind : FeederFault) :
    let f := s.feeder k
    s.faultFeeder k kind =
      State.syncFeeders
        { s with
          transit :=
            s.transit
              ++ if f.state = .on ∨ f.state = .waiting ∨ f.state = .pending then [.endRequest (feederClaim k) .fault]
                 else []
          fdr :=
            { s.fdr with
              feeders := s.fdr.feeders.set k (f.faulted kind)
              cursor :=
                if s.fdr.cursor = .restoring k then .stagger (s.clock + 10 * s.set.tables.thresholds.stagger)
                else s.fdr.cursor }
          links := (s.addNotice .l3 .feeder).links } := by
  rw [faultFeeder_sends, releaseCursor_eq]
  rfl

section
variable {s : State} {k : Fin 12} {since : Nat}

theorem followTimingEffect_mismatch (running : (s.feeder k).follow = .running since) (on : (s.feeder k).state = .on)
    (open_ : s.pins.fb[k] = false) :
    followTimingEffect k s = State.faultFeeder { s with now := max s.now ((since + 50) * 10000) } k .mismatch := by
  simp only [followTimingEffect, running, on, open_, and_self, if_true]
  rfl

theorem followTimingEffect_complete (running : (s.feeder k).follow = .running since)
    (followed : (s.feeder k).state ≠ .on ∨ s.pins.fb[k] = true) :
    followTimingEffect k s =
      { s with
        now := max s.now ((since + 50) * 10000)
        fdr := { s.fdr with feeders := s.fdr.feeders.set k { s.feeder k with follow := .complete since } } } := by
  have fits : ¬ ((s.feeder k).state = .on ∧ s.pins.fb[k] = false) := by
    rintro ⟨on, open_⟩
    rcases followed with other | closed
    · exact other on
    · rw [open_] at closed; cases closed
  simp only [followTimingEffect, running]
  rw [if_neg fits]
  rfl

theorem followTimingEffect_idle (h : ∀ since : Nat, (s.feeder k).follow ≠ .running since) : followTimingEffect k s = s := by
  unfold followTimingEffect
  dsimp only
  split
  next since running => exact absurd running (h since)
  all_goals rfl

theorem stuckTimingEffect_welded (running : (s.feeder k).stuck = .running since) (sound : (s.feeder k).state.isFault = false) :
    stuckTimingEffect k s = State.faultFeeder { s with now := max s.now ((since + 50) * 10000) } k .welded := by
  unfold stuckTimingEffect
  rw [running]
  cases state : (s.feeder k).state with
  | fault kind => rw [state] at sound; cases sound
  | off | waiting | pending | on | shed | locked => rfl

theorem stuckTimingEffect_idle (h : ∀ since : Nat, (s.feeder k).stuck ≠ .running since) : stuckTimingEffect k s = s := by
  unfold stuckTimingEffect
  split
  next => rfl
  next _ since running _ => exact absurd running (h since)
  all_goals rfl

/-- R111: which change of a feedback finds a feeder DROPPED. -/
theorem dropped_iff (s : State) (k : Fin 12) (closed : Bool) :
    (s.pins.fb[k] && !closed && (s.feeder k).state = .on && s.feederDriven k && (s.feeder k).follow.isComplete) = true ↔
      s.pins.fb[k] = true ∧ closed = false ∧ (s.feeder k).state = .on ∧ s.feederDriven k = true
        ∧ (s.feeder k).follow.isComplete = true := by
  simp [and_assoc]

end

/-- Settles O45: each expiry by the feeder's state, each fault by `faultFeeder_eq`. -/
theorem feederContactorChecks : Obligations.FeederContactorChecks := by
  intro k s
  refine ⟨fun since held running => ⟨fun on open_ => ?mismatch, fun followed => ?complete⟩,
    fun since held running sound => ?welded, fun held idle => exec_running rfl held (followTimingEffect_idle idle),
    fun held idle => exec_running rfl held (stuckTimingEffect_idle idle),
    fun closed => ⟨fun held => ?held, fun held dropped => ?dropped, fun held kept => ?kept⟩⟩
  case mismatch =>
    exact exec_running rfl held ((followTimingEffect_mismatch running on open_).trans (faultFeeder_eq _ k .mismatch))
  case complete => exact exec_running rfl held (followTimingEffect_complete running followed)
  case welded =>
    exact exec_running rfl held ((stuckTimingEffect_welded running sound).trans (faultFeeder_eq _ k .welded))
  case held => exact congrArg _ (if_pos held)
  case dropped =>
    have found := (dropped_iff s k closed).2 dropped
    exact congrArg _ ((if_neg (by simp [held])).trans ((if_pos found).trans (faultFeeder_eq _ k .dropped)))
  case kept =>
    have found := mt (dropped_iff s k closed).1 kept
    exact congrArg _ ((if_neg (by simp [held])).trans (if_neg found))

/-! ### The contactor timings and the driven levels (R110, R145) -/

theorem feederTimings_judged (f : Feeder) (driven closed : Bool) (clock : Nat) :
    feederTimings f driven closed clock =
      { f with
        follow := if f.state.isFault then .stopped else judgedTiming f.follow driven clock
        stuck := if f.state.isFault then .stopped else judgedTiming f.stuck (!driven && closed) clock } := by
  unfold feederTimings
  simp only [judge_eq]
  cases state : f.state <;> simp [FeederState.isFault]

theorem disagreement_eq (t : Option Nat) (fault driven closed : Bool) (clock : Nat) :
    disagreement t fault driven closed clock = if fault ∨ driven = closed then none else some (t.getD clock) := by
  cases fault <;> cases driven <;> cases closed <;> cases t <;> rfl

/-- Settles O46: the timings by `feederTimings_judged` and `disagreement_eq`. -/
theorem contactorTimingsFollowTheDrivenLevels : Obligations.ContactorTimingsFollowTheDrivenLevels := by
  intro s
  refine ⟨fun k => ⟨?_, rfl⟩, ?_, rfl, ?_⟩
  · have timed : s.sync.feeder k = feederTimings (s.feeder k) (s.feederDriven k) s.pins.fb[k] s.clock := feeder_syncFeeders s k
    rw [timed, feederTimings_judged]
    rfl
  · simp only [← disagreement_eq]
    rfl
  · rfl

end Sys2Proof.Machine

namespace Sys2Proof.Machine

/-! ### The saw orders, each by the saw's state (R137, R140, R142, R144, R146) -/

/-- R137: a saw order is taken from L2 alone. -/
theorem sawOrder_elsewhere {l : Link} (code : Byte) (f : State → State × Status) (s : State) (h : l ≠ .l2) :
    sawOrder l code f s = s.answer l code .notYourField := if_pos h

theorem sawOrder_l2 {s t : State} {st : Status} (code : Byte) {f : State → State × Status} (h : f s = (t, st)) :
    sawOrder .l2 code f s = t.answer .l2 code st := by
  rw [sawOrder, if_neg (by decide), h]

theorem sawTargetActive_stop (st : SawState) : sawTargetActive .stop st = (st.motorOn || decide (st = .startWait)) := rfl

section
variable {s : State}

theorem sawStart_busy (h : s.saw.state ≠ .stopped ∨ s.saw.bladeQuiet = false) : s.sawStart = (s, .busy) := by
  unfold State.sawStart
  by_cases stopped : s.saw.state = .stopped
  · have turning := h.resolve_left (not_not_intro stopped)
    rw [if_neg (not_not_intro stopped), if_pos (by simp [turning])]
  · rw [if_pos stopped]

theorem sawStart_refused (stopped : s.saw.state = .stopped) (quiet : s.saw.bladeQuiet = true)
    (status : s.claimRequestStatus 4 s.set.tables.saw.start.startSurge (some s.set.tables.saw.start.runAmount) ≠ .ok) :
    s.sawStart =
      (s, s.claimRequestStatus 4 s.set.tables.saw.start.startSurge (some s.set.tables.saw.start.runAmount)) := by
  unfold State.sawStart
  rw [if_neg (not_not_intro stopped), if_neg (by simp [quiet])]
  dsimp only
  split
  next ok => exact absurd ok status
  next => rfl

theorem sawStart_ok (stopped : s.saw.state = .stopped) (quiet : s.saw.bladeQuiet = true)
    (status : s.claimRequestStatus 4 s.set.tables.saw.start.startSurge (some s.set.tables.saw.start.runAmount) = .ok) :
    s.sawStart =
      (sawEntering (s.acceptClaim 4 s.set.tables.saw.start.startSurge (some s.set.tables.saw.start.runAmount) none
        s.set.tables.saw.start.startLead none .saw 0) .startWait, .ok) := by
  unfold State.sawStart
  rw [if_neg (not_not_intro stopped), if_neg (by simp [quiet])]
  simp only [status]
  exact congrArg (·, Status.ok) (moveSaw_eq _ rfl)

theorem sawStop_active (h : sawTargetActive .stop s.saw.state = true) :
    s.sawStop =
      ((sawEntering (stopSent s (if s.saw.state = .startWait then .withdrawn else .released)) (stopState s)).syncSaw, .ok) := by
  unfold State.sawStop
  by_cases waits : s.saw.state = .startWait
  · rw [if_pos waits, if_pos waits, stopRequests_eq, stopTarget_eq, moveSaw_eq _ (commandsIn_stopState s)]
  · have on : s.saw.state.motorOn = true := by simpa [sawTargetActive_stop, waits] using h
    rw [if_neg waits, if_neg waits, if_pos on, stopRequests_eq, stopTarget_eq, moveSaw_eq _ (commandsIn_stopState s)]

theorem sawStop_refused (h : sawTargetActive .stop s.saw.state = false) : s.sawStop = (s, .wrongState) := by
  rw [sawTargetActive_stop, Bool.or_eq_false_iff, decide_eq_false_iff_not] at h
  obtain ⟨off, notWaiting⟩ := h
  rw [State.sawStop, if_neg notWaiting, if_neg (by simp [off])]

/-- R140: the states from which a feed starts. -/
abbrev FeedReady (st : SawState) : Prop := st = .run ∨ ∃ e : Direction, st = .feedHold .shed e

theorem sawFeed_not_ready (d : Direction) (h : ¬ FeedReady s.saw.state ∨ s.limitActive d = true) :
    s.sawFeed d = (s, .wrongState) := by
  unfold State.sawFeed
  extract_lets ready feed amount tag
  by_cases isReady : ready = true
  · have state : FeedReady s.saw.state := by
      cases hs : s.saw.state with
      | run => exact .inl rfl
      | feedHold r e =>
        cases r with
        | shed => exact .inr ⟨e, rfl⟩
        | overload | manual => exact absurd (show ready = false by simp [ready, hs]) (by simpa using isReady)
      | _ => exact absurd (show ready = false by simp [ready, hs]) (by simpa using isReady)
    rw [if_neg (by simp [isReady]), if_pos (h.resolve_left (not_not_intro state))]
  · rw [if_pos (by simpa using isReady)]

/-- The claim request of a feed that is ready. -/
theorem sawFeed_ready (d : Direction) (h : FeedReady s.saw.state) (clear : s.limitActive d = false) :
    s.sawFeed d =
      if s.claimRequestStatus 5 (s.feedAmount d) none = .ok then
        (sawEntering (s.acceptClaim 5 (s.feedAmount d) none none s.set.tables.saw.feed.feedLead none .saw (feedTag d))
          (.feedWait d), .ok)
      else (s, s.claimRequestStatus 5 (s.feedAmount d) none) := by
  unfold State.sawFeed
  extract_lets ready feed amount tag
  have isReady : ready = true := by rcases h with h | ⟨e, h⟩ <;> simp [ready, h]
  have amounts : amount = s.feedAmount d := by cases d <;> rfl
  have tags : tag = feedTag d := by cases d <;> rfl
  rw [if_neg (by simp [isReady]), if_neg (by simp [clear]), amounts, tags]
  split
  next ok => rw [if_pos ok]; exact congrArg (·, Status.ok) (moveSaw_eq _ rfl)
  next refused => rw [if_neg refused]

theorem sawHold_feeds (d : Direction) (h : s.saw.state = feedState d) :
    s.sawHold = ((sawEntering s (.feedHold .manual d)).syncSaw, .ok) := by
  have moved : s.moveSaw (.feedHold .manual d) .running = sawEntering s (.feedHold .manual d) := moveSaw_eq s rfl
  rw [← moved]
  cases d <;> simp only [State.sawHold, h, feedState]

theorem sawHold_refused (forward : s.saw.state ≠ .feeding) (back : s.saw.state ≠ .returning) :
    s.sawHold = (s, .wrongState) := by
  unfold State.sawHold
  split
  next h => exact absurd h forward
  next h => exact absurd h back
  all_goals rfl

theorem sawResume_held {d : Direction} (h : s.saw.state = .feedHold .manual d) :
    s.sawResume = ((sawEntering s (feedState d)).syncSaw, .ok) := by
  simp only [State.sawResume, h]
  rw [moveSaw_eq _ (commandsIn_feed d)]

theorem sawResume_refused (h : ∀ d : Direction, s.saw.state ≠ .feedHold .manual d) : s.sawResume = (s, .wrongState) := by
  unfold State.sawResume
  split
  next d held => exact absurd held (h d)
  all_goals rfl

theorem judgeLimits_eq (sound : s.saw.state.isFault = false) :
    s.judgeLimits = if s.pins.fwdEnd && s.pins.retEnd then sawFaulting s .limit else s := by
  rw [State.judgeLimits, faultSaw_eq, sound, Bool.not_false, Bool.and_true]

theorem sawClearFault_clears (h : s.saw.state.isFault = true ∧ s.pins.estop = false ∧ s.saw.bladeQuiet = true) :
    s.sawClearFault =
      (if s.pins.fwdEnd && s.pins.retEnd then sawFaulting (sawEntering s .stopped).syncSaw .limit
        else (sawEntering s .stopped).syncSaw, .ok) := by
  obtain ⟨fault, noStop, quiet⟩ := h
  rw [State.sawClearFault, if_pos (by simp [fault, noStop, quiet]), moveSaw_eq (cmd := .allOff) (st := .stopped) _ rfl,
    judgeLimits_eq (s := (sawEntering s .stopped).syncSaw) rfl]
  rfl

theorem sawClearFault_refused (h : ¬ (s.saw.state.isFault = true ∧ s.pins.estop = false ∧ s.saw.bladeQuiet = true)) :
    s.sawClearFault = (s, .wrongState) := by
  rw [State.sawClearFault, if_neg]
  simpa [and_assoc] using h

end

/-- How a saw order of L2 is answered. -/
theorem exec_sawOrder {i : Instr} {code : Byte} {f : State → State × Status} {s t : State} {st : Status}
    (run : exec i s = whenReleased (s.arrive i) (sawOrder .l2 code f)) (held : s.held = false)
    (h : f (s.arrive i) = (t, st)) : exec i s = .next (t.answer .l2 code st) :=
  exec_arrival run held (sawOrder_l2 code h)

/-- SAW FEED and SAW RETURN, released: each is the feed of its direction. -/
theorem exec_sawFeed {i : Instr} {code : Byte} {s : State} {d : Direction} (isOrder : ∀ (m : Fin 24) (o : Ending), i ≠ .endRequest m o)
    (run : exec i s = whenReleased (s.arrive i) (sawOrder .l2 code fun t => t.sawFeed d)) (held : s.held = false) :
    (¬ FeedReady s.saw.state ∨ s.limitActive d = true → AnsweredOnly i .l2 code .wrongState s)
      ∧ (FeedReady s.saw.state → s.limitActive d = false → s.claimRequestStatus 5 (s.feedAmount d) none ≠ .ok →
          AnsweredOnly i .l2 code (s.claimRequestStatus 5 (s.feedAmount d) none) s)
      ∧ (FeedReady s.saw.state → s.limitActive d = false → s.claimRequestStatus 5 (s.feedAmount d) none = .ok →
          exec i s =
            .next ((sawEntering ((s.arrive i).acceptClaim 5 (s.feedAmount d) none none s.set.tables.saw.feed.feedLead none
              .saw (feedTag d)) (.feedWait d)).answer .l2 code .ok)) := by
  have request := arrive_claimRequestStatus s (i := i) isOrder 5 (s.feedAmount d) none
  have answers {t : State} {st : Status} := exec_sawOrder (i := i) (s := s) (t := t) (st := st) run held
  refine ⟨fun unready => answers (sawFeed_not_ready (s := s.arrive i) d unready),
    fun ready clear refused => answers ?_, fun ready clear ok => answers ?_⟩
  · refine (sawFeed_ready (s := s.arrive i) d ready clear).trans ((if_neg fun ok => refused (request.symm.trans ok)).trans ?_)
    exact congrArg (Prod.mk (s.arrive i)) request
  · exact (sawFeed_ready (s := s.arrive i) d ready clear).trans (if_pos (request.trans ok))

/-- Settles O47: each order by the equation of its case. -/
theorem sawOrdersByState : Obligations.SawOrdersByState := by
  intro s held
  refine ⟨fun l other => ?elsewhere, ⟨fun busy => ?busy, fun stopped quiet refused => ?startRefused,
    fun stopped quiet ok => ?start⟩, ⟨fun active => ?stop, fun idle => ?stopRefused⟩, fun d => ?feed, fun d => ⟨?hold, ?resume⟩,
    fun forward back => ?holdRefused, fun none_ => ?resumeRefused, ⟨fun clears => ?clear, fun kept => ?clearRefused⟩⟩
  case elsewhere =>
    have refused (i : Instr) (code : Byte) (f : State → State × Status)
        (run : exec i s = whenReleased (s.arrive i) (sawOrder l code f)) : AnsweredOnly i l code .notYourField s :=
      exec_arrival run held (sawOrder_elsewhere code f _ other)
    exact ⟨refused _ _ _ rfl, refused _ _ _ rfl, refused _ _ _ rfl, refused _ _ _ rfl, refused _ _ _ rfl, refused _ _ _ rfl,
      refused _ _ _ rfl⟩
  case busy => exact exec_sawOrder rfl held (sawStart_busy (s := s.arrive _) busy)
  case startRefused =>
    have request := arrive_claimRequestStatus s (i := .sawStart .l2) (by simp) 4 s.set.tables.saw.start.startSurge
      (some s.set.tables.saw.start.runAmount)
    have effect := sawStart_refused (s := s.arrive (.sawStart .l2)) stopped quiet (fun ok => refused (request.symm.trans ok))
    rw [arrive_set, request] at effect
    exact exec_sawOrder rfl held effect
  case start =>
    have request := arrive_claimRequestStatus s (i := .sawStart .l2) (by simp) 4 s.set.tables.saw.start.startSurge
      (some s.set.tables.saw.start.runAmount)
    exact exec_sawOrder rfl held (sawStart_ok (s := s.arrive _) stopped quiet (request.trans ok))
  case stop => exact exec_sawOrder rfl held (sawStop_active (s := s.arrive _) active)
  case stopRefused => exact exec_sawOrder rfl held (sawStop_refused (s := s.arrive _) idle)
  case feed =>
    cases d with
    | forward => exact exec_sawFeed (d := .forward) (by simp) rfl held
    | back => exact exec_sawFeed (d := .back) (by simp) rfl held
  case hold =>
    intro moving
    exact exec_sawOrder rfl held (sawHold_feeds (s := s.arrive _) d (by cases d <;> exact moving))
  case resume =>
    intro holds
    have effect := sawResume_held (s := s.arrive (.sawResume .l2)) holds
    cases d <;> exact exec_sawOrder rfl held effect
  case holdRefused => exact exec_sawOrder rfl held (sawHold_refused (s := s.arrive _) forward back)
  case resumeRefused => exact exec_sawOrder rfl held (sawResume_refused (s := s.arrive _) none_)
  case clear =>
    have effect := sawClearFault_clears (s := s.arrive (.sawClearFault .l2)) clears
    exact exec_sawOrder rfl held effect
  case clearRefused => exact exec_sawOrder rfl held (sawClearFault_refused (s := s.arrive _) kept)

end Sys2Proof.Machine

namespace Sys2Proof.Machine

/-! ### The reports, shed requests and link loss that reach the saw (R138, R141, R147, R148) -/

/-- R147, R148: the states in which the carriage's claim is carried and the feed is no shed hold. -/
abbrev Fed (st : SawState) : Prop :=
  st = .feeding ∨ st = .returning ∨ ∃ d : Direction, st = .feedHold .overload d ∨ st = .feedHold .manual d

/-- The states that await the carriage's claim. -/
abbrev FeedAwaited (st : SawState) : Prop := ∃ d : Direction, st = .feedWait d

/-- The saw enters a state as an end request of claim n goes out. -/
abbrev sawMovingEnding (s : State) (n : Fin 24) (o : Ending) (st : SawState) : State :=
  sawMoving { s with transit := s.transit ++ [.endRequest n o] } st

theorem send_moveSaw {st : SawState} {cmd : SawCommands} (s : State) (n : Fin 24) (o : Ending) (h : cmd = commandsIn st) :
    ((s.send (.endRequest n o)).moveSawNotified st cmd).syncSaw = sawMovingEnding s n o st :=
  moveSawNotified_syncSaw _ h

section
variable {s : State}

theorem sawCarried_motor (waits : s.saw.state = .startWait) :
    sawCarriedEffect .motor s =
      State.syncSaw
        { sawNoticed s .star with
          saw := { (sawNoticed s .star).saw with starTime := some (s.clock + 10 * s.set.tables.saw.start.starTimeMax) } } := by
  have tenths : Config.tenths s.set.tables.saw.start.starTimeMax = 10 * s.set.tables.saw.start.starTimeMax := Nat.mul_comm _ _
  have star := moveSawNotified_eq (st := .star)
    (cmd := { line := true, star := true, delta := false, feedFwd := false, feedRet := false }) s rfl
  rw [← star, ← tenths]
  simp only [sawCarriedEffect, waits]
  rfl

theorem sawCarried_motor_idle (waits : s.saw.state ≠ .startWait) : sawCarriedEffect .motor s = s := by
  generalize same : s.saw.state = st at waits
  cases st with
  | startWait => exact absurd rfl waits
  | _ => simp only [sawCarriedEffect, same]

theorem sawCarried_carriage {d : Direction} (waits : s.saw.state = .feedWait d) :
    sawCarriedEffect .carriage s =
      if s.limitActive d then sawMovingEnding s 5 .released .run else sawMoving s (feedState d) := by
  simp only [sawCarriedEffect, waits]
  rw [send_moveSaw (cmd := .running) (st := .run) _ _ _ rfl, moveSawNotified_syncSaw _ (commandsIn_feed d)]

theorem sawCarried_carriage_idle (waits : ¬ FeedAwaited s.saw.state) : sawCarriedEffect .carriage s = s := by
  generalize same : s.saw.state = st at waits
  cases st with
  | feedWait d => exact absurd ⟨d, rfl⟩ waits
  | _ => simp only [sawCarriedEffect, same]

theorem sawEnding_motor_waiting {o : Ending} (waits : s.saw.state = .startWait) (ends : o = .expired ∨ o = .cancelled) :
    sawEndingEffect .motor o s = sawMoving s .stopped := by
  refine (if_pos ⟨waits, ends⟩).trans (moveSawNotified_syncSaw s rfl)

theorem sawEnding_motor_on {o : Ending} (on : s.saw.state.motorOn = true) (ends : o = .cancelled) :
    sawEndingEffect .motor o s = sawMoving s (sawAtRest s) := by
  have running : s.saw.state ≠ .startWait := fun h => absurd (h ▸ on) (by decide)
  exact (if_neg fun h => running h.1).trans ((if_pos ⟨on, ends⟩).trans (sawLetGo_eq s))

theorem sawEnding_motor_idle {o : Ending} (waits : ¬ (s.saw.state = .startWait ∧ (o = .expired ∨ o = .cancelled)))
    (on : ¬ (s.saw.state.motorOn = true ∧ o = .cancelled)) : sawEndingEffect .motor o s = s :=
  (if_neg waits).trans (if_neg on)

/-- R147: the endings of the carriage's claim that the saw acts on. -/
abbrev CarriageEnds (st : SawState) (o : Ending) : Prop :=
  FeedAwaited st ∧ (o = .expired ∨ o = .cancelled) ∨ Fed st ∧ o = .cancelled

theorem sawEnding_carriage (o : Ending) :
    (CarriageEnds s.saw.state o → sawEndingEffect .carriage o s = sawMoving s .run)
      ∧ (¬ CarriageEnds s.saw.state o → sawEndingEffect .carriage o s = s) := by
  have moved : (s.moveSawNotified .run .running).syncSaw = sawMoving s .run := moveSawNotified_syncSaw s rfl
  rw [← moved]
  unfold sawEndingEffect
  dsimp only
  generalize s.saw.state = st
  by_cases cancelled : o = .cancelled <;> by_cases expired : o = .expired
  all_goals
    cases st with
    | feedHold r d => cases r <;> simp [CarriageEnds, FeedAwaited, Fed, cancelled, expired]
    | _ => simp [CarriageEnds, FeedAwaited, Fed, cancelled, expired]

theorem sawStateReport_waiting {r : StateReport} (black : r.entered = .black) (waits : s.saw.state = .startWait) :
    sawStateReportEffect r s = sawMoving s .stopped :=
  (if_pos black).trans ((if_pos waits).trans (moveSawNotified_syncSaw s rfl))

theorem sawStateReport_on {r : StateReport} (black : r.entered = .black) (on : s.saw.state.motorOn = true) :
    sawStateReportEffect r s = sawMoving s (sawAtRest s) := by
  have running : s.saw.state ≠ .startWait := fun h => absurd (h ▸ on) (by decide)
  exact (if_pos black).trans ((if_neg running).trans ((if_pos on).trans (sawLetGo_eq s)))

theorem sawStateReport_idle {r : StateReport}
    (h : r.entered ≠ .black ∨ s.saw.state ≠ .startWait ∧ s.saw.state.motorOn = false) : sawStateReportEffect r s = s := by
  unfold sawStateReportEffect
  rcases h with elsewhere | ⟨waits, off⟩
  · rw [if_neg elsewhere]
  · exact (if_congr Iff.rfl ((if_neg waits).trans (if_neg (Bool.eq_false_iff.1 off))) rfl).trans (ite_self s)

theorem shedRequest_feedWait (waits : FeedAwaited s.saw.state) :
    shedRequestEffect .feedHold s = sawMovingEnding s 5 .shed .run := by
  obtain ⟨d, h⟩ := waits
  simp only [shedRequestEffect, h]
  exact send_moveSaw _ _ _ rfl

theorem shedRequest_fed {d : Direction} (fed : Fed s.saw.state) (h : s.saw.state.direction = some d) :
    shedRequestEffect .feedHold s = sawMovingEnding s 5 .shed (.feedHold .shed d) := by
  have moved := send_moveSaw (cmd := .running) (st := .feedHold .shed d) s 5 .shed rfl
  rw [← moved]
  rcases fed with state | state | ⟨e, state | state⟩ <;> rw [state] at h <;> cases h <;> simp only [shedRequestEffect, state]

theorem shedRequest_feedHold_idle (waits : ¬ FeedAwaited s.saw.state) (fed : ¬ Fed s.saw.state) :
    shedRequestEffect .feedHold s = s := by
  generalize same : s.saw.state = st at waits fed
  cases st with
  | feedHold r d => cases r <;> simp_all [shedRequestEffect, Fed]
  | _ => simp_all [shedRequestEffect, Fed, FeedAwaited]

theorem shedRequest_stop :
    shedRequestEffect .stop s =
      if sawTargetActive .stop s.saw.state = true then sawMoving (stopSent s .shed) (stopState s) else s := by
  rw [sawTargetActive_stop, Bool.or_comm, ← stopSequence_eq]
  rfl

theorem linkLossSaw_eq (l : Link) :
    linkLossSawEffect l s =
      if l = .l2 ∧ sawTargetActive .stop s.saw.state = true then sawMoving (stopSent s .linkLost) (stopState s) else s := by
  rw [← stopSequence_eq]
  refine if_congr (and_congr_right' ?_) rfl rfl
  rw [sawTargetActive_stop, Bool.or_eq_true, decide_eq_true_iff, or_comm]

end

/-- Settles O48: each message by the equation of its case. -/
theorem sawReportsByState : Obligations.SawReportsByState := by
  intro s held
  refine ⟨fun c => exec_arrival (f := fun t => t) rfl held rfl, ⟨fun waits => ?motor, fun idle => ?motorIdle⟩, ?carriage,
    fun o => ⟨fun waits ends => ?motorEnds, fun on ends => ?motorCancelled, fun waits on => ?motorKept⟩,
    fun o => ⟨fun acts => ?carriageEnds, fun kept => ?carriageKept⟩,
    fun r => ⟨fun black waits => ?blackWaits, fun black on => ?blackOn, fun idle => ?stateIdle⟩,
    ⟨fun waits => ?shedWait, fun d fed dir => ?shedFed, fun waits fed => ?shedIdle⟩, ⟨fun act => ?stop, fun idle => ?stopIdle⟩,
    fun l => ⟨fun l2 act => ?loss, fun idle => ?lossIdle⟩⟩
  case motor => exact exec_arrival rfl held (sawCarried_motor (s := s.arrive _) waits)
  case motorIdle => exact exec_arrival rfl held (sawCarried_motor_idle (s := s.arrive _) idle)
  case carriage =>
    have effect {d : Direction} (waits : s.saw.state = .feedWait d) :=
      sawCarried_carriage (s := s.arrive (.sawCarriedReport .carriage)) waits
    exact ⟨fun waits clear => exec_arrival rfl held ((effect waits).trans (if_neg (Bool.eq_false_iff.1 clear))),
      fun waits clear => exec_arrival rfl held ((effect waits).trans (if_neg (Bool.eq_false_iff.1 clear))),
      fun waits atEnd => exec_arrival rfl held ((effect waits).trans (if_pos atEnd)),
      fun waits atEnd => exec_arrival rfl held ((effect waits).trans (if_pos atEnd)),
      fun idle => exec_arrival rfl held (sawCarried_carriage_idle (s := s.arrive _) idle)⟩
  case motorEnds => exact exec_arrival rfl held (sawEnding_motor_waiting (s := s.arrive _) waits ends)
  case motorCancelled => exact exec_arrival rfl held (sawEnding_motor_on (s := s.arrive _) on ends)
  case motorKept => exact exec_arrival rfl held (sawEnding_motor_idle (s := s.arrive _) waits on)
  case carriageEnds => exact exec_arrival rfl held ((sawEnding_carriage (s := s.arrive _) o).1 acts)
  case carriageKept => exact exec_arrival rfl held ((sawEnding_carriage (s := s.arrive _) o).2 kept)
  case blackWaits => exact exec_arrival rfl held (sawStateReport_waiting (s := s.arrive _) black waits)
  case blackOn => exact exec_arrival rfl held (sawStateReport_on (s := s.arrive _) black on)
  case stateIdle => exact exec_arrival rfl held (sawStateReport_idle (s := s.arrive _) idle)
  case shedWait => exact exec_arrival rfl held (shedRequest_feedWait (s := s.arrive _) waits)
  case shedFed => exact exec_arrival rfl held (shedRequest_fed (s := s.arrive _) fed dir)
  case shedIdle => exact exec_arrival rfl held (shedRequest_feedHold_idle (s := s.arrive _) waits fed)
  case stop => exact exec_arrival rfl held ((shedRequest_stop (s := s.arrive _)).trans (if_pos act))
  case stopIdle => exact exec_arrival rfl held ((shedRequest_stop (s := s.arrive _)).trans (if_neg (Bool.eq_false_iff.1 idle)))
  case loss => exact exec_arrival rfl held ((linkLossSaw_eq (s := s.arrive _) l).trans (if_pos ⟨l2, act⟩))
  case lossIdle =>
    refine exec_arrival rfl held ((linkLossSaw_eq (s := s.arrive _) l).trans (if_neg fun h => ?_))
    obtain ⟨l2, act⟩ := h
    exact idle.elim (absurd l2) fun off => Bool.false_ne_true (off.symm.trans act)

end Sys2Proof.Machine

namespace Sys2Proof.Machine

/-! ### The blade and the timings of the saw (R135, R138, R139, R143 to R145) -/

/-- R139: the saw enters CHANGEOVER and the dead time begins. -/
def sawChangingOver (t : State) : State :=
  State.syncSaw
    { sawNoticed t .changeover with
      saw := { (sawNoticed t .changeover).saw with deadTime := some (t.clock + t.set.tables.saw.start.deadTime) } }

/-- R135: the blade speed that the pulses of a window give. -/
abbrev State.windowSpeed (s : State) : Nat := min (s.saw.pulses * 400 / s.set.tables.saw.start.ratedPulseRate) 150

/-- R135: a window end, before it is judged. -/
def State.windowTaken (s : State) : State :=
  { s.reachTick s.saw.windowEnd with
    saw := { s.saw with speed := s.windowSpeed, pulses := 0, windowEnd := s.saw.windowEnd + 25 } }

/-- R145: the stall run after a window end. -/
def State.nextStallRun (s : State) : Nat :=
  if s.windowSpeed < s.set.tables.saw.start.stallLevel then s.saw.stallRun + 1 else 0

/-- R138: a window end at the changeover speed is due by the time. -/
abbrev State.windowToo (s : State) (clock : Nat) : Prop :=
  s.saw.windowEnd ≤ clock ∧ s.set.tables.saw.start.changeoverSpeed ≤ s.windowSpeed

/-- The expiry of the dead time, before DELTA closes. -/
def State.deadTimeOver (s : State) (t : Nat) : State := { s.reachTick t with saw := { s.saw with deadTime := none } }

section
variable {s : State}

theorem enterChangeover_eq (s : State) : s.enterChangeover = sawChangingOver s := by
  have changeover := moveSawNotified_eq (st := .changeover)
    (cmd := { line := true, star := false, delta := false, feedFwd := false, feedRet := false }) s rfl
  rw [sawChangingOver, ← changeover]
  rfl

theorem closeDelta_eq (s : State) : s.closeDelta = sawMoving { s with transit := s.transit ++ [.surgeEndRequest] } .run :=
  moveSawNotified_syncSaw _ rfl

theorem bladeWindowEffect_eq (s : State) :
    bladeWindowEffect s =
      if s.saw.state = .star ∧ s.set.tables.saw.start.changeoverSpeed ≤ s.windowSpeed then s.windowTaken.enterChangeover
      else if s.saw.state.stallWatched then
        if 3 ≤ s.nextStallRun then s.windowTaken.faultSaw .stall
        else { s.windowTaken with saw := { s.windowTaken.saw with stallRun := s.nextStallRun } }
      else s.windowTaken := rfl

theorem windowEnd_changes (star : s.saw.state = .star) (fast : s.set.tables.saw.start.changeoverSpeed ≤ s.windowSpeed) :
    bladeWindowEffect s = sawChangingOver s.windowTaken := by
  rw [bladeWindowEffect_eq, if_pos ⟨star, fast⟩, enterChangeover_eq]

theorem windowEnd_watched (watched : s.saw.state.stallWatched = true) :
    bladeWindowEffect s =
      if 3 ≤ s.nextStallRun then sawFaulting s.windowTaken .stall
      else { s.windowTaken with saw := { s.windowTaken.saw with stallRun := s.nextStallRun } } := by
  have running : s.saw.state ≠ .star := fun h => absurd (h ▸ watched) (by decide)
  rw [bladeWindowEffect_eq, if_neg fun h => running h.1, if_pos watched, faultSaw_eq]

theorem windowEnd_unwatched (unwatched : s.saw.state.stallWatched = false)
    (slow : ¬ (s.saw.state = .star ∧ s.set.tables.saw.start.changeoverSpeed ≤ s.windowSpeed)) :
    bladeWindowEffect s = s.windowTaken := by
  rw [bladeWindowEffect_eq, if_neg slow, if_neg (Bool.eq_false_iff.1 unwatched)]

/-- R135: the blade has become quiet. -/
def State.quieted (s : State) : State := { s.reachTick s.saw.quietDeadline with saw := { s.saw with bladeQuiet := true } }

theorem bladeQuiet_expires (turning : s.saw.bladeQuiet = false) :
    bladeQuietEffect s = if s.saw.state = .stopping then sawNoticed s.quieted .stopped else s.quieted := by
  have stopped := moveSawNotified_eq (st := .stopped) (cmd := .allOff) s.quieted rfl
  rw [← stopped]
  exact if_neg (Bool.eq_false_iff.1 turning)

theorem starTime_expires {t : Nat} (runs : s.saw.starTime = some t) :
    starTimeEffect s =
      if s.set.tables.saw.start.startStallLevel ≤ s.saw.speed ∨ s.windowToo (s.reachTick t).clock then
        sawChangingOver (s.reachTick t)
      else sawFaulting (s.reachTick t) .startStall := by
  unfold starTimeEffect
  simp only [runs]
  rw [enterChangeover_eq, faultSaw_eq]
  refine if_congr ?_ rfl rfl
  rw [Bool.or_eq_true, Bool.and_eq_true, decide_eq_true_iff, decide_eq_true_iff, decide_eq_true_iff]
  rfl

theorem deadTime_expires {t : Nat} (runs : s.saw.deadTime = some t) :
    deadTimeEffect s =
      if s.pins.starFb then s.deadTimeOver t
      else sawMoving { s.deadTimeOver t with transit := s.transit ++ [.surgeEndRequest] } .run := by
  have closed := closeDelta_eq (s.deadTimeOver t)
  unfold deadTimeEffect
  simp only [runs]
  exact if_congr Iff.rfl rfl closed

theorem overloadTiming_expires {t : Nat} (runs : s.saw.overload = some t) :
    overloadTimingEffect s = sawMoving (s.reachTick t) (.feedHold .overload .forward) := by
  unfold overloadTimingEffect
  simp only [runs]
  exact moveSawNotified_syncSaw _ rfl

theorem resumeTiming_expires {t : Nat} (runs : s.saw.resume = some t) :
    resumeTimingEffect s = sawMoving (s.reachTick t) .feeding := by
  unfold resumeTimingEffect
  simp only [runs]
  exact moveSawNotified_syncSaw _ rfl

theorem starTime_idle (idle : s.saw.starTime = none) : starTimeEffect s = s := by simp only [starTimeEffect, idle]

theorem deadTime_idle (idle : s.saw.deadTime = none) : deadTimeEffect s = s := by simp only [deadTimeEffect, idle]

theorem overloadTiming_idle (idle : s.saw.overload = none) : overloadTimingEffect s = s := by
  simp only [overloadTimingEffect, idle]

theorem resumeTiming_idle (idle : s.saw.resume = none) : resumeTimingEffect s = s := by
  simp only [resumeTimingEffect, idle]

/-- R143: the overload timing after a posting. -/
def State.overloadJudged (s : State) : Option Nat :=
  if overloadLimit s.set.tables.saw < s.meas.ps then
    some (s.saw.overload.getD (s.clock + 10 * s.set.tables.saw.feed.overloadTime))
  else none

/-- R143: the resume timing after a posting. -/
def State.resumeJudged (s : State) : Option Nat :=
  if s.meas.ps < resumeLimit s.set.tables.saw then
    some (s.saw.resume.getD (s.clock + 10 * s.set.tables.saw.feed.resumeTime))
  else none

theorem inOverloadHold_iff (st : SawState) : st.inOverloadHold = true ↔ ∃ d : Direction, st = .feedHold .overload d := by
  cases st with
  | feedHold r d => cases r <;> simp [SawState.inOverloadHold]
  | _ => simp [SawState.inOverloadHold]

/-- R143: a posting is judged by the overload timing while feeding and by the resume timing in an overload hold. -/
theorem judgeOverload_eq (s : State) :
    s.judgeOverload =
      { s with
        saw :=
          { s.saw with
            overload := if s.saw.state = .feeding then s.overloadJudged else s.saw.overload
            resume := if s.saw.state.inOverloadHold then s.resumeJudged else s.saw.resume } } := by
  have tenths (n : Nat) : Config.tenths n = 10 * n := Nat.mul_comm _ _
  have held : s.saw.state.inOverloadHold = true ↔ ∃ d : Direction, s.saw.state = .feedHold .overload d := inOverloadHold_iff _
  unfold State.judgeOverload
  simp only [tenths]
  split
  next feeding => rw [if_pos feeding, if_neg (mt held.1 (by simp [feeding]))]; rfl
  next d holds =>
    have notFeeding : s.saw.state ≠ .feeding := by simp [holds]
    rw [if_neg notFeeding, if_pos (held.2 ⟨d, holds⟩)]
    rfl
  all_goals
    next state => rw [if_neg (by simp [state]), if_neg (mt held.1 (by simp [state]))]

end

/-- Settles O49: each message by the equation of its case. -/
theorem sawBladeAndTimings : Obligations.SawBladeAndTimings := by
  intro s held
  refine ⟨exec_running rfl held rfl, ⟨fun star fast => ?changes, fun watched three => ?stalls, fun watched fewer => ?watched,
      fun unwatched slow => ?unwatched⟩, ⟨fun turning state => ?quiet, fun turning state => ?stopped, fun quiet => ?still⟩,
    fun t runs => ⟨fun fast => ?starts, fun slow window => ?startStalls⟩, fun t runs => ⟨fun closed => ?waits, fun opened => ?delta⟩,
    fun t runs => ?overload, fun t runs => ?resume, fun idle => exec_running rfl held (starTime_idle idle),
    fun idle => exec_running rfl held (deadTime_idle idle), fun idle => exec_running rfl held (overloadTiming_idle idle),
    fun idle => exec_running rfl held (resumeTiming_idle idle), judgeOverload_eq s⟩
  case changes => exact exec_running rfl held (windowEnd_changes star fast)
  case stalls => exact exec_running rfl held ((windowEnd_watched watched).trans (if_pos three))
  case watched => exact exec_running rfl held ((windowEnd_watched watched).trans (if_neg (Nat.not_le.2 fewer)))
  case unwatched => exact exec_running rfl held (windowEnd_unwatched unwatched slow)
  case quiet => exact exec_running rfl held ((bladeQuiet_expires turning).trans (if_neg state))
  case stopped => exact exec_running rfl held ((bladeQuiet_expires turning).trans (if_pos state))
  case still => exact exec_running rfl held (if_pos quiet)
  case starts => exact exec_running rfl held ((starTime_expires runs).trans (if_pos fast))
  case startStalls =>
    exact exec_running rfl held ((starTime_expires runs).trans (if_neg (not_or.2 ⟨Nat.not_le.2 slow, window⟩)))
  case waits => exact exec_running rfl held ((deadTime_expires runs).trans (if_pos closed))
  case delta => exact exec_running rfl held ((deadTime_expires runs).trans (if_neg (Bool.eq_false_iff.1 opened)))
  case overload => exact exec_running rfl held (overloadTiming_expires runs)
  case resume => exact exec_running rfl held (resumeTiming_expires runs)

end Sys2Proof.Machine

namespace Sys2Proof.Machine

/-! ### The inputs and the faults of the saw (R139, R141, R145, R146) -/

section
variable {s : State}

/-- R139: STAR has opened after the dead time, and DELTA closes at last. -/
abbrev ClosesDelta (s : State) (c : MotorContactor) (closed : Bool) : Prop :=
  s.saw.state = .changeover ∧ s.saw.deadTime = none ∧ c = .star ∧ closed = false

/-- A feedback change as the pin shows it. -/
abbrev State.withFb (s : State) (c : MotorContactor) (closed : Bool) : State := { s with pins := s.pins.setFb c closed }

/-- A limit as the pin shows it. -/
abbrev State.withLimit (s : State) (w : LimitSwitch) (active : Bool) : State := { s with pins := s.pins.setLimit w active }

theorem sawFeedback_held (c : MotorContactor) (closed : Bool) (held : s.held = true) :
    sawFeedbackEffect c closed s = s.withFb c closed := if_pos held

theorem sawFeedback_released (c : MotorContactor) (closed : Bool) (held : s.held = false) :
    sawFeedbackEffect c closed s =
      if ClosesDelta s c closed then sawMoving { s.withFb c closed with transit := s.transit ++ [.surgeEndRequest] } .run
      else (s.withFb c closed).syncSaw :=
  (if_neg (Bool.eq_false_iff.1 held)).trans (if_congr Iff.rfl (closeDelta_eq _) rfl)

theorem disagreement_expires {c : MotorContactor} {since : Nat} (runs : s.saw.disagree c = some since)
    (sound : s.saw.state.isFault = false) :
    disagreementEffect c s = sawFaulting (s.reachTick (since + 50)) .contactor := by
  unfold disagreementEffect
  simp only [runs]
  exact (if_neg (Bool.eq_false_iff.1 sound)).trans (faultSaw_eq _ _)

theorem disagreement_idle {c : MotorContactor} (idle : s.saw.disagree c = none ∨ s.saw.state.isFault = true) :
    disagreementEffect c s = s := by
  unfold disagreementEffect
  split
  · rfl
  next since runs =>
    have fault := idle.resolve_left (by simp [runs])
    exact if_pos fault

/-- R141: the states whose feed ends at the limit of a direction. -/
abbrev FeedEndsAt (d : Direction) (st : SawState) : Prop :=
  st = feedState d ∨ st = .feedHold .overload d ∨ st = .feedHold .manual d

theorem endFeedAt_ends {d : Direction} (ends : FeedEndsAt d s.saw.state) :
    (s.endFeedAt d).syncSaw = sawMovingEnding s 5 .released .run := by
  have moved := send_moveSaw (cmd := .running) (st := .run) s 5 .released rfl
  rw [← moved]
  rcases ends with state | state | state
  · cases d <;> simp only [State.endFeedAt, state, feedState, decide_true, if_true]
  all_goals simp only [State.endFeedAt, state, decide_true, if_true]

theorem endFeedAt_stays {d : Direction} (ends : ¬ FeedEndsAt d s.saw.state) : s.endFeedAt d = s := by
  unfold State.endFeedAt
  generalize s.saw.state = st at ends
  cases st with
  | feeding => cases d <;> simp_all [FeedEndsAt, feedState]
  | returning => cases d <;> simp_all [FeedEndsAt, feedState]
  | feedHold r e => cases r <;> simp_all [FeedEndsAt, eq_comm]
  | _ => rfl

theorem feedEndsAt_limit (w : LimitSwitch) (st : SawState) :
    FeedEndsAt (limitDirection w) st ↔
      w = .fwdEnd ∧ (st = .feeding ∨ st = .feedHold .overload .forward ∨ st = .feedHold .manual .forward)
        ∨ w = .retEnd ∧ (st = .returning ∨ st = .feedHold .overload .back ∨ st = .feedHold .manual .back) := by
  cases w <;> simp [FeedEndsAt, limitDirection, feedState]

/-- R145: both limits read active. -/
abbrev BothLimits (s : State) : Prop := s.pins.fwdEnd = true ∧ s.pins.retEnd = true

theorem limitChange_held (w : LimitSwitch) (active : Bool) (held : s.held = true) :
    limitChangeEffect w active s = s.withLimit w active := if_pos held

theorem limitChange_both {w : LimitSwitch} {active : Bool} (held : s.held = false)
    (both : BothLimits (s.withLimit w active)) :
    limitChangeEffect w active s =
      if s.saw.state.isFault then s.withLimit w active else sawFaulting (s.withLimit w active) .limit := by
  have pair := Bool.and_eq_true_iff.2 both
  refine (if_neg (Bool.eq_false_iff.1 held)).trans ((if_pos pair).trans ?_)
  rw [State.judgeLimits, faultSaw_eq, pair, Bool.true_and]
  cases s.saw.state.isFault <;> rfl

theorem limitChange_single {w : LimitSwitch} {active : Bool} (held : s.held = false)
    (both : ¬ BothLimits (s.withLimit w active)) :
    limitChangeEffect w active s =
      if active then ((s.withLimit w active).endFeedAt (limitDirection w)).syncSaw else s.withLimit w active :=
  (if_neg (Bool.eq_false_iff.1 held)).trans (if_neg (mt Bool.and_eq_true_iff.1 both))

theorem estop_faults {active : Bool} (held : s.held = false) (on : active = true) (sound : s.saw.state.isFault = false) :
    estopEffect active s = sawFaulting { s with pins := { s.pins with estop := active } } .estop := by
  refine (if_neg (Bool.eq_false_iff.1 held)).trans ((if_pos ?_).trans (faultSaw_eq _ _))
  rw [on, sound]
  rfl

theorem estop_kept {active : Bool} (kept : s.held = true ∨ active = false ∨ s.saw.state.isFault = true) :
    estopEffect active s = { s with pins := { s.pins with estop := active } } := by
  by_cases held : s.held = true
  · exact if_pos held
  · refine (if_neg held).trans (if_neg ?_)
    rcases kept with h | off | fault
    · exact absurd h held
    · simp [off]
    · simp [fault]

end

/-- Settles O50: each change by the equation of its case. -/
theorem sawInputsAndFaults : Obligations.SawInputsAndFaults := by
  intro s
  refine ⟨fun c closed => ⟨fun held => ?fbHeld, fun held closes => ?closesDelta, fun held not => ?fbJudged⟩,
    fun c held => ⟨fun since runs sound => ?disagrees, fun idle => ?agrees⟩,
    fun w active => ⟨fun held => ?limitHeld, fun held both sound => ?limitFault, fun held both fault => ?limitInFault,
      fun held single ends => ?feedEnds, fun held single stays => ?feedStays⟩,
    fun active => ⟨fun held on sound => ?estop, fun kept => ?estopKept⟩⟩
  case fbHeld => exact congrArg _ (sawFeedback_held c closed held)
  case closesDelta => exact congrArg _ ((sawFeedback_released c closed held).trans (if_pos closes))
  case fbJudged => exact congrArg _ ((sawFeedback_released c closed held).trans (if_neg not))
  case disagrees => exact exec_running rfl held (disagreement_expires runs sound)
  case agrees => exact exec_running rfl held (disagreement_idle idle)
  case limitHeld => exact congrArg _ (limitChange_held w active held)
  case limitFault => exact congrArg _ ((limitChange_both held both).trans (if_neg (Bool.eq_false_iff.1 sound)))
  case limitInFault => exact congrArg _ ((limitChange_both held both).trans (if_pos fault))
  case feedEnds =>
    obtain ⟨on, ends⟩ := ends
    exact congrArg _ ((limitChange_single held single).trans ((if_pos on).trans
      (endFeedAt_ends (s := s.withLimit w active) ((feedEndsAt_limit w _).2 ends))))
  case feedStays =>
    refine congrArg _ ((limitChange_single held single).trans ?_)
    cases active with
    | false => rfl
    | true =>
      have kept : ¬ FeedEndsAt (limitDirection w) s.saw.state := fun ends => stays ⟨rfl, (feedEndsAt_limit w _).1 ends⟩
      exact congrArg State.syncSaw (endFeedAt_stays (s := s.withLimit w true) kept)
  case estop => exact congrArg _ (estop_faults held on sound)
  case estopKept => exact congrArg _ (estop_kept kept)

end Sys2Proof.Machine

namespace Sys2Proof.Machine

/-! ### The snapshots (R155 to R158) -/

section
variable {s : State} {l : Link}

/-- A claim on the snapshot record of a link: READY is cleared. -/
def State.unready (s : State) (l : Link) : State :=
  { s with meas := { s.meas with snapshots := s.meas.snapshots.put l { s.meas.snapshots.get l with ready := false } } }

/-- R156: a capture begins. -/
def State.capturing (s : State) (l : Link) : State :=
  { s.unready l with
    meas :=
      { (s.unready l).meas with
        captures := s.meas.captures.put l (some { count := 0, filtered := 0, pg := 0, pb := 0, ps := 0 }) } }

theorem takeSnapshot_busy (runs : (s.meas.captures.get l).isSome = true) :
    takeSnapshotEffect l s = s.answer l 0x60 .busy := if_pos runs

theorem takeSnapshot_black (idle : s.meas.captures.get l = none) (black : s.meas.lastReport.state = .black) :
    takeSnapshotEffect l s = s.answer l 0x60 .stationBlack :=
  (if_neg (by simp [idle])).trans (if_pos black)

theorem takeSnapshot_starts (idle : s.meas.captures.get l = none) (live : s.meas.lastReport.state ≠ .black) :
    takeSnapshotEffect l s = (s.capturing l).answer l 0x60 .ok :=
  (if_neg (by simp [idle])).trans (if_neg live)

theorem readSnapshot_ready (ready : (s.meas.snapshots.get l).ready = true) :
    readSnapshotEffect l s = (s.unready l).reply l 0x61 .ok (snapshotBytes (s.meas.snapshots.get l)) := if_pos ready

theorem readSnapshot_refused (unready : (s.meas.snapshots.get l).ready = false) :
    readSnapshotEffect l s = s.answer l 0x61 .wrongState := if_neg (Bool.eq_false_iff.1 unready)

theorem snapshotBytes_eq (r : Snapshot) :
    snapshotBytes r =
      fieldBytes
        [(2, r.filtered), (2, r.pg), (2, r.pb), (2, r.ps), (2, r.d), (2, r.bands.h), (2, r.bands.w), (2, r.bands.c),
         (2, r.h), (2, r.w), (2, r.s), (1, stationCode r.station), (1, r.void.toNat)] := by
  simp [snapshotBytes, flag]

/-- R157: a capture with the posting of the state joined. -/
def Capture.joined (c : Capture) (s : State) : Capture :=
  { count := c.count + 1, filtered := c.filtered + s.filtered.getD 0, pg := c.pg + s.meas.pg, pb := c.pb + s.meas.pb,
    ps := c.ps + s.meas.ps }

theorem capturePosting_none (idle : s.meas.captures.get l = none) : s.capturePosting l = s := by
  unfold State.capturePosting
  simp only [idle]

theorem capturePosting_some {c : Capture} (runs : s.meas.captures.get l = some c) :
    s.capturePosting l =
      if 10 ≤ c.count + 1 then
        s.endCapture l (s.snapshotOf (c.joined s) s.hSum s.wSum s.sSum s.meas.lastReport.state false)
      else { s with meas := { s.meas with captures := s.meas.captures.put l (some (c.joined s)) } } := by
  unfold State.capturePosting
  simp only [runs]
  rfl

end

/-- Settles O52: each order and each posting by the equation of its case. -/
theorem snapshotsAreTakenAndReadOnce : Obligations.SnapshotsAreTakenAndReadOnce := by
  intro l s
  refine ⟨fun held => ⟨fun runs => ?_, fun idle black => ?_, fun idle live => ?_, fun ready => ?_, fun unready => ?_⟩,
    snapshotBytes_eq, capturePosting_none, fun c runs => ⟨fun fewer => ?joins, fun ten => ?ends⟩⟩
  · exact exec_arrival rfl held (takeSnapshot_busy (s := s.arrive _) runs)
  · exact exec_arrival rfl held (takeSnapshot_black (s := s.arrive _) idle black)
  · exact exec_arrival rfl held (takeSnapshot_starts (s := s.arrive _) idle live)
  · exact exec_arrival rfl held (readSnapshot_ready (s := s.arrive _) ready)
  · exact exec_arrival rfl held (readSnapshot_refused (s := s.arrive _) unready)
  case joins => exact (capturePosting_some runs).trans (if_neg (Nat.not_le.2 fewer))
  case ends => exact (capturePosting_some runs).trans (if_pos ten)

end Sys2Proof.Machine

namespace Sys2Proof.Machine

/-! ### The figures of a cycle (R152) -/

theorem foldl_add_eq_sum {α : Type} (f : α → Int) (xs : List α) (a : Int) :
    xs.foldl (fun t x => t + f x) a = a + (xs.map f).sum := by
  induction xs generalizing a with
  | nil => simp
  | cons x xs ih => rw [List.foldl_cons, ih, List.map_cons, List.sum_cons, Int.add_assoc]

theorem sampleSum_eq (f : Sample → Int) (first : Sample) (rest : List Sample) :
    sampleSum f first rest = ((first :: rest).map f).sum := foldl_add_eq_sum f rest (f first)

/-- A negative total counts as nothing. -/
theorem toNat_tdiv (a : Int) (n : Nat) : (a.tdiv n).toNat = a.toNat / n := by
  cases a with
  | ofNat m => rfl
  | negSucc m =>
    have quotient : (Int.negSucc m).tdiv n = -((m + 1 : Nat) / n : Nat) := by rw [Int.negSucc_eq, Int.neg_tdiv]; rfl
    rw [quotient, Int.toNat_neg_natCast, Int.toNat_negSucc, Nat.zero_div]

theorem figureLu_eq (total : Int) (count : Nat) :
    figureLu total count = min (total.toNat / (10000000 * count)) 9999 := by
  have scale : (count : Int) * 10000000 = ((10000000 * count : Nat) : Int) := by push_cast; exact Int.mul_comm _ _
  rw [figureLu, scale, toNat_tdiv]
  rfl

/-- R152: a figure of three equal phases. -/
theorem figureLu_three (total : Int) (count : Nat) :
    figureLu (3 * total) count = min (3 * total.toNat / (10000000 * count)) 9999 := by
  rw [figureLu_eq, show (3 * total).toNat = 3 * total.toNat by omega]

/-! ### The ballast discrepancy flag (R154) -/

/-- The difference between Pb and Bc. -/
abbrev State.apart (s : State) : Nat := if s.meas.pb ≤ s.bc then s.bc - s.meas.pb else s.meas.pb - s.bc

theorem discrepancy_eq_apart (s : State) : s.discrepancy = s.apart := by
  unfold State.discrepancy State.apart
  split <;> omega

theorem diverges_eq (s : State) : s.diverges = decide (25 * s.capacity < 100 * s.apart) := by
  rw [State.diverges, discrepancy_eq_apart]
  exact decide_eq_decide.2 (by omega)

theorem agrees_eq (s : State) :
    s.agrees =
      if s.capacity = 0 then decide (s.meas.pb = 0) else decide (100 * s.apart < 10 * s.capacity) := by
  rw [State.agrees, discrepancy_eq_apart]
  refine if_congr Iff.rfl rfl (decide_eq_decide.2 ?_)
  omega

theorem judgeDiscrepancy_black {s : State} (black : s.meas.lastReport.state = .black) : s.judgeDiscrepancy = s :=
  if_pos black

theorem judgeDiscrepancy_live {s : State} (live : s.meas.lastReport.state ≠ .black) :
    s.judgeDiscrepancy =
      { s with
        meas :=
          { s.meas with
            divergence := judgedTiming s.meas.divergence (decide (25 * s.capacity < 100 * s.apart)) s.clock
            agreement :=
              judgedTiming s.meas.agreement
                (if s.capacity = 0 then decide (s.meas.pb = 0) else decide (100 * s.apart < 10 * s.capacity)) s.clock } } := by
  rw [State.judgeDiscrepancy, if_neg live, judge_eq, judge_eq, diverges_eq, agrees_eq]

/-! ### The captures at entry to BLACK (R157) -/

/-- The record that entry to BLACK makes of a running capture. -/
def voidRecord (s : State) (c : Capture) : Snapshot :=
  { filtered := c.filtered / c.count, pg := c.pg / c.count, pb := c.pb / c.count
    ps := c.ps / c.count, d := s.alw.d, bands := s.alw.bands, h := 0, w := 0, s := 0
    station := .black, void := true, ready := true }

/-- A link's context with a notice added. -/
def LinkContext.withNotice (c : LinkContext) (k : Notice) : LinkContext := { c with notices := c.notices ||| k.bit }

theorem addNotice_link_self (s : State) (l : Link) (k : Notice) :
    (s.addNotice l k).link l = (s.link l).withNotice k := link_onLink_self s l _

/-- What entry to BLACK makes of a link's capture. -/
def Voids (s t : State) (l : Link) : Prop :=
  (s.meas.captures.get l = none →
      t.meas.snapshots.get l = s.meas.snapshots.get l ∧ t.meas.captures.get l = none ∧ t.link l = s.link l)
    ∧ ∀ c : Capture, s.meas.captures.get l = some c →
        t.meas.captures.get l = none ∧ t.link l = (s.addNotice l .snapshot).link l
          ∧ t.meas.snapshots.get l = voidRecord s c

/-- A link's capture, its record and its context are as they were. -/
def Spares (s t : State) (l : Link) : Prop :=
  t.meas.snapshots.get l = s.meas.snapshots.get l ∧ t.meas.captures.get l = s.meas.captures.get l ∧ t.link l = s.link l

/-- Two states that differ in the captures, the records and the links alone. -/
def OnlyCaptures (s t : State) : Prop :=
  t = { s with meas := { s.meas with captures := t.meas.captures, snapshots := t.meas.snapshots }, links := t.links }

section
variable {s t u : State} {l m : Link}

theorem voidCapture_none (idle : s.meas.captures.get l = none) : s.voidCapture l = s := by
  unfold State.voidCapture
  simp only [idle]

theorem voidCapture_some {c : Capture} (runs : s.meas.captures.get l = some c) :
    s.voidCapture l = s.endCapture l (voidRecord s c) := by
  unfold State.voidCapture
  simp only [runs]
  rfl

theorem voidCapture_voids (s : State) (l : Link) : Voids s (s.voidCapture l) l := by
  refine ⟨fun idle => ?_, fun c runs => ?_⟩
  · rw [voidCapture_none idle]
    exact ⟨rfl, idle, rfl⟩
  · rw [voidCapture_some runs]
    exact ⟨get_put _ _ _, (addNotice_link_self _ l _).trans (addNotice_link_self s l _).symm, get_put _ _ _⟩

theorem voidCapture_spares (s : State) (ne : m ≠ l) : Spares s (s.voidCapture l) m := by
  cases runs : s.meas.captures.get l with
  | none =>
    rw [voidCapture_none runs]
    exact ⟨rfl, rfl, rfl⟩
  | some c =>
    rw [voidCapture_some runs]
    exact ⟨get_put_of_ne _ _ ne, get_put_of_ne _ _ ne, link_onLink_of_ne _ _ ne⟩

theorem voidCapture_onlyCaptures (s : State) (l : Link) : OnlyCaptures s (s.voidCapture l) := by
  cases runs : s.meas.captures.get l with
  | none =>
    rw [voidCapture_none runs]
    exact rfl
  | some c =>
    rw [voidCapture_some runs]
    exact rfl

theorem OnlyCaptures.trans (first : OnlyCaptures s t) (next_ : OnlyCaptures t u) : OnlyCaptures s u := by
  unfold OnlyCaptures at first next_ ⊢
  rw [next_, first]

theorem OnlyCaptures.meas_links (h : OnlyCaptures s t) : t = { s with meas := t.meas, links := t.links } := by
  unfold OnlyCaptures at h
  rw [h]

theorem Spares.trans (first : Spares s t l) (next_ : Spares t u l) : Spares s u l := by
  obtain ⟨record, capture, link⟩ := first
  obtain ⟨record', capture', link'⟩ := next_
  exact ⟨record'.trans record, capture'.trans capture, link'.trans link⟩

theorem Voids.trans_spares (first : Voids s t l) (next_ : Spares t u l) : Voids s u l := by
  obtain ⟨idle, runs⟩ := first
  obtain ⟨record', capture', link'⟩ := next_
  refine ⟨fun none_ => ?_, fun c some_ => ?_⟩
  · obtain ⟨record, capture, link⟩ := idle none_
    exact ⟨record'.trans record, capture'.trans capture, link'.trans link⟩
  · obtain ⟨capture, link, record⟩ := runs c some_
    exact ⟨capture'.trans capture, link'.trans link, record'.trans record⟩

theorem Spares.trans_voids (first : Spares s t l) (alw : t.alw = s.alw) (next_ : Voids t u l) : Voids s u l := by
  obtain ⟨record, capture, link⟩ := first
  obtain ⟨idle, runs⟩ := next_
  refine ⟨fun none_ => ?_, fun c some_ => ?_⟩
  · obtain ⟨record', capture', link'⟩ := idle (capture.trans none_)
    exact ⟨record'.trans record, capture', link'.trans link⟩
  · obtain ⟨capture', link', record'⟩ := runs c (capture.trans some_)
    refine ⟨capture', link'.trans ?_, record'.trans (by rw [voidRecord, voidRecord, alw])⟩
    rw [addNotice_link_self, addNotice_link_self, link]

end

/-- R157: the three captures at entry to BLACK. -/
def State.voidCaptures (s : State) : State := ((s.voidCapture .l1).voidCapture .l2).voidCapture .l3

theorem voidCaptures_voids (s : State) (l : Link) : Voids s s.voidCaptures l := by
  cases l with
  | l1 =>
    exact ((voidCapture_voids s .l1).trans_spares (voidCapture_spares _ (by decide))).trans_spares
      (voidCapture_spares _ (by decide))
  | l2 =>
    exact ((voidCapture_spares s (by decide)).trans_voids (voidCapture_alw s .l1) (voidCapture_voids _ .l2)).trans_spares
      (voidCapture_spares _ (by decide))
  | l3 =>
    exact ((voidCapture_spares s (by decide)).trans (voidCapture_spares _ (by decide))).trans_voids
      ((voidCapture_alw _ .l2).trans (voidCapture_alw s .l1)) (voidCapture_voids _ .l3)

theorem voidCaptures_onlyCaptures (s : State) : OnlyCaptures s s.voidCaptures :=
  ((voidCapture_onlyCaptures s .l1).trans (voidCapture_onlyCaptures _ .l2)).trans (voidCapture_onlyCaptures _ .l3)

/-! ### The reports and the timings of the Measurement Unit -/

section
variable {s : State}

/-- R15: the Measurement Unit is told of a change. -/
def State.measTold (s : State) (r : StateReport) : State :=
  { s with meas := { s.meas with lastReport := { state := r.entered, reasons := r.reasons } } }

/-- R153, R154: the figures and timings that entry to BLACK leaves. -/
def State.measCleared (s : State) : State :=
  { s with meas := { s.meas with pg := 0, ps := 0, pb := 0, divergence := .stopped, agreement := .stopped } }

theorem measurementReport_live {r : StateReport} (live : r.entered ≠ .black) :
    measurementReportEffect r s = s.measTold r := if_neg live

theorem measurementReport_black {r : StateReport} (black : r.entered = .black) :
    measurementReportEffect r s = (s.measTold r).measCleared.voidCaptures := if_pos black

theorem divergence_expires {since : Nat} (runs : s.meas.divergence = .running since) :
    divergenceEffect s =
      { s.reachTick (since + 500) with
        meas :=
          { s.meas with
            divergence := .complete since
            discrepancy := true
            agreement := if s.meas.discrepancy then s.meas.agreement else .stopped } } := by
  unfold divergenceEffect
  simp only [runs]
  rfl

theorem agreement_expires {since : Nat} (runs : s.meas.agreement = .running since) :
    agreementEffect s =
      { s.reachTick (since + 500) with
        meas := { s.meas with agreement := .complete since, discrepancy := false } } := by
  unfold agreementEffect
  simp only [runs]
  rfl

theorem divergence_idle (idle : ∀ since : Nat, s.meas.divergence ≠ .running since) : divergenceEffect s = s := by
  unfold divergenceEffect
  split
  next since runs => exact absurd runs (idle since)
  all_goals rfl

theorem agreement_idle (idle : ∀ since : Nat, s.meas.agreement ≠ .running since) : agreementEffect s = s := by
  unfold agreementEffect
  split
  next since runs => exact absurd runs (idle since)
  all_goals rfl

end

/-- Settles O51: the figures by `figureLu_eq`, the reports and expiries by their equations, the captures by `voidCaptures_voids`. -/
theorem measurementReportsAndTimings : Obligations.MeasurementReportsAndTimings := by
  refine ⟨fun first rest => ⟨?generator, ?saw, ?ballast⟩,
    fun s => ⟨fun pg ps pb => rfl, judgeDiscrepancy_black, judgeDiscrepancy_live⟩, fun s held =>
    ⟨fun r => ⟨fun live => exec_arrival rfl held (measurementReport_live (s := s.arrive _) live), fun black => ?black⟩,
      fun since runs => exec_running rfl held (divergence_expires runs),
      fun since runs => exec_running rfl held (agreement_expires runs),
      fun idle => exec_running rfl held (divergence_idle idle), fun idle => exec_running rfl held (agreement_idle idle)⟩⟩
  case generator => rw [generatorFigure, figureLu_eq, sampleSum_eq]
  case saw => rw [sawFigure, figureLu_three, sampleSum_eq]
  case ballast => rw [ballastFigure, figureLu_three, sampleSum_eq]
  case black =>
    refine ⟨_, exec_arrival rfl held (measurementReport_black (s := s.arrive _) black), ?_⟩
    set cleared := ((s.arrive (.measurementStateReport r)).measTold r).measCleared
    have only := voidCaptures_onlyCaptures cleared
    have meas : cleared.voidCaptures.meas = _ := congrArg State.meas only
    have voids := voidCaptures_voids cleared
    refine ⟨by rw [meas]; rfl, by rw [meas]; rfl, by rw [meas]; rfl, by rw [meas]; rfl, by rw [meas]; rfl, by rw [meas]; rfl,
      by rw [meas]; rfl, fun l idle => (voids l).1 idle, fun l c runs => (voids l).2 c runs, ?_⟩
    exact only.meas_links

end Sys2Proof.Machine

namespace Sys2Proof.Machine

/-! ### Supervision, the link record and the station's reports at a link (R15, R162, R167 to R169) -/

section
variable {s : State} {l m : Link} {p d : Nat}

theorem supervise_refused (out : p < 5 ∨ 255 < p) : superviseEffect l p s = s.answer l 0x05 .badOperand :=
  if_neg (by simp [periodAllowed]; omega)

theorem supervise_allowed (low : 5 ≤ p) (high : p ≤ 255) :
    superviseEffect l p s =
      (s.onLink l fun c =>
        { c with
          supervision :=
            some { period := p, deadline := if c.lost then none else some (s.clock + 10 * p) } }).answer l 0x05 .ok := by
  rw [← show Config.tenths p = 10 * p from Nat.mul_comm _ _]
  exact if_pos (by simp [periodAllowed, low, high])

theorem notifyOthers_self (s : State) (l : Link) (k : Notice) : (s.addNotices (otherLinks l) k).link l = s.link l := by
  cases l <;> rfl

theorem notifyOthers_of_ne (s : State) (k : Notice) (ne : m ≠ l) :
    (s.addNotices (otherLinks l) k).link m = (s.link m).withNotice k := by
  cases l <;> cases m <;> simp at ne <;> rfl

/-- R169: a link that has become LOST. -/
def LinkContext.gone (c : LinkContext) (p : Nat) : LinkContext :=
  { c with lost := true, supervision := some { period := p, deadline := none } }

theorem supervisionExpiry_runs (active : (s.link l).lost = false)
    (runs : (s.link l).supervision = some { period := p, deadline := some d }) :
    supervisionExpiryEffect l s =
      (((s.reachTick d).onLink l fun c => c.gone p).addNotices (otherLinks l) .link).sendAll
        [.linkLossReportAllowance l, .linkLossReportSaw l] := by
  unfold supervisionExpiryEffect
  simp only [active, runs]
  rfl

theorem supervisionExpiry_idle
    (idle : (s.link l).lost = true ∨ (s.link l).supervision.bind Supervision.deadline = none) :
    supervisionExpiryEffect l s = s := by
  unfold supervisionExpiryEffect
  split
  next p d active runs => simp [active, runs] at idle
  · rfl

/-- R167: the four window fields of the link record. -/
theorem windowBytes_eq (w : Option WindowRange) :
    windowBytes w =
      fieldBytes
        [(1, w.isSome.toNat), (1, (w.map fun w => tableCode w.table).getD 0), (1, (w.map WindowRange.first).getD 0),
         (1, (w.map WindowRange.last).getD 0), (1, (w.map WindowRange.pointer).getD 0)] := by
  cases w <;> rfl

theorem linkRecord_eq (s : State) (l : Link) :
    s.linkRecord l =
      Config.linkStateCode (s.link l).atFrame.lost ::
        fieldBytes
          [(1, (s.link l).supervision.isSome.toNat), (1, ((s.link l).supervision.map Supervision.period).getD 0),
           (2, (((s.link l).supervision.bind Supervision.deadline).map fun t => t - s.clock).getD 0),
           (1, (s.link l).discarded), (1, (s.link l).broken.toNat), (2, (s.link l).mask.toNat),
           (1, (s.link l).atFrame.window.isSome.toNat), (1, ((s.link l).atFrame.window.map fun w => tableCode w.table).getD 0),
           (1, ((s.link l).atFrame.window.map WindowRange.first).getD 0),
           (1, ((s.link l).atFrame.window.map WindowRange.last).getD 0),
           (1, ((s.link l).atFrame.window.map WindowRange.pointer).getD 0)] := by
  unfold State.linkRecord
  dsimp only
  rw [windowBytes_eq]
  generalize (s.link l).supervision = supervision
  cases supervision with
  | none => rfl
  | some v => obtain ⟨period, _ | deadline⟩ := v <;> rfl

theorem linkRecord_length (s : State) (l : Link) : (s.linkRecord l).length = 14 := by
  rw [linkRecord_eq]
  rfl

/-- R15: STATION, and CLOSE_GATE to L1 at entry to RUNAWAY. -/
theorem linkReportEffect_eq (l : Link) (r : StateReport) (s : State) :
    linkReportEffect l r s =
      s.onLink l fun c =>
        { c with
          notices :=
            c.notices ||| Notice.station.bit ||| if l = .l1 ∧ r.entered = .runaway then Notice.closeGate.bit else 0 } := by
  unfold linkReportEffect
  dsimp only
  split
  next gate =>
    obtain ⟨rfl, -⟩ := gate
    rfl
  next => simp only [BitVec.ofNat_eq_ofNat, BitVec.or_zero]; rfl

end

/-- Settles O59: each order, expiry and report by the equation of its case. -/
theorem supervisionAndLinkReports : Obligations.SupervisionAndLinkReports := by
  intro l s held
  refine ⟨fun p => ⟨fun out => ?_, fun low high => ?_⟩, fun p d active runs => ?expires, fun idle => ?idle,
    ⟨exec_arrival (f := readLinkEffect l) rfl held rfl, linkRecord_length s l, linkRecord_eq s l, rfl⟩, fun r => ?report⟩
  · exact exec_arrival rfl held (supervise_refused (s := s.arrive _) out)
  · exact exec_arrival rfl held (supervise_allowed (s := s.arrive _) low high)
  case expires =>
    refine ⟨_, exec_running rfl held (supervisionExpiry_runs active runs), ?_, fun m ne => ?_, ?_⟩
    · exact (notifyOthers_self _ l .link).trans (link_onLink_self _ l _)
    · refine (notifyOthers_of_ne _ .link ne).trans ?_
      rw [addNotice_link_self, link_onLink_of_ne _ _ ne]
      rfl
    · cases l <;> rfl
  case idle => exact exec_running rfl held (supervisionExpiry_idle idle)
  case report => exact exec_arrival rfl held (linkReportEffect_eq l r (s.arrive _))

end Sys2Proof.Machine

namespace Sys2Proof.Machine

/-! ### Opening a window (R93, R164, R166) -/

/-- Two states that differ in the Settings Unit and the links alone. -/
def OnlySettings (s t : State) : Prop := t = { s with set := t.set, links := t.links }

/-- R166: a link's context where a window on a table is pre-empted. -/
def LinkContext.preempted (c : LinkContext) (t : TableId) : LinkContext :=
  if c.window.any fun w => decide (w.range.table = t) then
    { c with window := none, broken := true, notices := c.notices ||| Notice.broken.bit }
  else c

/-- R93: what a link is told as a window discards a proposal: its proposer that its work is broken, another of the change. -/
def LinkContext.told (c : LinkContext) (proposer bystander : Bool) : LinkContext :=
  { c with
    broken := c.broken || proposer
    notices :=
      c.notices ||| (if proposer then Notice.broken.bit else 0) ||| if bystander then Notice.settings.bit else 0 }

theorem LinkContext.told_bystander (c : LinkContext) : c.told false true = c.withNotice .settings := by
  simp [LinkContext.told, LinkContext.withNotice]

theorem LinkContext.told_proposer (c : LinkContext) :
    c.told true false = { c with broken := true, notices := c.notices ||| Notice.broken.bit } := by
  simp [LinkContext.told]

theorem LinkContext.told_nothing (c : LinkContext) : c.told false false = c := by
  simp [LinkContext.told]

theorem LinkContext.withNotice_twice (c : LinkContext) (k : Notice) : (c.withNotice k).withNotice k = c.withNotice k := by
  simp [LinkContext.withNotice, BitVec.or_assoc]

section
variable {s t u : State} {l m : Link} {tb : TableId} {sh : SharedId} {first last : Nat}

theorem OnlySettings.refl (s : State) : OnlySettings s s := rfl

theorem OnlySettings.trans (before : OnlySettings s t) (after : OnlySettings t u) : OnlySettings s u := by
  unfold OnlySettings at before after ⊢
  rw [after, before]

theorem mem_otherLinks : m ∈ otherLinks l ↔ m ≠ l := by
  cases l <;> cases m <;> decide

/-- A notice to a list of links reaches each of them, once. -/
theorem addNotices_link (ls : List Link) (k : Notice) (s : State) (m : Link) :
    (s.addNotices ls k).link m = if m ∈ ls then (s.link m).withNotice k else s.link m := by
  induction ls generalizing s with
  | nil => rfl
  | cons l ls ih =>
    refine (ih (s.addNotice l k)).trans ?_
    by_cases head : m = l
    · rw [head, addNotice_link_self, LinkContext.withNotice_twice, ite_self, if_pos List.mem_cons_self]
    · rw [State.addNotice, link_onLink_of_ne s _ head]
      exact if_congr (by simp [head]) rfl rfl

theorem addNotices_set (ls : List Link) (k : Notice) (s : State) : (s.addNotices ls k).set = s.set := by
  induction ls generalizing s with
  | nil => rfl
  | cons l ls ih => exact ih (s.addNotice l k)

theorem addNotices_onlySettings (ls : List Link) (k : Notice) (s : State) : OnlySettings s (s.addNotices ls k) := by
  induction ls generalizing s with
  | nil => exact .refl s
  | cons l ls ih => exact OnlySettings.trans (t := s.addNotice l k) rfl (ih _)

theorem onLink_fixed {f : LinkContext → LinkContext} (h : f (s.link m) = s.link m) : s.onLink m f = s := by
  rw [State.onLink, show f (s.links.get m) = s.links.get m from h, put_get]

/-- R166: a window on the table is pre-empted by losing it and by the BROKEN flag and notice. -/
theorem preempt_eq (s : State) (tb : TableId) (m : Link) : s.preempt tb m = s.onLink m fun c => c.preempted tb := by
  unfold State.preempt
  split
  next none_ =>
    have any : ((s.link m).window.any fun w => decide (w.range.table = tb)) = false := by rw [none_, Option.any_none]
    exact (onLink_fixed (if_neg (Bool.eq_false_iff.1 any))).symm
  next w open_ =>
    have any : ((s.link m).window.any fun w => decide (w.range.table = tb)) = decide (w.range.table = tb) := by
      rw [open_, Option.any_some]
    split
    next same =>
      have broken : (s.link m).preempted tb =
          { s.link m with window := none, broken := true, notices := (s.link m).notices ||| Notice.broken.bit } :=
        if_pos (any.trans (decide_eq_true same))
      refine Eq.trans ?_ (congrArg (fun c => { s with links := s.links.put m c }) broken.symm)
      cases m <;> rfl
    next other => exact (onLink_fixed (if_neg (mt (any ▸ of_decide_eq_true) other))).symm

/-- R166: the windows of the other links that stand on the table are pre-empted. -/
theorem preemptions_self (s : State) (l : Link) (tb : TableId) :
    ((otherLinks l).foldl (fun u other => u.preempt tb other) s).link l = s.link l := by
  cases l <;> simp only [otherLinks, List.foldl, preempt_eq] <;> rfl

theorem preemptions_of_ne (s : State) (tb : TableId) (ne : m ≠ l) :
    ((otherLinks l).foldl (fun u other => u.preempt tb other) s).link m = (s.link m).preempted tb := by
  cases l <;> cases m <;> simp at ne <;> simp only [otherLinks, List.foldl, preempt_eq] <;> rfl

theorem preemptions_onlySettings (s : State) (l : Link) (tb : TableId) :
    OnlySettings s ((otherLinks l).foldl (fun u other => u.preempt tb other) s) := by
  cases l <;> simp only [otherLinks, List.foldl, preempt_eq] <;> rfl

theorem preemptions_set (s : State) (l : Link) (tb : TableId) :
    ((otherLinks l).foldl (fun u other => u.preempt tb other) s).set = s.set := by
  cases l <;> simp only [otherLinks, List.foldl, preempt_eq] <;> rfl

/-! ### The proposal that the window discards -/

theorem setProposal_link (s : State) (sh : SharedId) (p : Option Proposal) (m : Link) :
    (s.setProposal sh p).link m = s.link m := by cases sh <;> rfl

theorem setProposal_onlySettings (s : State) (sh : SharedId) (p : Option Proposal) :
    OnlySettings s (s.setProposal sh p) := by cases sh <;> rfl

theorem setProposal_none (idle : s.set.proposal sh = none) : s.setProposal sh none = s := by
  cases sh <;> exact congrArg (fun p => State.setProposal s _ p) idle.symm

theorem discardProposal_none (idle : s.set.proposal sh = none) : s.discardProposal l sh = s := by
  unfold State.discardProposal
  simp only [idle]

theorem discardProposal_own {p : Proposal} (pending : s.set.proposal sh = some p) (own : p.proposer = l) :
    s.discardProposal l sh = (s.setProposal sh none).addNotices (otherLinks l) .settings := by
  unfold State.discardProposal
  simp only [pending]
  exact if_pos own

theorem discardProposal_other {p : Proposal} (pending : s.set.proposal sh = some p) (other : p.proposer ≠ l) :
    s.discardProposal l sh =
      ((s.setProposal sh none).breakLink p.proposer).addNotices ((otherLinks l).filter fun m => m ≠ p.proposer)
        .settings := by
  unfold State.discardProposal
  simp only [pending]
  exact if_neg other

theorem breakLink_self (s : State) (m : Link) : (s.breakLink m).link m = (s.link m).told true false := by
  rw [LinkContext.told_proposer]
  cases m <;> rfl

theorem breakLink_of_ne (s : State) (ne : m ≠ l) : (s.breakLink l).link m = s.link m :=
  (link_onLink_of_ne _ _ ne).trans (link_onLink_of_ne _ _ ne)

theorem discardProposal_self (s : State) (l : Link) (sh : SharedId) : (s.discardProposal l sh).link l = s.link l := by
  cases pending : s.set.proposal sh with
  | none => rw [discardProposal_none pending]
  | some p =>
    by_cases own : p.proposer = l
    · rw [discardProposal_own pending own, notifyOthers_self, setProposal_link]
    · rw [discardProposal_other pending own, addNotices_link, if_neg (by simp [mem_otherLinks]),
        breakLink_of_ne _ (Ne.symm own), setProposal_link]

theorem discardProposal_of_ne (s : State) (sh : SharedId) (ne : m ≠ l) :
    (s.discardProposal l sh).link m =
      (s.link m).told ((s.set.proposal sh).any fun p => decide (p.proposer = m))
        ((s.set.proposal sh).any fun p => decide (p.proposer ≠ m)) := by
  cases pending : s.set.proposal sh with
  | none => rw [discardProposal_none pending, Option.any_none, Option.any_none, LinkContext.told_nothing]
  | some p =>
    rw [Option.any_some, Option.any_some]
    by_cases own : p.proposer = l
    · rw [discardProposal_own pending own, notifyOthers_of_ne _ _ ne, setProposal_link,
        decide_eq_false (own ▸ Ne.symm ne), decide_eq_true (own ▸ Ne.symm ne), LinkContext.told_bystander]
    · rw [discardProposal_other pending own, addNotices_link]
      by_cases proposer : p.proposer = m
      · subst proposer
        rw [if_neg (by simp), breakLink_self, setProposal_link, decide_eq_true rfl, decide_eq_false (not_not_intro rfl)]
      · rw [if_pos (by simp [mem_otherLinks, ne, Ne.symm proposer]), breakLink_of_ne _ (Ne.symm proposer), setProposal_link,
          decide_eq_false proposer, decide_eq_true proposer, LinkContext.told_bystander]

theorem discardProposal_set (s : State) (l : Link) (sh : SharedId) :
    (s.discardProposal l sh).set = (s.setProposal sh none).set := by
  cases pending : s.set.proposal sh with
  | none => rw [discardProposal_none pending, setProposal_none pending]
  | some p =>
    by_cases own : p.proposer = l
    · rw [discardProposal_own pending own, addNotices_set]
    · rw [discardProposal_other pending own, addNotices_set]
      rfl

theorem discardProposal_onlySettings (s : State) (l : Link) (sh : SharedId) : OnlySettings s (s.discardProposal l sh) := by
  cases pending : s.set.proposal sh with
  | none => rw [discardProposal_none pending]; exact .refl s
  | some p =>
    by_cases own : p.proposer = l
    · rw [discardProposal_own pending own]
      exact (setProposal_onlySettings s sh none).trans (addNotices_onlySettings _ _ _)
    · rw [discardProposal_other pending own]
      exact (setProposal_onlySettings s sh none).trans
        (OnlySettings.trans (t := (s.setProposal sh none).breakLink p.proposer) rfl (addNotices_onlySettings _ _ _))

/-! ### The way cleared, and the window opened -/

theorem clearTheWay_unshared (alone : sharedOf tb = none) : s.clearTheWay l tb = s := by
  unfold State.clearTheWay
  simp only [alone]

theorem clearTheWay_shared (shared : sharedOf tb = some sh) :
    s.clearTheWay l tb = ((otherLinks l).foldl (fun u other => u.preempt tb other) s).discardProposal l sh := by
  unfold State.clearTheWay
  simp only [shared]

theorem clearTheWay_self (s : State) (l : Link) (tb : TableId) : (s.clearTheWay l tb).link l = s.link l := by
  cases shared : sharedOf tb with
  | none => rw [clearTheWay_unshared shared]
  | some sh => rw [clearTheWay_shared shared, discardProposal_self, preemptions_self]

theorem clearTheWay_onlySettings (s : State) (l : Link) (tb : TableId) : OnlySettings s (s.clearTheWay l tb) := by
  cases shared : sharedOf tb with
  | none => rw [clearTheWay_unshared shared]; exact .refl s
  | some sh =>
    rw [clearTheWay_shared shared]
    exact (preemptions_onlySettings s l tb).trans (discardProposal_onlySettings _ l sh)

theorem clearTheWay_set (shared : sharedOf tb = some sh) :
    (s.clearTheWay l tb).set = (s.setProposal sh none).set := by
  have same := preemptions_set s l tb
  rw [clearTheWay_shared shared, discardProposal_set]
  cases sh <;> simp only [State.setProposal, same]

/-- R93, R166: another link's context after the way is cleared. -/
theorem told_preempted (c : LinkContext) (tb : TableId) (proposer bystander : Bool) :
    (c.preempted tb).told proposer bystander =
      let preempted : Bool := c.window.any fun w => decide (w.range.table = tb)
      { c with
        window := if preempted then none else c.window
        broken := c.broken || preempted || proposer
        notices :=
          c.notices ||| (if preempted || proposer then Notice.broken.bit else 0)
            ||| if bystander then Notice.settings.bit else 0 } := by
  unfold LinkContext.preempted
  dsimp only
  generalize (c.window.any fun w => decide (w.range.table = tb)) = preempted
  cases preempted <;> cases proposer <;> simp [LinkContext.told, BitVec.or_assoc]

theorem clearTheWay_of_ne (shared : sharedOf tb = some sh) (ne : m ≠ l) :
    (s.clearTheWay l tb).link m =
      ((s.link m).preempted tb).told ((s.set.proposal sh).any fun p => decide (p.proposer = m))
        ((s.set.proposal sh).any fun p => decide (p.proposer ≠ m)) := by
  rw [clearTheWay_shared shared, discardProposal_of_ne _ _ ne, preemptions_of_ne _ _ ne, preemptions_set]

/-- R164: a window with a staging copy of the committed table. -/
def State.freshWindow (s : State) (tb : TableId) (first last : Nat) : Window :=
  { range := { table := tb, first := first, last := last, pointer := first }, staging := tableBytes (s.set.tables.copy tb) }

theorem openWindowStatus_elsewhere (others : ∃ m : Link, tableOwner tb = some m ∧ m ≠ l) :
    openWindowStatus l tb first last = .notYourTable := by
  obtain ⟨m, owner, ne⟩ := others
  exact if_pos ⟨by simp [owner], by simp [owner, ne]⟩

theorem openWindowStatus_own (others : ¬ ∃ m : Link, tableOwner tb = some m ∧ m ≠ l) :
    openWindowStatus l tb first last =
      if first = 0 ∨ recordCount tb < last ∨ last < first then .badOperand else .ok := by
  refine if_neg fun h => ?_
  obtain ⟨owned, elsewhere⟩ := h
  obtain ⟨m, owner⟩ := Option.isSome_iff_exists.1 owned
  exact others ⟨m, owner, fun same => elsewhere (same ▸ owner)⟩

theorem openWindow_refused {st : Status} (status : openWindowStatus l tb first last = st) (refused : st ≠ .ok) :
    openWindowEffect l tb first last s = s.answer l 0x03 st := by
  unfold openWindowEffect
  split
  next ok => exact absurd (status.symm.trans ok) refused
  next => exact congrArg (s.answer l 0x03) status

/-- R164: the window is open, and OPEN WINDOW answered. -/
def State.windowOpened (s : State) (l : Link) (tb : TableId) (first last : Nat) : State :=
  ((s.clearTheWay l tb).onLink l fun c => { c with window := some (s.freshWindow tb first last) }).answer l 0x03 .ok

theorem openWindow_opens (status : openWindowStatus l tb first last = .ok) :
    openWindowEffect l tb first last s = s.windowOpened l tb first last := by
  unfold openWindowEffect
  simp only [status]
  rfl

theorem windowOpened_self (s : State) (l : Link) (tb : TableId) (first last : Nat) :
    (s.windowOpened l tb first last).link l =
      { s.link l with
        window := some (s.freshWindow tb first last), buffer := some { code := 0x03, status := .ok, data := [] } } := by
  refine (link_onLink_self _ l _).trans ?_
  rw [link_onLink_self, clearTheWay_self]

theorem windowOpened_of_ne (s : State) (tb : TableId) (first last : Nat) (ne : m ≠ l) :
    (s.windowOpened l tb first last).link m = (s.clearTheWay l tb).link m :=
  (link_onLink_of_ne _ _ ne).trans (link_onLink_of_ne _ _ ne)

theorem windowOpened_set (s : State) (l : Link) (tb : TableId) (first last : Nat) :
    (s.windowOpened l tb first last).set = (s.clearTheWay l tb).set := rfl

theorem windowOpened_onlySettings (s : State) (l : Link) (tb : TableId) (first last : Nat) :
    OnlySettings s (s.windowOpened l tb first last) :=
  (clearTheWay_onlySettings s l tb).trans rfl

end

/-- Settles O58: the refusals by the checks' statuses, the links as the way is cleared by `clearTheWay_of_ne`. -/
theorem openWindowClearsTheWay : Obligations.OpenWindowClearsTheWay := by
  intro l tb first last s held
  refine ⟨fun others => ?_, fun own out => ?_, fun own fits => ?opens⟩
  · exact exec_arrival rfl held (openWindow_refused (openWindowStatus_elsewhere others) (by decide))
  · exact exec_arrival rfl held (openWindow_refused ((openWindowStatus_own own).trans (if_pos out)) (by decide))
  case opens =>
    set a := s.arrive (.openWindow l tb first last)
    refine ⟨_, exec_arrival rfl held (openWindow_opens ((openWindowStatus_own own).trans (if_neg fits))),
      windowOpened_self a l tb first last, fun alone => ?_, fun sh shared => ⟨?_, fun m ne => ?_⟩,
      windowOpened_onlySettings a l tb first last⟩
    · have same := clearTheWay_unshared (s := a) (l := l) alone
      have set : (a.clearTheWay l tb).set = a.set := congrArg State.set same
      exact ⟨(windowOpened_set a l tb first last).trans set,
        fun m ne => (windowOpened_of_ne a tb first last ne).trans (congrArg (·.link m) same)⟩
    · exact (clearTheWay_set (s := a) shared).trans (by cases sh <;> rfl)
    · exact (windowOpened_of_ne a tb first last ne).trans ((clearTheWay_of_ne (s := a) shared ne).trans (told_preempted _ _ _ _))

end Sys2Proof.Machine

namespace Sys2Proof.Machine

/-! ### Proposals, confirmed, rejected or expired (R93 to R95) -/

/-- R94, R95: a proposal is gone and its proposer told. -/
def State.proposalGone (s : State) (sh : SharedId) (p : Proposal) : State :=
  { s with set := (s.setProposal sh none).set, links := (s.addNotice p.proposer .settings).links }

section
variable {s : State} {l : Link} {t : TableId} {sh : SharedId} {p : Proposal}

theorem endProposal_eq (s : State) (sh : SharedId) (p : Proposal) : s.endProposal sh p = s.proposalGone sh p := by
  cases sh <;> rfl

theorem proposalCheck_unshared (alone : sharedOf t = none) : s.proposalCheck l t = .error .badOperand := by
  unfold State.proposalCheck
  simp only [alone]

theorem proposalCheck_none (shared : sharedOf t = some sh) (idle : s.set.proposal sh = none) :
    s.proposalCheck l t = .error .noProposal := by
  unfold State.proposalCheck
  simp only [shared, idle]

theorem proposalCheck_some (shared : sharedOf t = some sh) (pending : s.set.proposal sh = some p) :
    s.proposalCheck l t = if p.proposer = l then .error .sameLink else .ok (sh, p) := by
  unfold State.proposalCheck
  simp only [shared, pending]

theorem confirm_refused {st : Status} (check : s.proposalCheck l t = .error st) :
    confirmEffect l t s = s.answer l 0x31 st := by
  unfold confirmEffect
  simp only [check]

theorem reject_refused {st : Status} (check : s.proposalCheck l t = .error st) :
    rejectEffect l t s = s.answer l 0x32 st := by
  unfold rejectEffect
  simp only [check]

theorem confirm_checked (check : s.proposalCheck l t = .ok (sh, p)) :
    confirmEffect l t s =
      if s.committedFits p.copy then ((s.proposalGone sh p).commit p.copy).answer l 0x31 .ok
      else (s.proposalGone sh p).answer l 0x31 .committedExceeds := by
  unfold confirmEffect
  simp only [check, endProposal_eq]

theorem reject_checked (check : s.proposalCheck l t = .ok (sh, p)) :
    rejectEffect l t s = (s.proposalGone sh p).answer l 0x32 .ok := by
  unfold rejectEffect
  simp only [check, endProposal_eq]

theorem proposalExpiry_some (pending : s.set.proposal sh = some p) :
    proposalExpiryEffect sh s = (s.reachTick p.expiry).proposalGone sh p := by
  unfold proposalExpiryEffect
  simp only [pending, endProposal_eq]

theorem proposalExpiry_none (idle : s.set.proposal sh = none) : proposalExpiryEffect sh s = s := by
  unfold proposalExpiryEffect
  simp only [idle]

theorem committedFits_bands (s : State) (t : BandsTable) :
    s.committedFits (.bands t) = true ↔
      (s.hSum - min t.hres s.alw.d) + (s.wSum - min t.wres (s.alw.d - min t.hres s.alw.d)) + s.sSum
        ≤ s.alw.d - min t.hres s.alw.d - min t.wres (s.alw.d - min t.hres s.alw.d) := decide_eq_true_iff

/-- The answer of CONFIRM and REJECT where the check of the proposal fails. -/
theorem exec_proposal_refused {st : Status} (held : s.held = false)
    (check : ∀ i : Instr, (s.arrive i).proposalCheck l t = .error st) :
    AnsweredOnly (.confirm l t) l 0x31 st s ∧ AnsweredOnly (.reject l t) l 0x32 st s :=
  ⟨exec_arrival rfl held (confirm_refused (check _)), exec_arrival rfl held (reject_refused (check _))⟩

/-- The proposal of a state with its messages elsewhere. -/
theorem proposalGone_arrive (s : State) (i : Instr) (sh : SharedId) (p : Proposal) :
    (s.arrive i).proposalGone sh p =
      { s.arrive i with set := (s.setProposal sh none).set, links := (s.addNotice p.proposer .settings).links } := by
  cases sh <;> rfl

end

/-- Settles O56: CONFIRM and REJECT by the outcome of their shared check. -/
theorem proposalsAreConfirmedOrDiscarded : Obligations.ProposalsAreConfirmedOrDiscarded := by
  intro s held
  refine ⟨fun l t => ⟨fun alone => ?_, fun sh shared => ⟨fun idle => ?_, fun p pending => ⟨fun own => ?_, fun other => ?answered⟩⟩⟩,
    fun sh p pending => ?expires, fun sh idle => exec_running rfl held (proposalExpiry_none idle), committedFits_bands s⟩
  · exact exec_proposal_refused held fun i => proposalCheck_unshared alone
  · exact exec_proposal_refused held fun i => proposalCheck_none shared idle
  · exact exec_proposal_refused held fun i => (proposalCheck_some (s := s.arrive i) shared pending).trans (if_pos own)
  case answered =>
    have check (i : Instr) := (proposalCheck_some (s := s.arrive i) (l := l) shared pending).trans (if_neg other)
    have confirmed := confirm_checked (check (.confirm l t))
    have rejected := reject_checked (check (.reject l t))
    rw [proposalGone_arrive] at confirmed rejected
    exact ⟨exec_arrival rfl held rejected, fun fits => exec_arrival rfl held (confirmed.trans (if_pos fits)),
      fun exceeds => exec_arrival rfl held (confirmed.trans (if_neg (Bool.eq_false_iff.1 exceeds)))⟩
  case expires =>
    refine exec_running rfl held ((proposalExpiry_some pending).trans ?_)
    cases sh <;> rfl

end Sys2Proof.Machine

namespace Sys2Proof.Machine

/-! ### Numbers as bytes and back (11) -/

theorem u8_toNat (a : Byte) : u8 a.toNat = [a] := by simp [u8]

theorem toNat_byte {n : Nat} (fits : n < 256) : (BitVec.ofNat 8 n).toNat = n := by
  rw [BitVec.toNat_ofNat]
  exact Nat.mod_eq_of_lt fits

theorem be16_lt (a b : Byte) : be16 a b < 65536 := by
  have := a.isLt
  have := b.isLt
  simp only [be16]
  omega

theorem u16_be16 (a b : Byte) : u16 (be16 a b) = [a, b] := by
  have low := b.isLt
  have high : (a.toNat * 256 + b.toNat) / 256 = a.toNat := by omega
  have number : (BitVec.ofNat 8 (a.toNat * 256 + b.toNat)) = b := by
    apply BitVec.eq_of_toNat_eq
    rw [BitVec.toNat_ofNat]
    omega
  simp only [u16, be16, high, number, BitVec.ofNat_toNat, BitVec.setWidth_eq]

theorem be16_bytes {n : Nat} (fits : n < 65536) : be16 (BitVec.ofNat 8 (n / 256)) (BitVec.ofNat 8 n) = n := by
  simp only [be16, BitVec.toNat_ofNat]
  omega

/-! ### Codes and what they name -/

theorem classOf_iff {n : Nat} {c : FeederClass} : classOf n = some c ↔ classCode c = n := by
  match n with
  | 0 => cases c <;> simp [classOf, classCode]
  | 1 => cases c <;> simp [classOf, classCode]
  | k + 2 => cases c <;> simp [classOf, classCode]

theorem flagOf_iff {n : Nat} {b : Bool} : flagOf n = some b ↔ b.toNat = n := by
  match n with
  | 0 => cases b <;> simp [flagOf]
  | 1 => cases b <;> simp [flagOf]
  | k + 2 => cases b <;> simp [flagOf]

theorem targetOf_targetCode (o : Option ShedTarget) : targetOf (targetCode o) = some o := by
  rcases o with _ | ⟨k⟩ | ⟨_ | _⟩
  · rfl
  · have range : 1 ≤ 1 + k.val ∧ 1 + k.val ≤ 12 := by omega
    simp [targetOf, targetCode, range]
  · rfl
  · rfl

theorem targetCode_targetOf {n : Nat} {o : Option ShedTarget} (named : targetOf n = some o) : targetCode o = n := by
  unfold targetOf at named
  split at named
  next empty => cases named; exact empty.symm
  next =>
    split at named
    next range => cases named; simp only [targetCode]; omega
    next =>
      split at named
      next hold => cases named; exact hold.symm
      next =>
        split at named
        next stop => cases named; exact stop.symm
        next => cases named

theorem targetOf_iff {n : Nat} {o : Option ShedTarget} : targetOf n = some o ↔ targetCode o = n :=
  ⟨targetCode_targetOf, fun code => code ▸ targetOf_targetCode o⟩

theorem targetCode_lt (o : Option ShedTarget) : targetCode o < 256 := by
  rcases o with _ | ⟨k⟩ | ⟨_ | _⟩ <;> simp only [targetCode] <;> omega

/-! ### Lists of records -/

/-- A list is read back from its encoding where each entry is. -/
theorem mapM_iff {α β : Type} {read : α → Option β} {sound : β → Prop} {bytes : β → α}
    (entry : ∀ a b, read a = some b ↔ sound b ∧ bytes b = a) (as : List α) (bs : List β) :
    as.mapM read = some bs ↔ (∀ b ∈ bs, sound b) ∧ bs.map bytes = as := by
  induction as generalizing bs with
  | nil =>
    rw [List.mapM_nil]
    constructor
    · rintro ⟨⟩
      simp
    · rintro ⟨-, none_⟩
      rw [List.map_eq_nil_iff.1 none_]
      rfl
  | cons a as ih =>
    rw [List.mapM_cons]
    constructor
    · intro h
      obtain ⟨b, first, rest⟩ := Option.bind_eq_some_iff.1 h
      obtain ⟨bs', others, same⟩ := Option.bind_eq_some_iff.1 rest
      cases same
      obtain ⟨soundFirst, firstBytes⟩ := (entry a b).1 first
      obtain ⟨soundRest, restBytes⟩ := (ih bs').1 others
      exact ⟨List.forall_mem_cons.2 ⟨soundFirst, soundRest⟩, by rw [List.map_cons, firstBytes, restBytes]⟩
    · rintro ⟨allSound, encoded⟩
      obtain ⟨b, bs', rfl, firstBytes, restBytes⟩ := List.map_eq_cons_iff.1 encoded
      obtain ⟨soundFirst, soundRest⟩ := List.forall_mem_cons.1 allSound
      refine Option.bind_eq_some_iff.2 ⟨b, (entry a b).2 ⟨soundFirst, firstBytes⟩, ?_⟩
      exact Option.bind_eq_some_iff.2 ⟨bs', (ih bs').2 ⟨soundRest, restBytes⟩, rfl⟩

theorem toVector?_iff {α : Type} {n : Nat} {l : List α} {v : Vector α n} : toVector? n l = some v ↔ v.toList = l := by
  unfold toVector?
  split
  next size =>
    constructor
    · rintro ⟨⟩
      rfl
    · intro same
      subst same
      exact congrArg some (Vector.toArray_inj.1 (Array.toArray_toList))
  next size =>
    refine ⟨nofun, fun same => absurd ?_ size⟩
    rw [← same, Vector.length_toList]

/-- A relation between any two entries of a vector, by the order of their places. -/
theorem pairwise_toList {α : Type} {n : Nat} {R : α → α → Prop} (v : Vector α n) :
    v.toList.Pairwise R ↔ ∀ j k : Fin n, j < k → R v[j] v[k] := by
  rw [List.pairwise_iff_getElem]
  constructor
  · intro h j k lt
    have := h j.val k.val (by simp) (by simp) lt
    simpa using this
  · intro h i j hi hj lt
    have := h ⟨i, by simpa using hi⟩ ⟨j, by simpa using hj⟩ lt
    simpa using this

/-- The same of a symmetric relation: between entries at different places. -/
theorem pairwise_toList_symmetric {α : Type} {n : Nat} {R : α → α → Prop} (symm : ∀ a b, R a b → R b a) (v : Vector α n) :
    v.toList.Pairwise R ↔ ∀ j k : Fin n, j ≠ k → R v[j] v[k] := by
  rw [pairwise_toList]
  refine ⟨fun h j k ne => ?_, fun h j k lt => h j k (Fin.ne_of_lt lt)⟩
  rcases Nat.lt_or_gt_of_ne (Fin.val_ne_of_ne ne) with lt | gt
  · exact h j k lt
  · exact symm _ _ (h k j gt)

theorem forall_mem_toList {α : Type} {n : Nat} {P : α → Prop} (v : Vector α n) :
    (∀ a ∈ v.toList, P a) ↔ ∀ k : Fin n, P v[k] := by
  constructor
  · exact fun h k => h _ (Vector.mem_toList_iff.2 (Vector.getElem_mem _))
  · intro h a member
    obtain ⟨i, size, rfl⟩ := Vector.mem_iff_getElem.1 (Vector.mem_toList_iff.1 member)
    exact h ⟨i, size⟩

end Sys2Proof.Machine

namespace Sys2Proof.Machine

/-! ### The settings tables read back from their records (R34, R92, R99, R100, R103, R132, R149) -/

/-- The whole of a table: in the ranges of its chapter, and these are its bytes. -/
abbrev Encodes (c : TableCopy) (records : List (List Byte)) : Prop := TableSound c ∧ tableBytes c = records

/-! #### CHANNELS -/

theorem vec4_entries (v : Vector Nat 4) : ∃ a b c d, v = #v[a, b, c, d] := by
  refine ⟨v[0], v[1], v[2], v[3], ?_⟩
  ext i fits
  match i with
  | 0 | 1 | 2 | 3 => rfl

/-- R34: the ranges as the model tests them. -/
def ChannelsTable.inRange (t : ChannelsTable) : Bool :=
  t.rating.toList.all (· ≤ 1500) && t.reserveFloor ≤ 2000 && 1 ≤ t.loopGain

theorem ChannelsTable.inRange_iff {t : ChannelsTable} (gain : t.loopGain ≤ 255) :
    t.inRange = true ↔ TableSound (.channels t) := by
  have ratings : t.rating.toList.all (fun r => decide (r ≤ 1500)) = true ↔ ∀ i : Fin 4, t.rating[i] ≤ 1500 := by
    simp only [List.all_eq_true, decide_eq_true_iff]
    exact forall_mem_toList t.rating
  simp only [ChannelsTable.inRange, TableSound, Bool.and_eq_true, ratings, decide_eq_true_iff, gain, and_true, and_assoc]

theorem channelsOf_records (a b c d e f g h i j k : Byte) :
    let t : ChannelsTable :=
      { rating := #v[be16 a b, be16 c d, be16 e f, be16 g h], reserveFloor := be16 i j, loopGain := k.toNat }
    channelsOf [[a, b], [c, d], [e, f], [g, h], [i, j, k]] = if t.inRange then some t else none := rfl

theorem channelsOf_iff (records : List (List Byte)) (t : ChannelsTable) :
    channelsOf records = some t ↔ Encodes (.channels t) records := by
  constructor
  · intro read
    unfold channelsOf at read
    split at read
    next a b c d e f g h i j k =>
      obtain ⟨inRange, same⟩ := Option.ite_none_right_eq_some.1 read
      cases same
      exact ⟨(ChannelsTable.inRange_iff (Nat.le_of_lt_succ k.isLt)).1 inRange, by simp [tableBytes, u16_be16, u8_toNat]⟩
    next => cases read
  · rintro ⟨sound, rfl⟩
    obtain ⟨rating, reserve, gain⟩ := t
    obtain ⟨r0, r1, r2, r3, rfl⟩ := vec4_entries rating
    obtain ⟨ratings, reserveMax, -, gainMax⟩ := id sound
    have fits {n max : Nat} (le : n ≤ max) (small : max < 65536) : n < 65536 := Nat.lt_of_le_of_lt le small
    have f0 : r0 < 65536 := fits (ratings 0) (by decide)
    have f1 : r1 < 65536 := fits (ratings 1) (by decide)
    have f2 : r2 < 65536 := fits (ratings 2) (by decide)
    have f3 : r3 < 65536 := fits (ratings 3) (by decide)
    have fr : reserve < 65536 := fits reserveMax (by decide)
    have fg : gain < 256 := Nat.lt_succ_of_le gainMax
    refine (channelsOf_records _ _ _ _ _ _ _ _ _ _ _).trans ?_
    simp only [be16_bytes f0, be16_bytes f1, be16_bytes f2, be16_bytes f3, be16_bytes fr, toNat_byte fg]
    exact if_pos ((ChannelsTable.inRange_iff gainMax).2 sound)

/-! #### SAW -/

/-- R149: the ranges as the model tests them. -/
def SawTable.inRange (t : SawTable) : Bool :=
  1 ≤ t.start.startSurge && t.start.startSurge ≤ 9999 && t.start.runAmount ≤ t.start.startSurge
    && t.start.startLead ≤ 50 && 5 ≤ t.start.starTimeMax && t.start.starTimeMax ≤ 200
    && 50 ≤ t.start.changeoverSpeed && t.start.changeoverSpeed ≤ 100
    && t.start.startStallLevel ≤ t.start.changeoverSpeed && 4 ≤ t.start.deadTime && t.start.deadTime ≤ 20
    && 1 ≤ t.start.ratedPulseRate && t.start.ratedPulseRate ≤ 400 && t.start.stallLevel + 1 ≤ t.start.changeoverSpeed
    && 1 ≤ t.feed.feedAmount && t.feed.feedAmount ≤ 9999 && 1 ≤ t.feed.returnAmount && t.feed.returnAmount ≤ 9999
    && t.feed.feedLead ≤ 50 && t.feed.overloadMargin ≤ 100 && 1 ≤ t.feed.overloadTime && t.feed.overloadTime ≤ 100
    && t.feed.resumeLevel ≤ 100 && 1 ≤ t.feed.resumeTime && t.feed.resumeTime ≤ 100

theorem SawTable.inRange_iff (t : SawTable) : t.inRange = true ↔ TableSound (.saw t) := by
  simp only [SawTable.inRange, TableSound, Bool.and_eq_true, decide_eq_true_iff, and_assoc, Nat.succ_le_iff]

theorem sawTableOf_records (a b c d e f g h i j k l m n o p q r u v w : Byte) :
    let t : SawTable :=
      { start := { startSurge := be16 a b, runAmount := be16 c d, startLead := e.toNat, starTimeMax := f.toNat,
                   changeoverSpeed := g.toNat, startStallLevel := h.toNat, deadTime := i.toNat,
                   ratedPulseRate := be16 j k, stallLevel := l.toNat }
        feed := { feedAmount := be16 m n, returnAmount := be16 o p, feedLead := q.toNat, overloadMargin := r.toNat,
                  overloadTime := u.toNat, resumeLevel := v.toNat, resumeTime := w.toNat } }
    sawTableOf [[a, b, c, d, e, f, g, h, i, j, k, l], [m, n, o, p, q, r, u, v, w]] =
      if t.inRange then some t else none := rfl

theorem sawTableOf_iff (records : List (List Byte)) (t : SawTable) :
    sawTableOf records = some t ↔ Encodes (.saw t) records := by
  constructor
  · intro read
    unfold sawTableOf at read
    split at read
    next =>
      obtain ⟨inRange, same⟩ := Option.ite_none_right_eq_some.1 read
      cases same
      exact ⟨(SawTable.inRange_iff _).1 inRange, by simp [tableBytes, sawStartBytes, sawFeedBytes, u16_be16, u8_toNat]⟩
    next => cases read
  · rintro ⟨sound, rfl⟩
    obtain ⟨⟨surge, run, lead, starMax, changeover, startStall, dead, rate, stall⟩,
      ⟨feed, back, feedLead, margin, overTime, resume, resumeTime⟩⟩ := t
    have inRange := (SawTable.inRange_iff _).2 sound
    simp only [TableSound] at sound
    refine (sawTableOf_records _ _ _ _ _ _ _ _ _ _ _ _ _ _ _ _ _ _ _ _ _).trans ?_
    simp only [be16_bytes (show surge < 65536 by omega), be16_bytes (show run < 65536 by omega),
      toNat_byte (show lead < 256 by omega), toNat_byte (show starMax < 256 by omega),
      toNat_byte (show changeover < 256 by omega), toNat_byte (show startStall < 256 by omega),
      toNat_byte (show dead < 256 by omega), be16_bytes (show rate < 65536 by omega), toNat_byte (show stall < 256 by omega),
      be16_bytes (show feed < 65536 by omega), be16_bytes (show back < 65536 by omega),
      toNat_byte (show feedLead < 256 by omega), toNat_byte (show margin < 256 by omega),
      toNat_byte (show overTime < 256 by omega), toNat_byte (show resume < 256 by omega),
      toNat_byte (show resumeTime < 256 by omega)]
    exact if_pos inRange

/-! #### FEEDERS -/

/-- R103: the ranges of a feeder's record. -/
abbrev FeederConfig.Sound (c : FeederConfig) : Prop := c.rating ≤ 2000 ∧ 1 ≤ c.rank ∧ c.rank ≤ 12 ∧ c.leadTime ≤ 50

theorem feederConfigOf_iff (record : List Byte) (t : FeederConfig) :
    feederConfigOf record = some t ↔ t.Sound ∧ feederRecordBytes t = record := by
  constructor
  · intro read
    unfold feederConfigOf at read
    split at read
    next a b c d e f =>
      split at read
      next cls auto named flagged =>
        obtain ⟨inRange, same⟩ := Option.ite_none_right_eq_some.1 read
        cases same
        refine ⟨by simpa [and_assoc] using inRange, ?_⟩
        simp [feederRecordBytes, flag, u16_be16, u8_toNat, classOf_iff.1 named, flagOf_iff.1 flagged]
      next => cases read
    next => cases read
  · rintro ⟨sound, rfl⟩
    obtain ⟨rating, rank, cls, auto, lead⟩ := t
    obtain ⟨ratingMax, rankMin, rankMax, leadMax⟩ := sound
    dsimp only at ratingMax rankMin rankMax leadMax
    have named : classOf (BitVec.ofNat 8 (classCode cls)).toNat = some cls := by cases cls <;> rfl
    have flagged : flagOf (BitVec.ofNat 8 auto.toNat).toNat = some auto := by cases auto <;> rfl
    simp only [feederConfigOf, feederRecordBytes, u16, u8, flag, List.cons_append, List.nil_append, named, flagged,
      be16_bytes (show rating < 65536 by omega), toNat_byte (show rank < 256 by omega), toNat_byte (show lead < 256 by omega)]
    exact if_pos (by simp [ratingMax, rankMin, rankMax, leadMax])

/-- R103: configured feeders of different ranks. -/
abbrev RanksApart (a b : FeederConfig) : Prop := a.rating ≠ 0 → b.rating ≠ 0 → a.rank ≠ b.rank

theorem ranksDiffer_iff (v : Vector FeederConfig 12) :
    ranksDiffer v.toList = true ↔ ∀ j k : Fin 12, j ≠ k → RanksApart v[j] v[k] := by
  have symm (a b : FeederConfig) (h : RanksApart a b) : RanksApart b a := fun hb ha => (h ha hb).symm
  rw [← pairwise_toList_symmetric symm, ranksDiffer, decide_eq_true_iff, List.Nodup, List.pairwise_map, List.pairwise_filter]
  simp only [decide_eq_true_iff]

theorem feedersOf_iff (records : List (List Byte)) (t : Vector FeederConfig 12) :
    feedersOf records = some t ↔ Encodes (.feeders t) records := by
  have entries (cs : List FeederConfig) := mapM_iff (sound := FeederConfig.Sound) feederConfigOf_iff records cs
  have sound : TableSound (.feeders t) ↔ (∀ c ∈ t.toList, c.Sound) ∧ ranksDiffer t.toList = true :=
    and_congr (forall_mem_toList (P := FeederConfig.Sound) t).symm (ranksDiffer_iff t).symm
  constructor
  · intro read
    unfold feedersOf at read
    split at read
    next cs parsed =>
      obtain ⟨differ, whole⟩ := Option.ite_none_right_eq_some.1 read
      obtain rfl := toVector?_iff.1 whole
      obtain ⟨ranges, bytes⟩ := (entries _).1 parsed
      exact ⟨sound.2 ⟨ranges, differ⟩, bytes⟩
    next => cases read
  · rintro ⟨tableSound, bytes⟩
    obtain ⟨ranges, differ⟩ := sound.1 tableSound
    unfold feedersOf
    rw [(entries t.toList).2 ⟨ranges, bytes⟩]
    exact (if_pos differ).trans (toVector?_iff.2 rfl)

/-! #### BANDS -/

theorem bandsTableOf_iff (records : List (List Byte)) (t : BandsTable) :
    bandsTableOf records = some t ↔ Encodes (.bands t) records := by
  constructor
  · intro read
    unfold bandsTableOf at read
    split at read
    next =>
      obtain ⟨inRange, same⟩ := Option.ite_none_right_eq_some.1 read
      cases same
      exact ⟨by simpa [TableSound] using inRange, by simp [tableBytes, u16_be16]⟩
    next => cases read
  · rintro ⟨sound, rfl⟩
    obtain ⟨h, w⟩ := t
    simp only [TableSound] at sound
    obtain ⟨hMax, wMax⟩ := sound
    simp only [bandsTableOf, tableBytes, u16, List.cons_append, List.nil_append, be16_bytes (show h < 65536 by omega),
      be16_bytes (show w < 65536 by omega)]
    exact if_pos (by simp [hMax, wMax])

/-! #### SHED_ORDER -/

theorem targetRecordOf_iff (record : List Byte) (o : Option ShedTarget) :
    targetRecordOf record = some o ↔ True ∧ u8 (targetCode o) = record := by
  rw [true_and]
  constructor
  · intro read
    unfold targetRecordOf at read
    split at read
    next a => rw [targetOf_iff.1 read, u8_toNat]
    next => cases read
  · rintro rfl
    show targetOf (BitVec.ofNat 8 (targetCode o)).toNat = some o
    rw [toNat_byte (targetCode_lt o), targetOf_targetCode]

/-- R100: no record after an EMPTY one. -/
abbrev EmptyAfter (a b : Option ShedTarget) : Prop := a = none → b = none

theorem dropWhile_all_iff (ts : List (Option ShedTarget)) :
    (ts.dropWhile Option.isSome).all Option.isNone = true ↔ ts.Pairwise EmptyAfter := by
  induction ts with
  | nil => simp
  | cons t ts ih =>
    cases t with
    | none =>
      have rest (all : ∀ x ∈ ts, x = none) : ts.Pairwise EmptyAfter :=
        List.pairwise_of_forall_mem_list fun a _ b member _ => all b member
      simpa [EmptyAfter, List.pairwise_cons] using rest
    | some x => simp [EmptyAfter, List.pairwise_cons, ih]

/-- R100: two records of a shed order that are not the same target. -/
abbrev TargetsApart (a b : Option ShedTarget) : Prop := a ≠ none → a ≠ b

theorem shedOrderSound_iff (v : Vector (Option ShedTarget) 16) :
    shedOrderSound v.toList = true ↔ TableSound (.shedOrder v) := by
  have symm (a b : Option ShedTarget) (h : TargetsApart a b) : TargetsApart b a := fun some_ same => h (same ▸ some_) same.symm
  have distinct : (v.toList.filterMap id).Nodup ↔ ∀ j k : Fin 16, j ≠ k → TargetsApart v[j] v[k] := by
    rw [← pairwise_toList_symmetric symm, List.Nodup, List.pairwise_filterMap]
    refine List.Pairwise.iff ?_
    intro a b
    cases a <;> cases b <;> simp [TargetsApart]
  rw [shedOrderSound, Bool.and_eq_true, decide_eq_true_iff, distinct, dropWhile_all_iff, pairwise_toList, and_comm]
  rfl

theorem shedOrderOf_iff (records : List (List Byte)) (t : ShedOrderTable) :
    shedOrderOf records = some t ↔ Encodes (.shedOrder t) records := by
  have entries (ts : List (Option ShedTarget)) := mapM_iff (sound := fun _ => True) targetRecordOf_iff records ts
  constructor
  · intro read
    unfold shedOrderOf at read
    split at read
    next ts parsed =>
      obtain ⟨sound, whole⟩ := Option.ite_none_right_eq_some.1 read
      obtain rfl := toVector?_iff.1 whole
      obtain ⟨-, bytes⟩ := (entries _).1 parsed
      exact ⟨(shedOrderSound_iff t).1 sound, bytes⟩
    next => cases read
  · rintro ⟨sound, bytes⟩
    unfold shedOrderOf
    rw [(entries t.toList).2 ⟨fun _ _ => trivial, bytes⟩]
    exact (if_pos ((shedOrderSound_iff t).2 sound)).trans (toVector?_iff.2 rfl)

/-! #### THRESHOLDS -/

theorem thresholdsSound_iff {t : ThresholdsTable}
    (delays : ∀ d ∈ [t.shedDelay, t.fastDelay, t.recoveryTime, t.runawayDelay, t.tripDelay], d ≤ 255) :
    thresholdsSound t = true ↔ TableSound (.thresholds t) := by
  simp only [List.forall_mem_cons, List.not_mem_nil, false_imp_iff, implies_true, and_true] at delays
  obtain ⟨shed, fast, recovery, runaway, trip⟩ := delays
  simp only [thresholdsSound, TableSound, Bool.and_eq_true, Bool.or_eq_true, decide_eq_true_iff, List.forall_mem_cons,
    List.not_mem_nil, false_imp_iff, implies_true, and_true, shed, fast, recovery, runaway, trip, and_assoc]

/-- R132: the last byte of the record holds the lockout's count and window. -/
theorem lockByte_fields {count window : Nat} (counts : count = 2 ∨ count = 3) (small : window ≤ 60) :
    (BitVec.ofNat 8 (count * 64 + window)).toNat / 64 = count ∧ (BitVec.ofNat 8 (count * 64 + window)).toNat % 64 = window := by
  rw [toNat_byte (by omega)]
  omega

theorem lockByte_whole (z : Byte) : u8 (z.toNat / 64 * 64 + z.toNat % 64) = [z] := by
  rw [Nat.div_add_mod', u8_toNat]

theorem thresholdsOf_records (a b c d e f g h i j k l m n o p q r u v w x y z : Byte) :
    let t : ThresholdsTable :=
      { shedThreshold := be16 a b, shedDelay := c.toNat, fastThreshold := be16 d e, fastDelay := f.toNat,
        recoveryLevel := be16 g h, recoveryTime := i.toNat, runawayLevel := be16 j k, runawayDelay := l.toNat,
        runawayExit := be16 m n, tripLevel := be16 o p, tripDelay := q.toNat, shedInterval := r.toNat,
        restoreHold := be16 u v, stagger := be16 w x, warmUp := y.toNat, lockCount := z.toNat / 64,
        lockWindow := z.toNat % 64 }
    thresholdsOf [[a, b, c, d, e, f, g, h, i, j, k, l, m, n, o, p, q, r, u, v, w, x, y, z]] =
      if thresholdsSound t then some t else none := rfl

theorem thresholdsOf_iff (records : List (List Byte)) (t : ThresholdsTable) :
    thresholdsOf records = some t ↔ Encodes (.thresholds t) records := by
  constructor
  · intro read
    unfold thresholdsOf at read
    split at read
    next a b c d e f g h i j k l m n o p q r u v w x y z =>
      obtain ⟨sound, same⟩ := Option.ite_none_right_eq_some.1 read
      cases same
      have delay (x : Byte) : x.toNat ≤ 255 := Nat.le_of_lt_succ x.isLt
      refine ⟨(thresholdsSound_iff ?_).1 sound, ?_⟩
      · simp only [List.forall_mem_cons, List.not_mem_nil, false_imp_iff, implies_true, and_true, delay]
      · simp only [tableBytes, thresholdsBytes, u16_be16, u8_toNat, lockByte_whole, List.cons_append, List.nil_append]
    next => cases read
  · rintro ⟨sound, rfl⟩
    obtain ⟨shedThreshold, shedDelay, fastThreshold, fastDelay, recoveryLevel, recoveryTime, runawayLevel, runawayDelay,
      runawayExit, tripLevel, tripDelay, shedInterval, restoreHold, stagger, warmUp, lockCount, lockWindow⟩ := t
    obtain ⟨levels, delays, interval, intervalMax, hold, holdMax, staggerMin, staggerMax, warm, warmMax, counts, window, windowMax,
      -⟩ := id sound
    have short := (thresholdsSound_iff fun d member => (delays d member).2).2 sound
    simp only [List.forall_mem_cons, List.not_mem_nil, false_imp_iff, implies_true, and_true] at levels delays
    dsimp only at intervalMax holdMax staggerMax warmMax counts windowMax
    obtain ⟨count, lockout⟩ := lockByte_fields counts windowMax
    refine (thresholdsOf_records _ _ _ _ _ _ _ _ _ _ _ _ _ _ _ _ _ _ _ _ _ _ _ _).trans ?_
    simp only [count, lockout, be16_bytes (show shedThreshold < 65536 by omega), toNat_byte (show shedDelay < 256 by omega),
      be16_bytes (show fastThreshold < 65536 by omega), toNat_byte (show fastDelay < 256 by omega),
      be16_bytes (show recoveryLevel < 65536 by omega), toNat_byte (show recoveryTime < 256 by omega),
      be16_bytes (show runawayLevel < 65536 by omega), toNat_byte (show runawayDelay < 256 by omega),
      be16_bytes (show runawayExit < 65536 by omega), be16_bytes (show tripLevel < 65536 by omega),
      toNat_byte (show tripDelay < 256 by omega), toNat_byte (show shedInterval < 256 by omega),
      be16_bytes (show restoreHold < 65536 by omega), be16_bytes (show stagger < 65536 by omega),
      toNat_byte (show warmUp < 256 by omega)]
    exact if_pos short

/-! #### Every table -/

/-- R92: a staged table is read back exactly where it is the bytes of a sound table. -/
theorem tableFrom_iff (t : TableId) (records : List (List Byte)) (c : TableCopy) :
    tableFrom t records = some c ↔ c.id = t ∧ Encodes c records := by
  have named {α : Type} {read : Option α} {copy : α → TableCopy} {id : TableId} (ids : ∀ a, (copy a).id = id)
      (content : ∀ a, read = some a ↔ Encodes (copy a) records)
      (only : ∀ c : TableCopy, c.id = id → ∃ a, c = copy a) : read.map copy = some c ↔ c.id = id ∧ Encodes c records := by
    rw [Option.map_eq_some_iff]
    constructor
    · rintro ⟨a, parsed, rfl⟩
      exact ⟨ids a, (content a).1 parsed⟩
    · rintro ⟨same, encodes⟩
      obtain ⟨a, rfl⟩ := only c same
      exact ⟨a, (content a).2 encodes, rfl⟩
  cases t with
  | channels => exact named (fun _ => rfl) (channelsOf_iff records) fun c same => by cases c <;> cases same; exact ⟨_, rfl⟩
  | saw => exact named (fun _ => rfl) (sawTableOf_iff records) fun c same => by cases c <;> cases same; exact ⟨_, rfl⟩
  | feeders => exact named (fun _ => rfl) (feedersOf_iff records) fun c same => by cases c <;> cases same; exact ⟨_, rfl⟩
  | bands => exact named (fun _ => rfl) (bandsTableOf_iff records) fun c same => by cases c <;> cases same; exact ⟨_, rfl⟩
  | shedOrder => exact named (fun _ => rfl) (shedOrderOf_iff records) fun c same => by cases c <;> cases same; exact ⟨_, rfl⟩
  | thresholds => exact named (fun _ => rfl) (thresholdsOf_iff records) fun c same => by cases c <;> cases same; exact ⟨_, rfl⟩

end Sys2Proof.Machine

namespace Sys2Proof.Machine

/-! ### Loads: the records written, the load taken, the commit (R92, R93, R98, R103, R104, R149, R165) -/

section
variable {s : State} {l : Link} {bytes : List Byte} {w : Window} {t : TableId} {c : TableCopy} {sh : SharedId}
  {staging : List (List Byte)}

/-- R165: the bytes are the record that the pointer names. -/
abbrev RecordFits (w : Window) (bytes : List Byte) : Prop := bytes.length = recordSize w.range.table w.range.pointer

/-- R165: the window's staging copy with the record at the pointer written. -/
def Window.written (w : Window) (bytes : List Byte) : List (List Byte) := w.staging.set (w.range.pointer - 1) bytes

/-- A link's window replaced. -/
def State.withWindow (s : State) (l : Link) (w : Option Window) : State := s.onLink l fun c => { c with window := w }

theorem loadData_noWindow (closed : (s.link l).window = none) : loadDataEffect l bytes s = s.answer l 0x04 .noWindow := by
  unfold loadDataEffect
  simp only [closed]

theorem loadData_misfit (opened : (s.link l).window = some w) (misfit : ¬ RecordFits w bytes) :
    loadDataEffect l bytes s = s.answer l 0x04 .badOperand := by
  unfold loadDataEffect
  simp only [opened]
  exact if_pos misfit

theorem loadData_fits (opened : (s.link l).window = some w) (fits : RecordFits w bytes) :
    loadDataEffect l bytes s =
      if w.range.pointer < w.range.last then
        (s.withWindow l
          (some { range := { w.range with pointer := w.range.pointer + 1 }, staging := w.written bytes })).answer l 0x04 .ok
      else
        (((s.withWindow l none).takeLoad l w.range.table (w.written bytes)).1.answer l 0x04
          ((s.withWindow l none).takeLoad l w.range.table (w.written bytes)).2) := by
  unfold loadDataEffect
  simp only [opened]
  exact if_neg (not_not_intro fits)

theorem mem_allFeeders : ∀ k : Fin 12, k ∈ allFeeders := by decide

theorem liveStateAllows_iff (s : State) (c : TableCopy) : s.liveStateAllows c = true ↔ LiveStateFits s c := by
  cases c with
  | saw t => simp [State.liveStateAllows, LiveStateFits]
  | feeders t =>
    simp only [State.liveStateAllows, LiveStateFits, List.all_eq_true, Bool.or_eq_true, decide_eq_true_iff]
    refine ⟨fun h k notOff notLocked => ?_, fun h k _ => ?_⟩
    · have kept := h k (mem_allFeeders k)
      exact kept.resolve_left (not_or.2 ⟨notOff, notLocked⟩)
    · by_cases off : (s.feeder k).state = .off
      · exact .inl (.inl off)
      · by_cases locked : (s.feeder k).state = .locked
        · exact .inl (.inr locked)
        · exact .inr (h k off locked)
  | channels _ | bands _ | shedOrder _ | thresholds _ => simp [State.liveStateAllows, LiveStateFits]

theorem takeLoad_unread (unread : tableFrom t staging = none) : s.takeLoad l t staging = (s, .badRecord) := by
  unfold State.takeLoad
  simp only [unread]

theorem takeLoad_disallowed (read : tableFrom t staging = some c) (disallowed : s.liveStateAllows c = false) :
    s.takeLoad l t staging = (s, .badRecord) := by
  unfold State.takeLoad
  simp only [read]
  exact if_pos disallowed

theorem takeLoad_own (read : tableFrom t staging = some c) (allowed : s.liveStateAllows c = true)
    (own : sharedOf t = none) : s.takeLoad l t staging = (s.commit c, .ok) := by
  unfold State.takeLoad
  simp only [read, own]
  exact if_neg (by simp [allowed])

theorem takeLoad_local (read : tableFrom t staging = some c) (allowed : s.liveStateAllows c = true)
    (shared : sharedOf t = some sh) (key : s.set.key = .keyLocal) :
    s.takeLoad l t staging = if s.committedFits c then (s.commit c, .ok) else (s, .committedExceeds) := by
  unfold State.takeLoad
  simp only [read, shared, key]
  exact if_neg (by simp [allowed])

theorem takeLoad_remote (read : tableFrom t staging = some c) (allowed : s.liveStateAllows c = true)
    (shared : sharedOf t = some sh) (key : s.set.key = .keyRemote) :
    s.takeLoad l t staging = (s.propose l sh c, .ok) := by
  unfold State.takeLoad
  simp only [read, shared, key]
  exact if_neg (by simp [allowed])

/-- R93: the proposal pending, and the other links told. -/
theorem propose_eq (s : State) (l : Link) (sh : SharedId) (c : TableCopy) :
    s.propose l sh c =
      { s with
        set := (s.setProposal sh (some { copy := c, proposer := l, expiry := s.clock + 500 })).set
        links := (s.addNotices (otherLinks l) .settings).links } := by
  cases sh <;> cases l <;> rfl

/-- R92: the table replaced, before it takes effect. -/
abbrev State.stored (s : State) (c : TableCopy) : State :=
  { s with set := { s.set with tables := s.set.tables.store c } }

theorem commit_channels (id : c.id = .channels) :
    s.commit c = if s.reg.station = .black then (s.stored c).fullBallast else s.stored c := by
  cases c <;> cases id
  rfl

theorem commit_bands (id : c.id = .bands) :
    s.commit c =
      if (s.stored c).recomputeBands.alw.bands = s.alw.bands then (s.stored c).recomputeBands
      else (s.stored c).recomputeBands.budgetCheck.consider := by
  cases c <;> cases id
  rfl

theorem commit_plain (channels : c.id ≠ .channels) (bands : c.id ≠ .bands) : s.commit c = s.stored c := by
  cases c with
  | channels t => exact absurd rfl channels
  | bands t => exact absurd rfl bands
  | saw t | feeders t | shedOrder t | thresholds t => rfl

end

/-- Settles O57: the parts by their own lemmas. -/
theorem loadsAreStagedAndTaken : Obligations.LoadsAreStagedAndTaken := by
  intro s
  refine ⟨fun l bytes held => ⟨fun closed => ?_, fun w opened => ⟨fun misfit => ?_, fun fits more => ?_, fun fits done => ?_⟩⟩,
    tableFrom_iff, liveStateAllows_iff s, fun l t staging => ⟨takeLoad_unread, fun c read => ⟨takeLoad_disallowed read,
      takeLoad_own read, fun sh allowed shared => ⟨fun local_ fits => ?_, fun local_ exceeds => ?_, fun remote => ?_⟩⟩⟩,
    fun c => ⟨commit_channels, commit_bands, commit_plain⟩⟩
  · exact exec_arrival rfl held (loadData_noWindow (s := s.arrive _) closed)
  · exact exec_arrival rfl held (loadData_misfit (s := s.arrive _) opened misfit)
  · exact exec_arrival rfl held ((loadData_fits (s := s.arrive _) opened fits).trans (if_pos more))
  · exact exec_arrival rfl held ((loadData_fits (s := s.arrive _) opened fits).trans (if_neg (Nat.not_lt.2 done)))
  · exact (takeLoad_local read allowed shared local_).trans (if_pos fits)
  · exact (takeLoad_local read allowed shared local_).trans (if_neg (Bool.eq_false_iff.1 exceeds))
  · exact (takeLoad_remote read allowed shared remote).trans (congrArg (·, Status.ok) (propose_eq s l sh c))

end Sys2Proof.Machine

namespace Sys2Proof.Machine

/-! ### The two resets (R19, R32, R60, R83, R89, R101, R116, R126, R150, R172) -/

/-- R116: a feeder after a reset, by its record. -/
theorem feeder_initial (ts : Tables) (k : Fin 12) :
    (FeederUnit.initial ts).feeders[k] =
      { state := if ts.feeders[k].rating ≠ 0 ∧ ts.feeders[k].autoRestore = true then .shed else .off
        close := false, restoring := false, history := [], follow := .stopped, stuck := .stopped } := by
  have entry : (FeederUnit.initial ts).feeders[k] = Feeder.initial ts.feeders[k] := by fin_cases k <;> rfl
  exact entry

theorem carryEnable_held {s : State} (held : s.held = true) (n : Fin 24) : s.carryEnable n = false := by
  simp [State.carryEnable, held]

theorem balHigh_held {s : State} (held : s.held = true) (i : Fin 4) : s.balHigh i = false := by
  simp [State.balHigh, held]

/-! ### The release (R19, R116, R150, R155, R168, R171) -/

/-- R168: supervision as the strap sets it at a release. -/
abbrev strapSupervision (strap : Bool) (clock : Nat) : Option Supervision :=
  if strap then some { period := 20, deadline := some (clock + 200) } else none

/-- What a release leaves, whatever the saw's checks then find. -/
def AfterRelease (strap : Bool) (s t : State) : Prop :=
  t.held = false ∧ t.supplyRose = false ∧ t.cause = (if s.supplyRose then .powerOn else .panel)
    ∧ t.set =
      { tables := s.set.tables, bandsProposal := none, shedOrderProposal := none
        thresholdsProposal := none, key := s.pins.key }
    ∧ (∀ l : Link, ∃ notices : NoticeSet,
        t.link l =
            { State.reset.link l with
              supervision := strapSupervision strap s.clock, selectLow := (s.link l).selectLow, notices := notices }
          ∧ (l ≠ .l2 → notices = 0))
    ∧ (∀ k : Fin 12,
        t.feeder k = { s.feeder k with follow := (t.feeder k).follow, stuck := (t.feeder k).stuck }
          ∧ ((s.feeder k).state.isFault = false → (s.feeder k).stuck = .stopped → (s.feeder k).close = false →
              s.pins.fb[k] = true → (t.feeder k).stuck = .running s.clock))
    ∧ t.saw.commands = .allOff ∧ t.saw.windowEnd = s.clock + 25 ∧ t.saw.bladeQuiet = false
    ∧ t.saw.quietDeadline = s.clock + 200
    ∧ t =
      { s with
        held := false, supplyRose := false, cause := t.cause, set := t.set, saw := t.saw, fdr := t.fdr
        links := t.links, transit := t.transit }

section
variable {s t : State} {strap : Bool}

theorem released_feeder (s : State) (strap : Bool) (k : Fin 12) :
    (s.released strap).sync.feeder k =
      feederTimings (s.feeder k) ((s.released strap).feederDriven k) s.pins.fb[k] s.clock :=
  feeder_syncFeeders (s.released strap) k

/-- R110: a contact that reads closed with no command starts its stuck timing. -/
theorem feederTimings_stuck {f : Feeder} {clock : Nat} (sound : f.state.isFault = false) (stopped : f.stuck = .stopped) :
    (feederTimings f false true clock).stuck = .running clock := by
  rw [feederTimings_judged, sound, stopped]
  rfl

theorem released_after (s : State) (strap : Bool) : AfterRelease strap s (s.released strap).sync := by
  refine ⟨rfl, rfl, rfl, rfl, fun l => ⟨0, ?_, fun _ => rfl⟩, fun k => ?_, rfl, rfl, rfl, rfl, rfl⟩
  · rw [link_sync]
    cases l <;> cases strap <;> rfl
  · rw [released_feeder]
    refine ⟨feederTimings_eq _ _ _ _, fun sound stopped open_ closed => ?_⟩
    have driven : (s.released strap).feederDriven k = false := by
      show ((s.feeder k).close && _) = false
      rw [open_, Bool.false_and]
    rw [driven, closed, feederTimings_stuck sound stopped]

theorem AfterRelease.fault (h : AfterRelease strap s t) (kind : SawFault) : AfterRelease strap s (sawFaulting t kind) := by
  obtain ⟨held, rose, cause, set, links, feeders, commands, window, quiet, deadline, frame⟩ := h
  refine ⟨held, rose, cause, set, fun l => ?_, feeders, rfl, window, quiet, deadline, ?_⟩
  · obtain ⟨notices, link, others⟩ := links l
    have told : (sawFaulting t kind).link l = (t.addNotice .l2 .saw).link l := rfl
    by_cases saw : l = .l2
    · subst saw
      refine ⟨notices ||| Notice.saw.bit, ?_, fun ne => absurd rfl ne⟩
      rw [told, addNotice_link_self, link]
      rfl
    · refine ⟨notices, ?_, others⟩
      rw [told, State.addNotice, link_onLink_of_ne _ _ saw, link]
  · exact congrArg
      (fun u : State =>
        { u with
          saw := (sawFaulting t kind).saw, links := (sawFaulting t kind).links, transit := (sawFaulting t kind).transit })
      frame

/-- R150: at the release ESTOP is judged, and then the limits. -/
theorem startChecks_eq (s : State) (strap : Bool) :
    (s.released strap).startChecks =
      if s.pins.estop then sawFaulting (s.released strap).sync .estop
      else if s.pins.fwdEnd && s.pins.retEnd then sawFaulting (s.released strap).sync .limit
      else (s.released strap).sync := by
  rw [State.startChecks, faultSaw_eq, judgeLimits_eq (s := (s.released strap).sync) rfl]
  rfl

end

/-- Settles O60: the resets field by field, the release by `startChecks_eq` and what each check keeps. -/
theorem resetsAndTheirRelease : Obligations.ResetsAndTheirRelease := by
  intro s
  refine ⟨⟨_, rfl, ?power⟩, ⟨_, rfl, ?panel⟩, fun strap => ⟨fun running => ?idle, fun held => ?release⟩⟩
  case power | panel =>
    refine ⟨rfl, fun l => ⟨by cases l <;> rfl, by cases l <;> rfl⟩, balHigh_held rfl, carryEnable_held rfl, rfl, rfl, rfl, rfl, rfl,
      rfl, rfl, rfl, rfl, rfl, rfl, rfl, rfl, rfl, feeder_initial _, rfl, rfl, rfl, rfl⟩
  case idle => exact congrArg _ (if_neg (Bool.eq_false_iff.1 running))
  case release =>
    have effect : resetReleaseEffect strap s = (s.released strap).startChecks := if_pos held
    have checks := startChecks_eq s strap
    have after := released_after s strap
    refine ⟨_, congrArg Host.Outcome.next effect, ?_⟩
    have kept : AfterRelease strap s (s.released strap).startChecks := by
      rw [checks]
      split
      · exact after.fault .estop
      · split
        · exact after.fault .limit
        · exact after
    obtain ⟨running, rose, cause, set, links, feeders, commands, window, quiet, deadline, frame⟩ := kept
    refine ⟨running, rose, cause, set, links, fun estop => ?_, fun clear fwd ret => ?_, fun clear apart => ?_, feeders, commands,
      window, quiet, deadline, frame, ?_⟩
    · rw [checks, if_pos estop]
      rfl
    · rw [checks, if_neg (Bool.eq_false_iff.1 clear), if_pos (by rw [fwd, ret]; rfl)]
      rfl
    · rw [checks, if_neg (Bool.eq_false_iff.1 clear), if_neg (by rcases apart with h | h <;> simp [h])]
      rfl
    · rw [set, cause]
      exact checks

end Sys2Proof.Machine

namespace Sys2Proof.Machine

/-! ### The records that are read (R38, R39, R57, R82, R90, R117, R151, R170, R174) -/

theorem stationRecord_eq (s : State) :
    let b (x : Bool) : Nat × Nat := (1, x.toNat)
    s.stationRecord =
      fieldBytes
        [(1, stationCode s.reg.station), (1, s.reg.reasons.frequency.toNat + 2 * s.reg.reasons.budget.toNat),
         (2, s.filtered.getD 0), (2, s.alw.d), b s.alw.stale, (2, s.alw.bands.h), (2, s.alw.bands.w),
         (2, s.alw.bands.c), (2, s.need), (2, s.hSum), (2, s.wSum), (2, s.sSum), (2, s.reg.bd), (2, s.bc),
         (2, s.meas.pb), (2, s.headroom), b s.meas.discrepancy, b s.reg.tripLatch, (1, keyCode s.set.key),
         (1, s.alw.queue.length), (1, s.alw.line.length), b s.reg.quiet] := by
  dsimp only
  simp only [fieldBytes_one, fieldBytes_two, fieldBytes_nil, List.append_nil]
  unfold State.stationRecord reasonsCode
  simp only [List.append_assoc]

theorem claimRecord_eq (s : State) (n : Fin 24) :
    let c := s.claim n
    let moment : Option Nat := c.waitDeadline.or (c.dueTime.or c.surgeEnd)
    s.claimRecord n =
      fieldBytes
        [(1, n.val), (1, if n.val < 4 then 1 else if n.val < 10 then 2 else 3), (1, claimStateCode c.state),
         (2, c.amount), (2, c.runAmount.getD 0xFFFF), (1, (c.surgeEnded.map Bool.toNat).getD 0xFF),
         (2, c.surgeTime.getD 0xFFFF), (1, c.leadTime), (2, c.waitLimit.getD 0xFFFF),
         (1, bindingCode c.binding), (1, c.tag), (2, (moment.map fun t => t - s.clock).getD 0xFFFF),
         (1, endingCode c.last), (2, c.committed), (2, s.ownPortion n), (2, s.commonPortion n)] := by
  dsimp only
  rw [← moment_eq, ← linkCode_holderOf]
  unfold State.claimRecord
  dsimp only
  rw [optU16_eq, optU16_eq, optU16_eq, optU16_eq, optFlag_eq]
  rfl

theorem feederRecord_eq (s : State) (k : Fin 12) :
    let f := s.feeder k
    let c := s.set.tables.feeders[k]
    let b (x : Bool) : Nat × Nat := (1, x.toNat)
    let elapsed (i : Nat) : Nat × Nat :=
      (2, (f.history[i]?.map fun t => min ((s.clock - t) / 100) 65534).getD 0xFFFF)
    s.feederRecord k =
      fieldBytes
        [(2, c.rating), (1, c.rank), (1, classCode c.cls), b c.autoRestore, (1, c.leadTime),
         (1, feederStateCode f.state), b f.restoring, (1, feederFaultCode f.state), (1, f.history.length),
         elapsed 0, elapsed 1, elapsed 2, b f.close, b (s.feederDriven k), b s.pins.fb[k]] := by
  dsimp only
  unfold State.feederRecord elapsedBytes
  dsimp only
  rw [optU16_eq, optU16_eq, optU16_eq]
  rfl

theorem sawRecord_eq (s : State) :
    let b (x : Bool) : Nat × Nat := (1, x.toNat)
    let st := s.saw.state
    let c := s.saw.commands
    s.sawRecord =
      fieldBytes
        [(1, sawStateCode st), (1, holdReasonCode st), (1, directionCode st.direction), (1, sawFaultCode st),
         (1, s.saw.speed), b s.saw.bladeQuiet, b c.line, b s.lineDriven, b c.star, b s.starDriven, b c.delta,
         b s.deltaDriven, b c.feedFwd, b s.fwdDriven, b c.feedRet, b s.retDriven, b s.pins.lineFb,
         b s.pins.starFb, b s.pins.deltaFb, b s.pins.fwdEnd, b s.pins.retEnd, b s.pins.estop] := by
  dsimp only
  simp only [fieldBytes_one, fieldBytes_nil, List.append_nil]
  unfold State.sawRecord
  simp only [List.append_assoc]

/-- R37: the water test looks at the feed-forward steps alone of what is on its way. -/
theorem headroom_arrive (s : State) {m : Instr} (other : isFeedForward m = false) : (s.arrive m).headroom = s.headroom := by
  have water : (s.arrive m).waterBc = s.waterBc := by
    unfold State.waterBc
    rw [arrive_demandDue s other, State.arrive, any_erase other]
    rfl
  unfold State.headroom
  rw [water]
  rfl

theorem stationRecord_arrive (s : State) {m : Instr} (other : isFeedForward m = false) :
    (s.arrive m).stationRecord = s.stationRecord := by
  rw [stationRecord_eq, stationRecord_eq, headroom_arrive s other]
  rfl

theorem sawRecord_arrive (s : State) (m : Instr) : (s.arrive m).sawRecord = s.sawRecord := by
  rw [sawRecord_eq, sawRecord_eq]
  rfl

/-! ### The settings records (11) -/

theorem recordBytes_feeders (t : Vector FeederConfig 12) (k : Fin 12) :
    recordBytes (.feeders t) (k.val + 1) = feederRecordBytes t[k] := by
  simp [recordBytes, tableBytes]

theorem recordBytes_shedOrder (t : ShedOrderTable) (j : Fin 16) :
    recordBytes (.shedOrder t) (j.val + 1) = u8 (targetCode t[j]) := by
  simp [recordBytes, tableBytes]

theorem feederRecordBytes_eq (c : FeederConfig) :
    feederRecordBytes c =
      fieldBytes [(2, c.rating), (1, c.rank), (1, classCode c.cls), (1, c.autoRestore.toNat), (1, c.leadTime)] := by
  simp only [feederRecordBytes, fieldBytes_one, fieldBytes_two, fieldBytes_nil, List.append_nil, List.append_assoc, flag]

theorem sawTableBytes_eq (t : SawTable) :
    tableBytes (.saw t) =
      [fieldBytes
         [(2, t.start.startSurge), (2, t.start.runAmount), (1, t.start.startLead), (1, t.start.starTimeMax),
          (1, t.start.changeoverSpeed), (1, t.start.startStallLevel), (1, t.start.deadTime),
          (2, t.start.ratedPulseRate), (1, t.start.stallLevel)],
       fieldBytes
         [(2, t.feed.feedAmount), (2, t.feed.returnAmount), (1, t.feed.feedLead), (1, t.feed.overloadMargin),
          (1, t.feed.overloadTime), (1, t.feed.resumeLevel), (1, t.feed.resumeTime)]] := rfl

theorem channelsTableBytes_eq (t : ChannelsTable) :
    tableBytes (.channels t) =
      [fieldBytes [(2, t.rating[0])], fieldBytes [(2, t.rating[1])], fieldBytes [(2, t.rating[2])],
       fieldBytes [(2, t.rating[3])], fieldBytes [(2, t.reserveFloor), (1, t.loopGain)]] := by
  obtain ⟨rating, reserve, gain⟩ := t
  obtain ⟨a, b, c, d, rfl⟩ := vec4_entries rating
  rfl

theorem thresholdsBytes_eq (t : ThresholdsTable) :
    thresholdsBytes t =
      fieldBytes
        [(2, t.shedThreshold), (1, t.shedDelay), (2, t.fastThreshold), (1, t.fastDelay), (2, t.recoveryLevel),
         (1, t.recoveryTime), (2, t.runawayLevel), (1, t.runawayDelay), (2, t.runawayExit), (2, t.tripLevel),
         (1, t.tripDelay), (1, t.shedInterval), (2, t.restoreHold), (2, t.stagger), (1, t.warmUp),
         (1, t.lockCount * 64 + t.lockWindow)] := by
  simp only [fieldBytes_one, fieldBytes_two, fieldBytes_nil, List.append_nil]
  unfold thresholdsBytes
  simp only [List.append_assoc]

/-! ### The reads (R57, R91, R117, R171) -/

section
variable {s : State} {l : Link} {t : TableId} {r : Nat} {sh : SharedId}

theorem readFeeder_numbered (k : Fin 12) : readFeederEffect l (k.val + 1) s = s.reply l 0x43 .ok (s.feederRecord k) := by
  unfold readFeederEffect
  simp only [feederNumbered_succ]

theorem readClaim_numbered (n : Fin 24) : readClaimEffect l n.val s = s.reply l 0x23 .ok (s.claimRecord n) :=
  dif_pos n.isLt

theorem readClaim_refused {n : Nat} (out : 23 < n) : readClaimEffect l n s = s.answer l 0x23 .badOperand :=
  dif_neg (Nat.not_lt.2 out)

/-- R91: the record is none of the table's. -/
abbrev RecordOut (t : TableId) (r : Nat) : Prop := r = 0 ∨ recordCount t < r

theorem readTable_out (out : RecordOut t r) (c : CopyId) : readTableEffect l t r c s = s.answer l 0x30 .badOperand :=
  if_pos out

theorem readTable_committed (inside : ¬ RecordOut t r) :
    readTableEffect l t r .committed s = s.reply l 0x30 .ok (0 :: recordBytes (s.set.tables.copy t) r) := if_neg inside

theorem readTable_noProposal (inside : ¬ RecordOut t r) (none_ : (sharedOf t).bind s.set.proposal = none) :
    readTableEffect l t r .proposed s = s.answer l 0x30 .noProposal := by
  unfold readTableEffect
  simp only [none_]
  exact if_neg inside

theorem readTable_proposed {p : Proposal} (inside : ¬ RecordOut t r) (pending : (sharedOf t).bind s.set.proposal = some p) :
    readTableEffect l t r .proposed s =
      s.reply l 0x30 .ok (BitVec.ofNat 8 (linkCode p.proposer) :: recordBytes p.copy r) := by
  unfold readTableEffect
  simp only [pending]
  exact if_neg inside

theorem resetCauseCode_eq (c : ResetCause) : resetCauseCode c = if c = .powerOn then 0 else 1 := by cases c <;> rfl

/-- R97: KEY is sampled at once, but not while a reset is held. -/
theorem keyChangeEffect_eq (k : Key) (s : State) :
    keyChangeEffect k s =
      { s with pins := { s.pins with key := k }, set := { s.set with key := if s.held then s.set.key else k } } := by
  unfold keyChangeEffect
  cases s.held <;> rfl

end

/-- Settles O54: the reads by their effects, the records by their layouts, the codes case by case. -/
theorem readsAndTheKeySample : Obligations.ReadsAndTheKeySample := by
  refine ⟨fun l s held => ⟨?null, ⟨?station, ?stationLength⟩, ⟨?saw, ?sawLength⟩, fun k => ⟨?feeder, ?feederLength⟩,
      fun n => ⟨?claim, ?claimLength⟩, fun n out => ?claimOut, ?cause⟩,
    fun s => ⟨stationRecord_eq s, claimRecord_eq s, feederRecord_eq s, sawRecord_eq s⟩, ?codes,
    ⟨channelsTableBytes_eq, sawTableBytes_eq, fun t k => ⟨by simp [tableBytes], ?feederBytes⟩, fun t => rfl,
      fun t j => ⟨by simp [tableBytes], recordBytes_shedOrder t j⟩, fun t => congrArg (fun record => [record]) (thresholdsBytes_eq t)⟩,
    fun s => ⟨fun l t r held => ⟨fun out c => ?out, fun inside => ?committed, fun inside alone => ?alone,
      fun sh shared inside => ⟨fun idle => ?idle, fun p pending => ?proposed⟩⟩, fun k => congrArg Host.Outcome.next (keyChangeEffect_eq k s)⟩⟩
  case null => exact exec_arrival (f := fun t => t.answer l 0x00 .ok) rfl held rfl
  case station =>
    exact exec_arrival (f := fun t => t.reply l 0x08 .ok t.stationRecord) rfl held
      (congrArg (State.reply _ l 0x08 .ok) (stationRecord_arrive s rfl))
  case stationLength => rw [stationRecord_eq]; rfl
  case saw =>
    exact exec_arrival (f := fun t => t.reply l 0x57 .ok t.sawRecord) rfl held
      (congrArg (State.reply _ l 0x57 .ok) (sawRecord_arrive s _))
  case sawLength => rw [sawRecord_eq]; rfl
  case feeder => exact exec_arrival rfl held (readFeeder_numbered (s := s.arrive _) k)
  case feederLength => rw [feederRecord_eq]; rfl
  case claim => exact exec_arrival rfl held (readClaim_numbered (s := s.arrive _) n)
  case claimLength => rw [claimRecord_eq]; rfl
  case claimOut => exact exec_arrival rfl held (readClaim_refused (s := s.arrive _) out)
  case cause =>
    rw [← resetCauseCode_eq]
    exact exec_arrival (f := fun t => t.reply l 0x07 .ok (u8 (resetCauseCode t.cause))) rfl held rfl
  case codes =>
    refine ⟨rfl, rfl, rfl, rfl, fun x => rfl, fun k => rfl, rfl, rfl, ?_, rfl, rfl, rfl, rfl, fun k => rfl, rfl, rfl⟩
    refine ⟨rfl, rfl, rfl, rfl, rfl, fun d => by cases d <;> rfl, rfl, rfl, fun d => ?_, rfl, rfl⟩
    cases d <;> exact ⟨rfl, rfl, rfl⟩
  case feederBytes => rw [recordBytes_feeders, feederRecordBytes_eq]
  case out => exact exec_arrival rfl held (readTable_out (s := s.arrive _) out c)
  case committed => exact exec_arrival rfl held (readTable_committed (s := s.arrive _) inside)
  case alone => exact exec_arrival rfl held (readTable_noProposal (s := s.arrive _) inside (by rw [alone]; rfl))
  case idle => exact exec_arrival rfl held (readTable_noProposal (s := s.arrive _) inside (by rw [shared]; exact idle))
  case proposed => exact exec_arrival rfl held (readTable_proposed (s := s.arrive _) inside (by rw [shared]; exact pending))

end Sys2Proof.Machine

namespace Sys2Proof.Machine

/-! ### A crossing that is not a valid cycle (R1 to R5, R7, R16, R22, R23, R25, R35) -/

/-- R35: the ratings taken, before the timings are judged. -/
def State.rated (s : State) : State :=
  if s.reg.station = .black ∨ s.reg.ratings = s.set.tables.channels.rating then s
  else
    { s with
      reg :=
        { s.reg with
          ratings := s.set.tables.channels.rating
          bd := min s.reg.bd s.set.tables.channels.rating.toList.sum
          levels := levelsFor (min s.reg.bd s.set.tables.channels.rating.toList.sum) s.set.tables.channels.rating } }

section
variable {s t : State}

theorem judge_judge (t : Timing) (c : Bool) (clock : Nat) : (t.judge c clock).judge c clock = t.judge c clock := by
  cases c <;> cases t <;> rfl

/-- R5: a judgement in the same conditions changes nothing more. -/
theorem judgeTimings_judgeTimings (s : State) : s.judgeTimings.judgeTimings = s.judgeTimings := by
  have conditions : s.judgeTimings.judgeTimings =
      { s.judgeTimings with
        reg :=
          { s.judgeTimings.reg with
            warmBand := (s.reg.warmBand.judge s.warmCondition s.clock).judge s.warmCondition s.clock
            shed := (s.reg.shed.judge s.shedCondition s.clock).judge s.shedCondition s.clock
            fast := (s.reg.fast.judge s.fastCondition s.clock).judge s.fastCondition s.clock
            recovery := (s.reg.recovery.judge s.recoveryCondition s.clock).judge s.recoveryCondition s.clock
            runaway := (s.reg.runaway.judge s.runawayCondition s.clock).judge s.runawayCondition s.clock
            trip := (s.reg.trip.judge s.tripCondition s.clock).judge s.tripCondition s.clock } } := rfl
  rw [conditions]
  simp only [judge_judge]
  rfl

theorem rated_fixed (h : s.reg.station = .black ∨ s.reg.ratings = s.set.tables.channels.rating) : s.rated = s := if_pos h

theorem rated_changed (live : s.reg.station ≠ .black) (differ : s.reg.ratings ≠ s.set.tables.channels.rating) :
    s.rated =
      { s with
        reg :=
          { s.reg with
            ratings := s.set.tables.channels.rating
            bd := min s.reg.bd s.set.tables.channels.rating.toList.sum
            levels := levelsFor (min s.reg.bd s.set.tables.channels.rating.toList.sum) s.set.tables.channels.rating } } :=
  if_neg (not_or.2 ⟨live, differ⟩)

theorem takeRatings_live (live : s.reg.station ≠ .black) :
    s.takeRatings = if s.reg.ratings = s.set.tables.channels.rating then s else s.rated.judgeTimings := by
  unfold State.takeRatings
  split
  · rfl
  next differ => rw [rated_changed live differ]; rfl

/-- R5, R35: the ratings taken and the timings judged. -/
theorem ratings_judged (s : State) :
    (if s.reg.station = .black then s else s.takeRatings).judgeTimings = s.rated.judgeTimings := by
  by_cases black : s.reg.station = .black
  · rw [if_pos black, rated_fixed (.inl black)]
  · rw [if_neg black, takeRatings_live black]
    split
    next same => rw [rated_fixed (.inr same)]
    next differ => exact judgeTimings_judgeTimings _

theorem ratingsTaken_rated (s : State) : RatingsTaken s s.rated := by
  by_cases black : s.reg.station = .black
  · rw [rated_fixed (.inl black)]
    exact ⟨fun _ => ⟨rfl, rfl, rfl⟩, fun live => absurd black live⟩
  · by_cases same : s.reg.ratings = s.set.tables.channels.rating
    · rw [rated_fixed (.inr same)]
      exact ⟨fun b => absurd b black, fun _ => ⟨same, fun _ => ⟨rfl, rfl⟩, fun differ => absurd same differ⟩⟩
    · rw [rated_changed black same]
      exact ⟨fun b => absurd b black, fun _ => ⟨rfl, fun e => absurd e same, fun _ => ⟨rfl, rfl⟩⟩⟩

/-- What the ratings leave of the state. -/
theorem rated_frame (s : State) :
    s.rated = { s with reg := { s.reg with ratings := s.rated.reg.ratings, bd := s.rated.reg.bd, levels := s.rated.reg.levels } } := by
  unfold State.rated
  split <;> rfl

theorem halfCycleBegun_beginPositive (s : State) : HalfCycleBegun s s.beginPositive := by
  unfold State.beginPositive
  split
  next black => exact ⟨fun _ => ⟨rfl, rfl⟩, fun live => absurd black live⟩
  next live => exact ⟨fun black => absurd black live, fun _ => fireStep_channel s⟩

/-- R1, R3, R16, R23: a crossing at a moment with the runs it leaves: a half-cycle begun and the next midpoint set. -/
def State.crossedAt (s : State) (now discards valids : Nat) (fast : Bool) : State :=
  { s with
    now := now
    reg :=
      { s.reg with
        conducting := s.beginPositive.reg.conducting
        counts := s.beginPositive.reg.counts
        lastCrossing := some now
        midpoint := some (now + s.reg.lastPeriod.getD 20000 / 2)
        discardRun := discards
        validRun := valids
        overspeed := fast } }

theorem crossingTaken_crossedAt (s : State) (now discards valids : Nat) (fast : Bool) :
    CrossingTaken s (s.crossedAt now discards valids fast).rated.judgeTimings now fast := by
  set base := s.crossedAt now discards valids fast
  have ratings : RatingsTaken base base.rated := ratingsTaken_rated base
  have begun : HalfCycleBegun s s.beginPositive := halfCycleBegun_beginPositive s
  have frame := rated_frame base
  have judged : TimingsJudged base.rated base.rated.judgeTimings := judgeTimings_judged _
  have pattern : base.rated.reg.conducting = s.beginPositive.reg.conducting ∧ base.rated.reg.counts = s.beginPositive.reg.counts := by
    rw [frame]; exact ⟨rfl, rfl⟩
  refine ⟨?_, ?_, ?_, ratings, ?_⟩
  · rw [frame]; rfl
  · rw [frame]; rfl
  · rw [frame]; exact begun
  · rw [frame] at judged ⊢; exact judged

theorem crossedAt_runs (s : State) (now discards valids : Nat) (fast : Bool) :
    (s.crossedAt now discards valids fast).rated.judgeTimings.reg.discardRun = discards
      ∧ (s.crossedAt now discards valids fast).rated.judgeTimings.reg.validRun = valids := by
  rw [rated_frame]
  exact ⟨rfl, rfl⟩

theorem waveformLoss_overspeed (s : State) : s.waveformLoss.reg.overspeed = s.reg.overspeed := by
  unfold State.waveformLoss
  dsimp only
  split <;> rfl

theorem takeCrossing_none (i : Nat) (first : s.reg.lastCrossing = none) :
    s.takeCrossing i = { s with reg := { s.reg with lastCrossing := some s.now } } := by
  simp only [State.takeCrossing, first]

theorem takeCrossing_some {m : Nat} (i : Nat) (last : s.reg.lastCrossing = some m) :
    s.takeCrossing i =
      { s with now := max s.now (m + i), reg := { s.reg with lastCrossing := some (max s.now (m + i)) } } := by
  simp only [State.takeCrossing, last]
  rfl

/-- The half-cycle begun by a crossing does not look at the crossing itself. -/
theorem beginPositive_at (s : State) (now : Nat) :
    State.beginPositive { s with now := now, reg := { s.reg with lastCrossing := some now } } =
      { s with
        now := now
        reg :=
          { s.reg with
            conducting := s.beginPositive.reg.conducting
            counts := s.beginPositive.reg.counts
            lastCrossing := some now } } := by
  unfold State.beginPositive
  by_cases black : s.reg.station = .black
  · rw [if_pos black, if_pos black]
  · rw [if_neg black, if_neg black]
    rfl

theorem reference_cycle (i : Nat) (first : s.reg.lastCrossing = none) :
    (s.takeCrossing i).regulatorCycle .reference i =
      (s.crossedAt s.now s.reg.discardRun s.reg.validRun false).rated.judgeTimings := by
  rw [regulatorCycle_reference, takeCrossing_none i first]
  refine (ratings_judged _).trans (congrArg (fun t : State => t.rated.judgeTimings) ?_)
  exact congrArg (fun t => (State.countCycle t .reference i).scheduleMidpoint) (beginPositive_at s s.now)

theorem discarded_cycle {m : Nat} (f i : Nat) (last : s.reg.lastCrossing = some m) :
    let u := (s.crossedAt (max s.now (m + i)) (s.reg.discardRun + 1) 0 (decide (6000 < f))).rated.judgeTimings
    (s.takeCrossing i).regulatorCycle (.discarded f) i = if s.reg.discardRun + 1 < 5 then u else u.waveformLoss := by
  intro u
  have crossed : ((s.takeCrossing i).crossed (.discarded f) i).judgeTimings = u := by
    rw [takeCrossing_some i last]
    refine (ratings_judged _).trans (congrArg (fun t : State => t.rated.judgeTimings) ?_)
    exact congrArg (fun t => (State.countCycle t (.discarded f) i).scheduleMidpoint) (beginPositive_at s _)
  have run : u.reg.discardRun = s.reg.discardRun + 1 := (crossedAt_runs s _ _ _ _).1
  rw [regulatorCycle_discarded, crossed, run]
  by_cases few : s.reg.discardRun + 1 < 5
  · exact (if_neg (Nat.not_le.2 few)).trans (if_pos few).symm
  · exact (if_pos (Nat.not_lt.1 few)).trans (if_neg few).symm

/-! ### What follows the regulator's part of a cycle -/

/-- A state that differs in the Allowance Unit and what is on its way alone. -/
theorem consider_frame (s : State) : s.consider = { s with alw := s.consider.alw, transit := s.consider.transit } := by
  have fields {t : State} (pending : t.pending = s.pending) (now : t.now = s.now) (held : t.held = s.held)
      (rose : t.supplyRose = s.supplyRose) (cause : t.cause = s.cause) (reg : t.reg = s.reg) (fdr : t.fdr = s.fdr)
      (saw : t.saw = s.saw) (meas : t.meas = s.meas) (set : t.set = s.set) (links : t.links = s.links)
      (pins : t.pins = s.pins) : t = { s with alw := t.alw, transit := t.transit } := by
    cases t
    simp_all only
  exact fields (consider_pending s) (consider_now s) (consider_held s) (consider_supplyRose s) (consider_cause s)
    (consider_reg s) (consider_fdr s) (consider_saw s) (consider_meas s) (consider_set s) (consider_links s) (consider_pins s)

/-- The same after a part that acts on the moment, the regulator and what is on its way. -/
theorem consider_after {now : Nat} (frame : t = { s with now := now, reg := t.reg, transit := t.transit }) :
    t.consider = { s with now := now, reg := t.reg, alw := t.consider.alw, transit := t.consider.transit } :=
  (consider_frame t).trans (congrArg (fun u : State => { u with alw := t.consider.alw, transit := t.consider.transit }) frame)

theorem cycleMark_reference (i : Nat) (first : s.reg.lastCrossing = none) : cycleMark s.reg.lastCrossing i = .reference := by
  rw [first]
  rfl

theorem cycleMark_discarded {m i : Nat} (last : s.reg.lastCrossing = some m)
    (out : cycleFrequency i < 4000 ∨ 6000 < cycleFrequency i) :
    cycleMark s.reg.lastCrossing i = .discarded (cycleFrequency i) := by
  rw [last]
  refine if_neg fun h => ?_
  obtain ⟨low, high⟩ : 4000 ≤ cycleFrequency i ∧ cycleFrequency i ≤ 6000 := h
  omega

theorem cycleMark_valid {m i : Nat} (last : s.reg.lastCrossing = some m) (low : 4000 ≤ cycleFrequency i)
    (high : cycleFrequency i ≤ 6000) : cycleMark s.reg.lastCrossing i = .valid (cycleFrequency i) := by
  rw [last]
  exact if_pos ⟨low, high⟩

theorem completion_reference (i : Nat) (a : Sample) (rest : List Sample) (first : s.reg.lastCrossing = none) :
    cycleCompletionEffect i a rest s = ((s.takeCrossing i).regulatorCycle .reference i).consider := by
  unfold cycleCompletionEffect
  rw [cycleMark_reference i first]

theorem completion_discarded {m i : Nat} (a : Sample) (rest : List Sample) (last : s.reg.lastCrossing = some m)
    (out : cycleFrequency i < 4000 ∨ 6000 < cycleFrequency i) :
    cycleCompletionEffect i a rest s =
      ((s.takeCrossing i).regulatorCycle (.discarded (cycleFrequency i)) i).consider := by
  unfold cycleCompletionEffect
  rw [cycleMark_discarded last out]

end

/-- Settles O17: the crossing by `crossingTaken_crossedAt`, and the head's consideration leaves the regulator as it is. -/
theorem cycleThatIsNotValid : Obligations.CycleThatIsNotValid := by
  intro i a rest s held
  refine ⟨fun first => ⟨_, exec_running rfl held (completion_reference i a rest first), ?reference⟩,
    fun m last out => ⟨_, exec_running rfl held (completion_discarded a rest last out), ?discarded⟩⟩
  case reference =>
    rw [reference_cycle i first]
    have taken := crossingTaken_crossedAt s s.now s.reg.discardRun s.reg.validRun false
    obtain ⟨discards, valids⟩ := crossedAt_runs s s.now s.reg.discardRun s.reg.validRun false
    set u := (s.crossedAt s.now s.reg.discardRun s.reg.validRun false).rated.judgeTimings
    obtain ⟨frame, reg, -⟩ := id taken
    have transit : u.transit = s.transit := (congrArg State.transit frame).trans rfl
    dsimp only
    rw [consider_reg]
    refine ⟨by rw [reg], by rw [reg], valids, discards, by rw [reg], by rw [reg], ?_, u, rfl, taken, discards, valids⟩
    exact consider_after (frame.trans (by rw [transit]))
  case discarded =>
    rw [discarded_cycle _ i last]
    set now := max s.now (m + i)
    set fast := decide (6000 < cycleFrequency i)
    have taken := crossingTaken_crossedAt s now (s.reg.discardRun + 1) 0 fast
    obtain ⟨discards, valids⟩ := crossedAt_runs s now (s.reg.discardRun + 1) 0 fast
    set u := (s.crossedAt now (s.reg.discardRun + 1) 0 fast).rated.judgeTimings
    obtain ⟨frame, reg, -⟩ := id taken
    have transit : u.transit = s.transit := (congrArg State.transit frame).trans rfl
    by_cases few : s.reg.discardRun + 1 < 5
    case pos =>
      rw [if_pos few, if_pos few, consider_reg]
      refine ⟨by rw [reg], valids, by rw [reg], ⟨discards, by rw [reg], by rw [reg]⟩, ?_, u, by rw [if_pos few], taken, discards,
        valids⟩
      exact consider_after (frame.trans (by rw [transit]))
    case neg =>
      obtain ⟨history, noDiscards, noValids, crossing, station, -, -, -, lost⟩ := waveformLoss_spec u
      rw [if_neg few, if_neg few, consider_reg]
      refine ⟨crossing.trans (by rw [reg]), noValids, (waveformLoss_overspeed u).trans (by rw [reg]),
        ⟨noDiscards, history, station⟩, ?_, u, by rw [if_neg few], taken, discards, valids⟩
      exact consider_after
        (lost.trans (congrArg (fun x : State => { x with reg := u.waveformLoss.reg, transit := u.waveformLoss.transit }) frame))

end Sys2Proof.Machine

namespace Sys2Proof.Machine

/-! ### The regulator's part of a valid cycle (R2, R4 to R6, R8, R14, R22 to R27, R35) -/

/-- R1: twice the period times the frequency, to the nearest hundredth of a hertz. -/
theorem cycleFrequency_nearest {p : Nat} (positive : 0 < p) :
    2 * p * cycleFrequency p ≤ 200000000 + p ∧ 200000000 + p < 2 * p * (cycleFrequency p + 1) := by
  have whole : cycleFrequency p = (200000000 + p) / (2 * p) := by rw [cycleFrequency, Nat.max_eq_left positive]
  rw [whole]
  exact ⟨Nat.mul_div_le _ _, Nat.lt_mul_div_succ _ (by omega)⟩

theorem joinFrequency_eq (h : List Nat) (f : Nat) : joinFrequency h f = (h ++ [f]).drop (h.length + 1 - 8) := by
  unfold joinFrequency
  dsimp only
  rw [List.length_append, List.length_singleton]
  split
  next => rfl
  next short =>
    have room : h.length + 1 - 8 = 0 := Nat.sub_eq_zero_of_le (Nat.not_lt.1 short)
    rw [room, List.drop_zero]

/-- R1 to R4, R6, R22, R23: a valid cycle counted, before the ratings are taken. -/
def State.counted (s : State) (now f i : Nat) : State :=
  { s with
    now := now
    reg :=
      { s.reg with
        inForce := s.set.tables.thresholds
        conducting := s.beginPositive.reg.conducting
        counts := s.beginPositive.reg.counts
        lastCrossing := some now
        midpoint := some (now + i / 2)
        discardRun := 0
        validRun := min (s.reg.validRun + 1) 8
        history := joinFrequency s.reg.history f
        lastPeriod := some i
        overspeed := false } }

/-- R27: the loop step, before the timings are judged. -/
def State.stepped (s : State) (f : Nat) : State :=
  if s.reg.station = .black then s
  else
    let bd := min ((s.reg.bd : Int) + Int.tdiv ((s.set.tables.channels.loopGain : Int) * ((f : Int) - 5000)) 10).toNat s.capacity
    { s with reg := { s.reg with bd := bd, levels := levelsFor bd s.reg.ratings } }

/-- R35: the ratings taken, judged where they changed. -/
def State.ratedJudged (s : State) : State :=
  if s.reg.station = .black ∨ s.reg.ratings = s.set.tables.channels.rating then s else s.rated.judgeTimings

/-- R5 to R8, R14, R27, R35: a valid cycle judged, before the station moves. -/
def State.cycled (s : State) (now f i : Nat) : State := (((s.counted now f i).ratedJudged).stepped f).judgeTimings

/-- R8, R14: the station leaves BLACK or RUNAWAY. -/
def State.stationMoved (s : State) : State :=
  if s.reg.station = .black ∧ s.reg.validRun = 8 then s.enterWarming
  else if s.reg.station = .runaway ∧ s.filteredIs (fun f => f < s.reg.inForce.runawayExit) = true then
    s.enterStation .regulating .empty
  else s

section
variable {s t u : State} {now f i : Nat}

theorem counted_eq (s : State) (now f i : Nat) :
    (((State.readThresholds { s with now := now, reg := { s.reg with lastCrossing := some now } }
      (.valid f)).beginPositive).countCycle (.valid f) i).scheduleMidpoint = s.counted now f i := by
  have begun := beginPositive_at { s with reg := { s.reg with inForce := s.set.tables.thresholds } } now
  refine (congrArg (fun t => (State.countCycle t (.valid f) i).scheduleMidpoint) begun).trans ?_
  unfold State.counted State.beginPositive
  by_cases black : s.reg.station = .black
  · simp only [black, if_true]; rfl
  · simp only [black, if_false]; rfl

theorem loopStep_judged (s : State) (f : Nat) : (s.loopStep f).judgeTimings = (s.stepped f).judgeTimings := by
  unfold State.loopStep State.stepped
  split
  · rfl
  · exact judgeTimings_judgeTimings _

theorem crossed_ratedJudged (s : State) :
    (if s.reg.station = .black then s else s.takeRatings) = s.ratedJudged := by
  unfold State.ratedJudged
  by_cases black : s.reg.station = .black
  · rw [if_pos black, if_pos (.inl black)]
  · rw [if_neg black, takeRatings_live black]
    exact if_congr (or_iff_right black).symm rfl rfl

theorem testTimings_eq (s : State) (changed : Bool) :
    s.testTimings changed =
      (if changed then s.judgeTimings.stationMoved.expireReached else s.judgeTimings.stationMoved).judgeQuiet := rfl

theorem valid_cycle {m : Nat} (f i : Nat) (last : s.reg.lastCrossing = some m) :
    let v := (s.cycled (max s.now (m + i)) f i).stationMoved
    (s.takeCrossing i).regulatorCycle (.valid f) i =
      (if s.reg.inForce = s.set.tables.thresholds then v else v.expireReached).judgeQuiet := by
  intro v
  have cycled : (((s.takeCrossing i).crossed (.valid f) i).loopStep f).judgeTimings = s.cycled (max s.now (m + i)) f i := by
    rw [takeCrossing_some i last, loopStep_judged]
    have counted := counted_eq s (max s.now (m + i)) f i
    refine congrArg (fun t : State => (t.stepped f).judgeTimings) ?_
    refine Eq.trans ?_ (crossed_ratedJudged _)
    rw [← counted]
    rfl
  rw [regulatorCycle_valid, testTimings_eq, cycled, takeCrossing_reg_inForce, takeCrossing_set]
  by_cases same : s.reg.inForce = s.set.tables.thresholds
  · rw [if_neg (by simp [same]), if_pos same]
  · rw [if_pos (by simp [same]), if_neg same]

/-! ### What the parts of a valid cycle leave as it was -/

/-- Two states that differ in the ratings, Bd, the levels and the timings alone. -/
def BallastMoves (s t : State) : Prop :=
  t =
    { s with
      reg :=
        { s.reg with
          ratings := t.reg.ratings, bd := t.reg.bd, levels := t.reg.levels, warmBand := t.reg.warmBand, shed := t.reg.shed
          fast := t.reg.fast, recovery := t.reg.recovery, runaway := t.reg.runaway, trip := t.reg.trip } }

theorem BallastMoves.trans (before : BallastMoves s t) (after : BallastMoves t u) : BallastMoves s u := by
  unfold BallastMoves at before after ⊢
  rw [after, before]

theorem rated_moves (s : State) : BallastMoves s s.rated := by
  unfold State.rated
  split <;> rfl

theorem ratedJudged_moves (s : State) : BallastMoves s s.ratedJudged := by
  unfold State.ratedJudged
  split
  · rfl
  · exact (rated_moves s).trans rfl

theorem stepped_moves (s : State) (f : Nat) : BallastMoves s (s.stepped f) := by
  unfold State.stepped
  split <;> rfl

theorem cycled_moves (s : State) (now f i : Nat) : BallastMoves (s.counted now f i) (s.cycled now f i) :=
  ((ratedJudged_moves _).trans (stepped_moves _ f)).trans rfl

/-- Two states that differ in the station state and what goes with it, the timings, the TRIP latch and the levels,
and in what is told of it. -/
def StationMoves (s t : State) : Prop :=
  t =
    { s with
      reg :=
        { s.reg with
          station := t.reg.station, reasons := t.reg.reasons, warmBand := t.reg.warmBand, shed := t.reg.shed
          fast := t.reg.fast, recovery := t.reg.recovery, runaway := t.reg.runaway, trip := t.reg.trip
          tripLatch := t.reg.tripLatch, quiet := t.reg.quiet, levels := t.reg.levels }
      transit := t.transit, links := t.links }

theorem StationMoves.refl (s : State) : StationMoves s s := rfl

theorem StationMoves.trans (before : StationMoves s t) (after : StationMoves t u) : StationMoves s u := by
  unfold StationMoves at before after ⊢
  rw [after, before]

theorem stationMoved_moves (s : State) : StationMoves s s.stationMoved := by
  unfold State.stationMoved
  split
  · rfl
  · split <;> rfl

theorem raiseFrequency_moves (s : State) : StationMoves s s.raiseFrequency := by
  unfold State.raiseFrequency
  split <;> rfl

theorem leaveDeficit_moves (s : State) : StationMoves s s.leaveDeficit := by
  unfold State.leaveDeficit
  split <;> rfl

theorem setTrip_moves (s : State) : StationMoves s s.setTrip := by
  unfold State.setTrip
  split <;> rfl

/-! At the test an expiry that is due takes place at the moment itself (R6). -/

theorem expireTrip_moves (due : s.reg.trip.reached (Config.tenths s.reg.inForce.tripDelay) s.clock = true) :
    StationMoves s s.expireTrip := by
  unfold State.expireTrip
  split
  · exact .refl s
  next since start =>
    dsimp only
    rw [expireAt_of_reached start due]
    refine StationMoves.trans ?_ (setTrip_moves _)
    exact rfl

theorem expireWarmBand_moves (due : s.reg.warmBand.reached (Config.seconds s.reg.inForce.warmUp) s.clock = true) :
    StationMoves s s.expireWarmBand := by
  unfold State.expireWarmBand
  split
  · exact .refl s
  next since start =>
    dsimp only
    rw [expireAt_of_reached start due]
    exact rfl

theorem expireShed_moves (due : s.reg.shed.reached (Config.tenths s.reg.inForce.shedDelay) s.clock = true) :
    StationMoves s s.expireShed := by
  unfold State.expireShed
  split
  · exact .refl s
  next since start =>
    dsimp only
    rw [expireAt_of_reached start due]
    refine StationMoves.trans ?_ (raiseFrequency_moves _)
    exact rfl

theorem expireFast_moves (due : s.reg.fast.reached (Config.tenths s.reg.inForce.fastDelay) s.clock = true) :
    StationMoves s s.expireFast := by
  unfold State.expireFast
  split
  · exact .refl s
  next since start =>
    dsimp only
    rw [expireAt_of_reached start due]
    refine StationMoves.trans ?_ (raiseFrequency_moves _)
    exact rfl

theorem expireRecovery_moves (due : s.reg.recovery.reached (Config.tenths s.reg.inForce.recoveryTime) s.clock = true) :
    StationMoves s s.expireRecovery := by
  unfold State.expireRecovery
  split
  · exact .refl s
  next since start =>
    dsimp only
    rw [expireAt_of_reached start due]
    refine StationMoves.trans ?_ (leaveDeficit_moves _)
    exact rfl

theorem expireRunaway_moves (due : s.reg.runaway.reached (Config.tenths s.reg.inForce.runawayDelay) s.clock = true) :
    StationMoves s s.expireRunaway := by
  unfold State.expireRunaway
  split
  · exact .refl s
  next since start =>
    dsimp only
    rw [expireAt_of_reached start due]
    exact rfl

theorem moves_if {b : Bool} {f : State → State} (acts : b = true → StationMoves s (f s)) :
    StationMoves s (if b = true then f s else s) := by
  split
  next due => exact acts due
  next => exact .refl s

theorem StationMoves.inForce (h : StationMoves s t) : t.reg.inForce = s.reg.inForce := by
  rw [h]

theorem expireReached_moves (s : State) : StationMoves s s.expireReached := by
  unfold State.expireReached
  extract_lets when? th s1 s2 s3 s4 s5
  have trip : StationMoves s s1 := moves_if expireTrip_moves
  have warmBand : StationMoves s1 s2 := moves_if fun due => expireWarmBand_moves (trip.inForce ▸ due)
  have shed : StationMoves s2 s3 := moves_if fun due => expireShed_moves ((trip.trans warmBand).inForce ▸ due)
  have fast : StationMoves s3 s4 := moves_if fun due => expireFast_moves (((trip.trans warmBand).trans shed).inForce ▸ due)
  have upToFast := ((trip.trans warmBand).trans shed).trans fast
  have recovery : StationMoves s4 s5 := moves_if fun due => expireRecovery_moves (upToFast.inForce ▸ due)
  have upToRecovery := upToFast.trans recovery
  exact upToRecovery.trans (moves_if fun due => expireRunaway_moves (upToRecovery.inForce ▸ due))

end

end Sys2Proof.Machine

namespace Sys2Proof.Machine

/-! ### Bd, the levels and the timings of a valid cycle (R5, R8, R13, R14, R24 to R27, R33, R35) -/

/-- R27: the loop step of a frequency. -/
abbrev State.loopBy (s : State) (f : Nat) : Int :=
  Int.tdiv ((s.set.tables.channels.loopGain : Int) * ((f : Int) - 5000)) 10

/-- The committed ratings are those in force. -/
abbrev SameRatings (s : State) : Prop := s.reg.ratings = s.set.tables.channels.rating

/-- R35: Bd as the ratings leave it, with the capacity they give. -/
def State.heldBd (s : State) (capacity : Nat) : Nat := if SameRatings s then s.reg.bd else min s.reg.bd capacity

section
variable {s : State} {now f i : Nat}

theorem cycled_black (black : s.reg.station = .black) : s.cycled now f i = (s.counted now f i).judgeTimings := by
  have rated : (s.counted now f i).ratedJudged = s.counted now f i := if_pos (.inl black)
  have stepped : (s.counted now f i).stepped f = s.counted now f i := if_pos black
  rw [State.cycled, rated, stepped]

theorem cycled_same (same : SameRatings s) : s.cycled now f i = ((s.counted now f i).stepped f).judgeTimings := by
  have rated : (s.counted now f i).ratedJudged = s.counted now f i := if_pos (.inr same)
  rw [State.cycled, rated]

theorem cycled_differ (live : s.reg.station ≠ .black) (differ : ¬ SameRatings s) :
    s.cycled now f i = (((s.counted now f i).rated.judgeTimings).stepped f).judgeTimings := by
  have rated : (s.counted now f i).ratedJudged = (s.counted now f i).rated.judgeTimings := if_neg (not_or.2 ⟨live, differ⟩)
  rw [State.cycled, rated]

/-- R27: Bd moved by the loop step and shared out. -/
def State.looped (s : State) (f : Nat) : State :=
  { s with
    reg :=
      { s.reg with
        bd := min ((s.reg.bd : Int) + s.loopBy f).toNat s.capacity
        levels := levelsFor (min ((s.reg.bd : Int) + s.loopBy f).toNat s.capacity) s.reg.ratings } }

theorem stepped_live (live : s.reg.station ≠ .black) : s.stepped f = s.looped f := if_neg live

theorem rated_set (s : State) : s.rated.set = s.set := (congrArg State.set (rated_frame s)).trans rfl

theorem rated_live (live : s.reg.station ≠ .black) : s.rated.judgeTimings.reg.station ≠ .black := by
  rw [judgeTimings_reg_station, rated_frame]
  exact live

/-- R24, R35: the changed ratings and Bd held within them. -/
theorem rated_differ (live : s.reg.station ≠ .black) (differ : ¬ SameRatings s) :
    s.rated.reg.ratings = s.set.tables.channels.rating ∧ s.rated.reg.bd = min s.reg.bd s.rated.capacity := by
  rw [rated_changed live differ]
  exact ⟨rfl, rfl⟩

/-- R27, R35: outside BLACK the ratings are taken, Bd is moved by the loop step, and it is shared out. -/
theorem cycled_live (now f i : Nat) (live : s.reg.station ≠ .black) :
    let v := s.cycled now f i
    v.reg.ratings = s.set.tables.channels.rating
      ∧ v.reg.bd = min ((s.heldBd v.capacity : Int) + s.loopBy f).toNat v.capacity
      ∧ v.reg.levels = levelsFor v.reg.bd v.reg.ratings := by
  set c := s.counted now f i
  by_cases same : SameRatings s
  · have held (capacity : Nat) : s.heldBd capacity = s.reg.bd := if_pos same
    dsimp only
    rw [held, cycled_same same, stepped_live (s := c) live]
    exact ⟨same, rfl, rfl⟩
  · have held (capacity : Nat) : s.heldBd capacity = min s.reg.bd capacity := if_neg same
    obtain ⟨ratings, bd⟩ := rated_differ (s := c) live same
    have gain : c.rated.judgeTimings.loopBy f = s.loopBy f := by
      show Int.tdiv ((c.rated.set.tables.channels.loopGain : Int) * _) 10 = _
      rw [rated_set]
      rfl
    dsimp only
    rw [held, cycled_differ live same, stepped_live (rated_live (s := c) live)]
    refine ⟨ratings, ?_, rfl⟩
    show min ((c.rated.reg.bd : Int) + c.rated.judgeTimings.loopBy f).toNat c.rated.capacity = _
    rw [bd, gain]
    rfl

/-! #### The timings -/

/-- The runaway timing's condition as the new ratings leave Bd, before the loop step (log 18). -/
def State.saturatedAtRatings (s v : State) : Bool :=
  decide (s.reg.station = .regulating ∧ s.heldBd v.capacity = v.capacity)
    && v.filteredIs (fun g => s.set.tables.thresholds.runawayLevel < g)

/-- The state whose timings a valid cycle judges. -/
def State.timingBase (s v : State) : State :=
  if SameRatings s then s
  else { s with reg := { s.reg with runaway := judgedTiming s.reg.runaway (s.saturatedAtRatings v) v.clock } }

theorem judged_judged (t : Timing) (c : Bool) (clock : Nat) :
    judgedTiming (judgedTiming t c clock) c clock = judgedTiming t c clock := by
  cases c <;> cases t <;> rfl

/-- A second judgement, in other conditions, is the only one that counts for a timing that the first did not stop. -/
theorem judged_after {t : Timing} {c c' : Bool} {clock : Nat} (keeps : c' = true → c = true ∨ t = .stopped) :
    judgedTiming (judgedTiming t c clock) c' clock = judgedTiming t c' clock := by
  cases c' with
  | false => rfl
  | true =>
    rcases keeps rfl with rfl | rfl
    · exact judged_judged t true clock
    · cases c <;> rfl

theorem judgedTiming_false (t : Timing) (clock : Nat) : judgedTiming t false clock = .stopped := rfl

theorem rated_timings (s : State) :
    s.rated.reg.warmBand = s.reg.warmBand ∧ s.rated.reg.shed = s.reg.shed ∧ s.rated.reg.fast = s.reg.fast
      ∧ s.rated.reg.recovery = s.reg.recovery ∧ s.rated.reg.trip = s.reg.trip := by
  rw [rated_frame]
  exact ⟨rfl, rfl, rfl, rfl, rfl⟩

theorem rated_judged (s : State) : TimingsJudged s s.rated.judgeTimings := by
  have judged := judgeTimings_judged s.rated
  rw [rated_frame s] at judged ⊢
  exact judged

theorem stepped_judged (s : State) (f : Nat) : TimingsJudged s (s.stepped f).judgeTimings := by
  unfold State.stepped
  split
  · exact judgeTimings_judged s
  · exact judgeTimings_judged _

theorem runawayCondition_elsewhere {v : State} (elsewhere : v.reg.station ≠ .regulating) : v.runawayCondition = false := by
  simp [State.runawayCondition, elsewhere]

/-- R5: the second of two judgements with the loop step between: it counts for the runaway timing alone. -/
theorem looped_judged (s : State) (f : Nat) :
    let x := s.judgeTimings
    let v := (x.looped f).judgeTimings
    TimingsJudged { s with reg := { s.reg with runaway := x.reg.runaway } } v := by
  intro x v
  obtain ⟨warm, shed, fast, recovery, runaway, trip⟩ := judgeTimings_judged s
  obtain ⟨warm', shed', fast', recovery', runaway', trip'⟩ := judgeTimings_judged (x.looped f)
  have twice {t first : Timing} {c : Bool} (once : first = judgedTiming t c s.clock) :
      judgedTiming first c s.clock = judgedTiming t c s.clock := by
    rw [once, judged_judged]
  exact ⟨warm'.trans (twice warm), shed'.trans (twice shed), fast'.trans (twice fast), recovery'.trans (twice recovery),
    runaway', trip'.trans (twice trip)⟩

/-- R13, log 18: the runaway condition as the new ratings leave Bd. -/
theorem rated_runawayCondition (live : s.reg.station ≠ .black) (differ : ¬ SameRatings s) :
    (s.counted now f i).rated.judgeTimings.runawayCondition = s.saturatedAtRatings (s.cycled now f i) := by
  set c := s.counted now f i
  obtain ⟨ratings, bd⟩ := rated_differ (s := c) live differ
  have moves : BallastMoves c c.rated := rated_moves c
  have held : s.heldBd c.rated.capacity = c.rated.reg.bd := (if_neg differ).trans bd.symm
  have capacity : (s.cycled now f i).capacity = c.rated.capacity := by
    obtain ⟨ratings', -⟩ := cycled_live now f i live
    show (s.cycled now f i).reg.ratings.toList.sum = c.rated.reg.ratings.toList.sum
    rw [ratings', ratings]
    rfl
  have filtered (p : Nat → Bool) : (s.cycled now f i).filteredIs p = c.filteredIs p := by
    rw [cycled_moves s now f i]
    rfl
  unfold State.saturatedAtRatings
  rw [capacity, held, filtered, Bool.decide_and]
  show (decide (c.rated.reg.station = .regulating) && decide (c.rated.reg.bd = c.rated.capacity)
    && c.rated.filteredIs fun g => c.rated.reg.inForce.runawayLevel < g) = _
  have station : c.rated.reg.station = s.reg.station := by rw [moves]; rfl
  have heard : (c.rated.filteredIs fun g => c.rated.reg.inForce.runawayLevel < g) =
      c.filteredIs fun g => s.set.tables.thresholds.runawayLevel < g := by rw [moves]; rfl
  rw [station, heard]

/-- R5: a valid cycle judges the timings, before the station moves. -/
theorem cycled_judged (now f i : Nat) : TimingsJudged (s.timingBase (s.cycled now f i)) (s.cycled now f i) := by
  set c := s.counted now f i
  by_cases same : SameRatings s
  · have base : s.timingBase (s.cycled now f i) = s := if_pos same
    rw [base, cycled_same same]
    exact stepped_judged c f
  · have base : s.timingBase (s.cycled now f i) =
        { s with
          reg :=
            { s.reg with
              runaway := judgedTiming s.reg.runaway (s.saturatedAtRatings (s.cycled now f i)) (s.cycled now f i).clock } } :=
      if_neg same
    by_cases black : s.reg.station = .black
    · rw [base]
      obtain ⟨warm, shed, fast, recovery, runaway, trip⟩ := judgeTimings_judged c
      have unsaturated : c.judgeTimings.runawayCondition = false :=
        runawayCondition_elsewhere (by rw [judgeTimings_reg_station]; exact fun h => absurd (black.symm.trans h) (by decide))
      rw [cycled_black black]
      refine ⟨warm, shed, fast, recovery, ?_, trip⟩
      rw [runaway, unsaturated]
      rfl
    · have condition := rated_runawayCondition (now := now) (f := f) (i := i) black same
      have cycle : s.cycled now f i = (c.rated.judgeTimings.looped f).judgeTimings := by
        rw [cycled_differ black same, stepped_live (rated_live (s := c) black)]
      obtain ⟨-, -, -, -, atRatings, -⟩ := rated_judged c
      obtain ⟨warm, shed, fast, recovery, runaway, trip⟩ := looped_judged c.rated f
      obtain ⟨warm', shed', fast', recovery', trip'⟩ := rated_timings c
      rw [base, ← condition, cycle]
      exact ⟨warm.trans (congrArg (judgedTiming · _ _) warm'), shed.trans (congrArg (judgedTiming · _ _) shed'),
        fast.trans (congrArg (judgedTiming · _ _) fast'), recovery.trans (congrArg (judgedTiming · _ _) recovery'),
        runaway.trans (congrArg (judgedTiming · _ _) atRatings), trip.trans (congrArg (judgedTiming · _ _) trip')⟩

/-- R5, R15: a timing that the old state's conditions had stopped is judged as the new state gives. -/
theorem timingsJudged_entered {base u : State} {st : StationState} {r : Reasons} (judged : TimingsJudged base u)
    (warm : (u.enterStation st r).warmCondition = true → u.warmCondition = true ∨ base.reg.warmBand = .stopped)
    (shed : (u.enterStation st r).shedCondition = true → u.shedCondition = true)
    (fast : (u.enterStation st r).fastCondition = true → u.fastCondition = true)
    (runaway : (u.enterStation st r).runawayCondition = true → u.runawayCondition = true ∨ base.reg.runaway = .stopped) :
    TimingsJudged base (u.enterStation st r) := by
  obtain ⟨warm', shed', fast', recovery', runaway', trip'⟩ := judged
  rw [enterStation_eq] at *
  refine ⟨?_, ?_, ?_, ?_, ?_, ?_⟩
  · exact (congrArg (judgedTiming · _ u.clock) warm').trans (judged_after warm)
  · exact (congrArg (judgedTiming · _ u.clock) shed').trans (judged_after fun h => .inl (shed h))
  · exact (congrArg (judgedTiming · _ u.clock) fast').trans (judged_after fun h => .inl (fast h))
  · exact (congrArg (judgedTiming · _ u.clock) recovery').trans (judged_after fun h => .inl h)
  · exact (congrArg (judgedTiming · _ u.clock) runaway').trans (judged_after runaway)
  · exact (congrArg (judgedTiming · _ u.clock) trip').trans (judged_after fun h => .inl h)

end

end Sys2Proof.Machine

namespace Sys2Proof.Machine

/-! ### The station after a valid cycle (R8, R14, R15, R33) -/

section
variable {s t v : State} {now f i : Nat}

theorem filteredIs_congr (history : t.reg.history = s.reg.history) (p : Nat → Bool) : t.filteredIs p = s.filteredIs p := by
  unfold State.filteredIs State.filtered
  rw [history]

/-- The three ways the station goes at the test. -/
theorem stationMoved_cases (s : State) :
    (s.reg.station = .black ∧ s.reg.validRun = 8 ∧ s.stationMoved = s.enterWarming)
      ∨ (s.reg.station = .runaway ∧ s.filteredIs (fun g => g < s.reg.inForce.runawayExit) = true
          ∧ s.stationMoved = s.enterStation .regulating .empty)
      ∨ (¬ (s.reg.station = .black ∧ s.reg.validRun = 8)
          ∧ ¬ (s.reg.station = .runaway ∧ s.filteredIs (fun g => g < s.reg.inForce.runawayExit) = true)
          ∧ s.stationMoved = s) := by
  by_cases warm : s.reg.station = .black ∧ s.reg.validRun = 8
  · exact .inl ⟨warm.1, warm.2, if_pos warm⟩
  · by_cases cool : s.reg.station = .runaway ∧ s.filteredIs (fun g => g < s.reg.inForce.runawayExit) = true
    · exact .inr (.inl ⟨cool.1, cool.2, (if_neg warm).trans (if_pos cool)⟩)
    · exact .inr (.inr ⟨warm, cool, (if_neg warm).trans (if_neg cool)⟩)

theorem stationMoved_station (s : State) :
    s.stationMoved.reg.station =
      if s.reg.station = .black then (if s.reg.validRun = 8 then .warming else .black)
      else if s.reg.station = .runaway ∧ s.filteredIs (fun g => g < s.reg.inForce.runawayExit) = true then .regulating
      else s.reg.station := by
  unfold State.stationMoved
  by_cases black : s.reg.station = .black
  · rw [if_pos black]
    by_cases run : s.reg.validRun = 8
    · rw [if_pos ⟨black, run⟩, if_pos run]
      rfl
    · rw [if_neg fun h => run h.2, if_neg run, if_neg fun h => absurd (black.symm.trans h.1) (by decide), black]
  · rw [if_neg black, if_neg fun h => black h.1]
    split <;> rfl

/-- R15: a station that has moved has entered its state with no reason, and the change is told. -/
theorem stationMoved_told (s : State) :
    s.stationMoved = s ∨ s.stationMoved.reg.station ≠ s.reg.station ∧ Enters s s.stationMoved s.stationMoved.reg.station .empty := by
  rcases stationMoved_cases s with ⟨black, -, moved⟩ | ⟨runaway, -, moved⟩ | ⟨-, -, stays⟩
  · refine .inr ?_
    rw [moved, black]
    exact ⟨fun same => StationState.noConfusion same, rfl, rfl, rfl⟩
  · refine .inr ?_
    rw [moved, runaway]
    exact ⟨fun same => StationState.noConfusion same, rfl, rfl, rfl⟩
  · exact .inl stays

theorem stationMoved_kept (s : State) :
    s.stationMoved.reg.tripLatch = s.reg.tripLatch ∧ s.stationMoved.links = s.links := by
  unfold State.stationMoved
  split
  · exact ⟨rfl, rfl⟩
  · split <;> exact ⟨rfl, rfl⟩

/-- R25, R33: outside BLACK the levels share out Bd, as they are made at entry to WARMING. -/
theorem stationMoved_levels (shared : s.reg.station ≠ .black → s.reg.levels = levelsFor s.reg.bd s.reg.ratings) :
    (s.stationMoved.reg.station = .black → s.stationMoved.reg.levels = s.reg.levels)
      ∧ (s.stationMoved.reg.station ≠ .black →
          s.stationMoved.reg.levels = levelsFor s.stationMoved.reg.bd s.stationMoved.reg.ratings) := by
  rcases stationMoved_cases s with ⟨-, -, moved⟩ | ⟨runaway, -, moved⟩ | ⟨-, -, stays⟩
  · rw [moved]
    exact ⟨fun black => StationState.noConfusion black, fun _ => rfl⟩
  · rw [moved]
    exact ⟨fun black => StationState.noConfusion black, fun _ => shared (by simp [runaway])⟩
  · rw [stays]
    exact ⟨fun _ => rfl, shared⟩

/-- R5: the timings after the station has moved, where those that belong to another state were stopped. -/
theorem stationMoved_judged {base : State} (judged : TimingsJudged base s)
    (warm : s.reg.station ≠ .warming → base.reg.warmBand = .stopped)
    (runaway : s.reg.station ≠ .regulating → base.reg.runaway = .stopped) : TimingsJudged base s.stationMoved := by
  rcases stationMoved_cases s with ⟨black, -, moved⟩ | ⟨inRunaway, -, moved⟩ | ⟨-, -, stays⟩
  · rw [moved]
    refine timingsJudged_entered (u := { s with reg := { s.reg with levels := levelsFor s.reg.bd s.reg.ratings } }) judged
      (fun _ => .inr (warm (by simp [black]))) (fun h => ?_) (fun h => ?_) (fun h => .inr (runaway (by simp [black])))
    · exact absurd h (by simp [State.shedCondition, watchedForShed])
    · exact absurd h (by simp [State.fastCondition, watchedForShed])
  · rw [moved]
    refine timingsJudged_entered judged (fun _ => .inr (warm (by simp [inRunaway]))) (fun h => ?_) (fun h => ?_)
      (fun h => .inr (runaway (by simp [inRunaway])))
    · have watched : s.shedCondition = (s.enterStation .regulating .empty).shedCondition := by
        unfold State.shedCondition
        rw [inRunaway]
        rfl
      exact watched.trans h
    · have watched : s.fastCondition = (s.enterStation .regulating .empty).fastCondition := by
        unfold State.fastCondition
        rw [inRunaway]
        rfl
      exact watched.trans h
  · rw [stays]
    exact judged

/-! ### The cycle taken, from the state before it -/

/-- The regulator after a valid cycle, before timings that a commit has overtaken expire. -/
def State.cycleTaken (s : State) (now f i : Nat) : State := (s.cycled now f i).stationMoved

/-- What a valid cycle counts. -/
theorem cycleTaken_counts (s : State) (now f i : Nat) :
    let v := s.cycleTaken now f i
    v.reg.inForce = s.set.tables.thresholds ∧ v.reg.lineEmpty = s.reg.lineEmpty
      ∧ v.reg.history = (s.reg.history ++ [f]).drop (s.reg.history.length + 1 - 8)
      ∧ v.reg.validRun = min (s.reg.validRun + 1) 8 ∧ v.reg.discardRun = 0 ∧ v.reg.overspeed = false
      ∧ v.reg.lastCrossing = some now ∧ v.reg.lastPeriod = some i ∧ v.reg.midpoint = some (now + i / 2)
      ∧ v.reg.conducting = s.beginPositive.reg.conducting ∧ v.reg.counts = s.beginPositive.reg.counts
      ∧ v.reg.ratings = (s.cycled now f i).reg.ratings ∧ v.reg.bd = (s.cycled now f i).reg.bd := by
  have moves : StationMoves (s.cycled now f i) (s.cycleTaken now f i) := stationMoved_moves _
  have cycled := cycled_moves s now f i
  rw [← joinFrequency_eq]
  dsimp only
  rw [moves]
  refine ⟨?_, ?_, ?_, ?_, ?_, ?_, ?_, ?_, ?_, ?_, ?_, rfl, rfl⟩ <;> rw [cycled] <;> rfl

theorem cycled_station (s : State) (now f i : Nat) :
    (s.cycled now f i).reg.station = s.reg.station ∧ (s.cycled now f i).reg.reasons = s.reg.reasons
      ∧ (s.cycled now f i).reg.tripLatch = s.reg.tripLatch := by
  rw [cycled_moves s now f i]
  exact ⟨rfl, rfl, rfl⟩

/-- A state told by its fields. -/
theorem framed {now : Nat} (pending : t.pending = s.pending) (clock : t.now = now) (held : t.held = s.held)
    (rose : t.supplyRose = s.supplyRose) (cause : t.cause = s.cause) (set : t.set = s.set) (pins : t.pins = s.pins) :
    t =
      { s with
        now := now, reg := t.reg, alw := t.alw, fdr := t.fdr, saw := t.saw, meas := t.meas, links := t.links
        transit := t.transit } := by
  cases t
  simp_all only

theorem cycleTaken_frame (s : State) (now f i : Nat) :
    s.cycleTaken now f i =
      { s with now := now, reg := (s.cycleTaken now f i).reg, transit := (s.cycleTaken now f i).transit } := by
  have moves : StationMoves (s.cycled now f i) (s.cycleTaken now f i) := stationMoved_moves _
  have cycled := cycled_moves s now f i
  have links : (s.cycleTaken now f i).links = s.links := by
    refine (stationMoved_kept (s.cycled now f i)).2.trans ?_
    rw [cycled]
    rfl
  have alw : (s.cycleTaken now f i).alw = s.alw := by rw [moves, cycled]; rfl
  have fdr : (s.cycleTaken now f i).fdr = s.fdr := by rw [moves, cycled]; rfl
  have saw : (s.cycleTaken now f i).saw = s.saw := by rw [moves, cycled]; rfl
  have meas : (s.cycleTaken now f i).meas = s.meas := by rw [moves, cycled]; rfl
  refine (framed (s := s) (now := now) ?_ ?_ ?_ ?_ ?_ ?_ ?_).trans (by rw [alw, fdr, saw, meas, links])
  all_goals
    rw [moves, cycled]
    rfl

/-- What a valid cycle does not touch in the regulator, and that it says of a change what R15 asks. -/
theorem cycleTaken_told (s : State) (now f i : Nat) :
    let v := s.cycleTaken now f i
    v.reg.lineEmpty = s.reg.lineEmpty ∧ v.reg.tripLatch = s.reg.tripLatch
      ∧ (v.reg.station = s.reg.station → v.reg.reasons = s.reg.reasons ∧ v.transit = s.transit)
      ∧ (v.reg.station ≠ s.reg.station → Enters s v v.reg.station .empty) := by
  intro v
  obtain ⟨station, reasons, latch⟩ := cycled_station s now f i
  have transit : (s.cycled now f i).transit = s.transit := (congrArg State.transit (cycled_moves s now f i)).trans rfl
  have lineEmpty : v.reg.lineEmpty = s.reg.lineEmpty := (cycleTaken_counts s now f i).2.1
  refine ⟨lineEmpty, (stationMoved_kept _).1.trans latch, ?_, ?_⟩
  · intro same
    rcases stationMoved_told (s.cycled now f i) with stays | ⟨moved, -⟩
    · have v_eq : v = s.cycled now f i := stays
      rw [v_eq]
      exact ⟨reasons, transit⟩
    · exact absurd (same.trans station.symm) moved
  · intro differs
    rcases stationMoved_told (s.cycled now f i) with stays | ⟨-, enters⟩
    · exact absurd ((congrArg (fun x : State => x.reg.station) stays).trans station) differs
    · unfold Enters at enters ⊢
      rw [station, transit] at enters
      exact enters

theorem cycleTaken_station (s : State) (now f i : Nat) :
    let v := s.cycleTaken now f i
    v.reg.station =
      (if s.reg.station = .black then (if 7 ≤ s.reg.validRun then .warming else .black)
      else if s.reg.station = .runaway
          ∧ v.filteredIs (fun g => g < s.set.tables.thresholds.runawayExit) = true then .regulating
      else s.reg.station) := by
  intro v
  set c := s.cycled now f i with cycled
  have moves : v = _ := stationMoved_moves c
  have history : v.reg.history = c.reg.history := by rw [moves]
  have counted := cycled_moves s now f i
  have run : c.reg.validRun = min (s.reg.validRun + 1) 8 := by rw [cycled, counted]; rfl
  have inForce : c.reg.inForce = s.set.tables.thresholds := by rw [cycled, counted]; rfl
  have eight : (c.reg.validRun = 8) ↔ 7 ≤ s.reg.validRun := by rw [run]; omega
  have formula : v.reg.station = _ := stationMoved_station c
  rw [formula, (cycled_station s now f i).1, inForce, filteredIs_congr history]
  simp only [eight]

end

end Sys2Proof.Machine

namespace Sys2Proof.Machine

/-! ### The timings and the figures of a valid cycle (R5, R153) -/

section
variable {s t v : State} {l : Link}

theorem timingBase_moves {c : State} (moves : StationMoves c v) : s.timingBase v = s.timingBase c := by
  rw [moves]
  rfl

theorem timingBase_warmBand (s v : State) : (s.timingBase v).reg.warmBand = s.reg.warmBand := by
  unfold State.timingBase
  split <;> rfl

/-- R5, R13: a timing that runs where its condition holds is stopped where it cannot. -/
theorem stopped_of_condition {t : Timing} {c : Bool} (law : t ≠ .stopped ↔ c = true) (off : c = false) : t = .stopped := by
  by_contra runs
  exact absurd (law.1 runs) (by simp [off])

theorem timingBase_runaway (law : RegulatorTimingsLaw s) (elsewhere : s.reg.station ≠ .regulating) (v : State) :
    (s.timingBase v).reg.runaway = .stopped := by
  obtain ⟨-, -, -, -, runaway, -⟩ := law
  unfold State.timingBase
  split
  · exact stopped_of_condition runaway (runawayCondition_elsewhere elsewhere)
  · have unsaturated : s.saturatedAtRatings v = false := by
      simp [State.saturatedAtRatings, elsewhere]
    show judgedTiming s.reg.runaway (s.saturatedAtRatings v) v.clock = .stopped
    rw [unsaturated]
    rfl

/-- R5: the timings of a valid cycle, from a state whose timings run as their conditions say. -/
theorem cycleTaken_judged (law : RegulatorTimingsLaw s) (now f i : Nat) :
    TimingsJudged (s.timingBase (s.cycleTaken now f i)) (s.cycleTaken now f i) := by
  have station := (cycled_station s now f i).1
  have base : s.timingBase (s.cycleTaken now f i) = s.timingBase (s.cycled now f i) := timingBase_moves (stationMoved_moves _)
  rw [base]
  refine stationMoved_judged (cycled_judged now f i) (fun elsewhere => ?_) (fun elsewhere => ?_)
  · rw [timingBase_warmBand]
    refine stopped_of_condition law.1 ?_
    rw [station] at elsewhere
    simp [State.warmCondition, elsewhere]
  · exact timingBase_runaway law (station ▸ elsewhere) _

/-- R153: the three figures stand as posted. -/
def FiguresAre (s : State) (pg ps pb : Nat) : Prop := s.meas.pg = pg ∧ s.meas.ps = ps ∧ s.meas.pb = pb

theorem capturePosting_figures {pg ps pb : Nat} (figures : FiguresAre s pg ps pb) : FiguresAre (s.capturePosting l) pg ps pb := by
  cases capture : s.meas.captures.get l with
  | none => rwa [capturePosting_none capture]
  | some c =>
    rw [capturePosting_some capture]
    split <;> exact figures

theorem judgeDiscrepancy_figures {pg ps pb : Nat} (figures : FiguresAre s pg ps pb) : FiguresAre s.judgeDiscrepancy pg ps pb := by
  unfold State.judgeDiscrepancy
  split <;> exact figures

theorem post_figures (s : State) (pg ps pb : Nat) : FiguresAre (s.post pg ps pb) pg ps pb := by
  refine judgeDiscrepancy_figures (capturePosting_figures (capturePosting_figures (capturePosting_figures ?_)))
  unfold FiguresAre
  rw [judgeOverload_meas]
  exact ⟨rfl, rfl, rfl⟩

/-! ### Bd and the levels of a valid cycle -/

theorem cycleTaken_black (black : s.reg.station = .black) (now f i : Nat) :
    (s.cycleTaken now f i).reg.ratings = s.reg.ratings ∧ (s.cycleTaken now f i).reg.bd = s.reg.bd := by
  obtain ⟨-, -, -, -, -, -, -, -, -, -, -, ratings, bd⟩ := cycleTaken_counts s now f i
  rw [ratings, bd, cycled_black black]
  exact ⟨rfl, rfl⟩

theorem cycleTaken_live (live : s.reg.station ≠ .black) (now f i : Nat) :
    let v := s.cycleTaken now f i
    v.reg.ratings = s.set.tables.channels.rating
      ∧ v.reg.bd = min ((s.heldBd v.capacity : Int) + s.loopBy f).toNat v.capacity := by
  intro v
  obtain ⟨-, -, -, -, -, -, -, -, -, -, -, ratings, bd⟩ := cycleTaken_counts s now f i
  obtain ⟨ratings', bd', -⟩ := cycled_live now f i live
  have capacity : v.capacity = (s.cycled now f i).capacity := congrArg (fun r => r.toList.sum) ratings
  rw [capacity]
  exact ⟨ratings.trans ratings', bd.trans bd'⟩

theorem cycleTaken_levels (s : State) (now f i : Nat) :
    let v := s.cycleTaken now f i
    (v.reg.station = .black → v.reg.levels = s.reg.levels)
      ∧ (v.reg.station ≠ .black → v.reg.levels = levelsFor v.reg.bd v.reg.ratings) := by
  intro v
  have station := (cycled_station s now f i).1
  obtain ⟨inBlack, elsewhere⟩ := stationMoved_levels (s := s.cycled now f i) fun live => by
    rw [station] at live
    exact (cycled_live now f i live).2.2
  refine ⟨fun black => (inBlack black).trans ?_, elsewhere⟩
  have formula : v.reg.station = _ := cycleTaken_station s now f i
  rw [black] at formula
  have before : s.reg.station = .black := by
    by_contra live
    rw [if_neg live] at formula
    split at formula
    · exact StationState.noConfusion formula
    · exact live formula.symm
  rw [cycled_black before]
  rfl

end

end Sys2Proof.Machine

namespace Sys2Proof.Machine

/-! ### A valid cycle (R1 to R8, R14, R22 to R27, R35, R63, R120, R152, R153) -/

/-- R5, R6: the regulator at the end of its part, timings that a THRESHOLDS commit has overtaken expired and QUIET judged. -/
def State.cycleTested (s : State) (now f i : Nat) : State :=
  (if s.reg.inForce = s.set.tables.thresholds then s.cycleTaken now f i else (s.cycleTaken now f i).expireReached).judgeQuiet

/-- What follows the regulator's part of a valid cycle. -/
def State.postedAndStepped (u : State) (pg ps pb : Nat) : State := ((u.post pg ps pb).consider).stepBetweenMarks

section
variable {s t u : State} {now f i : Nat}

theorem completion_valid {m : Nat} (a : Sample) (rest : List Sample) (last : s.reg.lastCrossing = some m)
    (low : 4000 ≤ cycleFrequency i) (high : cycleFrequency i ≤ 6000) :
    cycleCompletionEffect i a rest s =
      (s.cycleTested (max s.now (m + i)) (cycleFrequency i) i).postedAndStepped (generatorFigure a rest) (sawFigure a rest)
        (ballastFigure a rest) := by
  unfold cycleCompletionEffect
  rw [cycleMark_valid last low high]
  exact congrArg (fun u : State => u.postedAndStepped _ _ _) (valid_cycle _ i last)

theorem judgeQuiet_moves (s : State) : StationMoves s s.judgeQuiet := rfl

theorem cycleTested_moves (s : State) (now f i : Nat) : StationMoves (s.cycleTaken now f i) (s.cycleTested now f i) := by
  unfold State.cycleTested
  split
  · exact judgeQuiet_moves _
  · exact (expireReached_moves _).trans (judgeQuiet_moves _)

theorem cycleTested_unchanged (same : s.reg.inForce = s.set.tables.thresholds) :
    s.cycleTested now f i = (s.cycleTaken now f i).judgeQuiet :=
  congrArg State.judgeQuiet (if_pos same)

theorem postedAndStepped_reg (pg ps pb : Nat) : (u.postedAndStepped pg ps pb).reg = u.reg := by
  unfold State.postedAndStepped
  rw [stepBetweenMarks_reg, consider_reg, post_reg]

theorem postedAndStepped_figures (pg ps pb : Nat) : FiguresAre (u.postedAndStepped pg ps pb) pg ps pb := by
  unfold FiguresAre State.postedAndStepped
  rw [stepBetweenMarks_meas, consider_meas]
  exact post_figures u pg ps pb

theorem postedAndStepped_frame {pg ps pb : Nat} (moves : StationMoves (s.cycleTaken now f i) u) :
    let t := u.postedAndStepped pg ps pb
    t =
      { s with
        now := now, reg := t.reg, alw := t.alw, fdr := t.fdr, saw := t.saw, meas := t.meas, links := t.links
        transit := t.transit } := by
  have taken := cycleTaken_frame s now f i
  refine framed ?_ ?_ ?_ ?_ ?_ ?_ ?_
  all_goals
    simp only [State.postedAndStepped, stepBetweenMarks_pending, consider_pending, post_pending, stepBetweenMarks_now,
      consider_now, post_now, stepBetweenMarks_held, consider_held, post_held, stepBetweenMarks_supplyRose,
      consider_supplyRose, post_supplyRose, stepBetweenMarks_cause, consider_cause, post_cause, stepBetweenMarks_set,
      consider_set, post_set, stepBetweenMarks_pins, consider_pins, post_pins]
    rw [moves, taken]

/-- R2 to R4, R6, R16, R23: what the regulator has counted when the cycle is over. -/
theorem cycleTested_counts (s : State) (now f i : Nat) :
    let u := s.cycleTested now f i
    u.reg.lastCrossing = some now ∧ u.reg.discardRun = 0 ∧ u.reg.overspeed = false
      ∧ u.reg.validRun = min (s.reg.validRun + 1) 8
      ∧ u.reg.history = (s.reg.history ++ [f]).drop (s.reg.history.length + 1 - 8)
      ∧ u.reg.lastPeriod = some i ∧ u.reg.midpoint = some (now + i / 2) ∧ u.reg.inForce = s.set.tables.thresholds
      ∧ u.reg.bd = (s.cycleTaken now f i).reg.bd ∧ u.reg.ratings = (s.cycleTaken now f i).reg.ratings := by
  obtain ⟨inForce, -, history, run, discards, overspeed, crossing, period, midpoint, -⟩ := cycleTaken_counts s now f i
  dsimp only
  rw [cycleTested_moves s now f i]
  exact ⟨crossing, discards, overspeed, run, history, period, midpoint, inForce, rfl, rfl⟩

/-- R35: with the ratings in force as committed, Bd moves by the loop step within their capacity. -/
theorem cycleTaken_bd (live : s.reg.station ≠ .black) (same : SameRatings s) (now f i : Nat) :
    (s.cycleTaken now f i).reg.bd = min ((s.reg.bd : Int) + s.loopBy f).toNat s.capacity := by
  obtain ⟨ratings, bd⟩ := cycleTaken_live live now f i
  have held (capacity : Nat) : s.heldBd capacity = s.reg.bd := if_pos same
  have capacity : (s.cycleTaken now f i).capacity = s.capacity := congrArg (fun r => r.toList.sum) (ratings.trans same.symm)
  rw [bd, held, capacity]

/-- R8, R14, R15: the station after the cycle, where no THRESHOLDS commit is taken. -/
theorem cycleTested_station (same : s.reg.inForce = s.set.tables.thresholds) :
    let u := s.cycleTested now f i
    (s.reg.station = .black → u.reg.station = if 7 ≤ s.reg.validRun then .warming else .black)
      ∧ (s.reg.station = .runaway →
          u.reg.station = if u.filteredIs (fun g => g < s.set.tables.thresholds.runawayExit) then .regulating else .runaway)
      ∧ (s.reg.station = .warming ∨ s.reg.station = .regulating ∨ s.reg.station = .deficit →
          u.reg.station = s.reg.station) := by
  have station := cycleTaken_station s now f i
  dsimp only at station ⊢
  rw [cycleTested_unchanged same]
  refine ⟨fun black => station.trans (if_pos black), fun runaway => ?_, fun other => ?_⟩
  · refine station.trans ?_
    rw [runaway, if_neg (by decide)]
    exact if_congr (and_iff_right rfl) rfl rfl
  · refine station.trans ?_
    rw [if_neg fun black => by simp [black] at other, if_neg fun h => by simp [h.1] at other]

end

/-- Settles O18: the regulator's part by `cycleTaken` and its laws; what follows it leaves the regulator as it is. -/
theorem validCycle : Obligations.ValidCycle := by
  refine ⟨fun p => cycleFrequency_nearest, fun i a rest s m held last low high => ?_⟩
  refine ⟨_, exec_running rfl held (completion_valid a rest last low high), ?_⟩
  set f := cycleFrequency i
  set now := max s.now (m + i)
  have reg := postedAndStepped_reg (u := s.cycleTested now f i) (generatorFigure a rest) (sawFigure a rest) (ballastFigure a rest)
  obtain ⟨pg, ps, pb⟩ := postedAndStepped_figures (u := s.cycleTested now f i) (generatorFigure a rest) (sawFigure a rest)
    (ballastFigure a rest)
  have frame := postedAndStepped_frame (pg := generatorFigure a rest) (ps := sawFigure a rest) (pb := ballastFigure a rest)
    (cycleTested_moves s now f i)
  obtain ⟨crossing, discards, overspeed, run, history, period, midpoint, inForce, bd, ratings⟩ := cycleTested_counts s now f i
  set t := (s.cycleTested now f i).postedAndStepped (generatorFigure a rest) (sawFigure a rest) (ballastFigure a rest)
  have heard (p : Nat → Bool) : t.filteredIs p = (s.cycleTested now f i).filteredIs p :=
    filteredIs_congr (congrArg (fun r : Regulator => r.history) reg) p
  dsimp only
  rw [reg]
  refine ⟨crossing, discards, overspeed, run, history, period, midpoint, inForce, pg, ps, pb, ?bdBlack, ?bdLive, ?leavesBlack,
    ?leavesRunaway, ?stays, reg ▸ frame, s.cycleTaken now f i, ?taken⟩
  case bdBlack => exact fun black => bd.trans (cycleTaken_black black now f i).2
  case bdLive =>
    exact fun live => ⟨ratings.trans (cycleTaken_live live now f i).1, fun same => bd.trans (cycleTaken_bd live same now f i)⟩
  case leavesBlack => exact fun same => (cycleTested_station same).1
  case leavesRunaway =>
    intro same runaway
    rw [heard]
    exact (cycleTested_station same).2.1 runaway
  case stays => exact fun same => (cycleTested_station same).2.2
  case taken =>
    obtain ⟨inForce, lineEmpty, history, run, discards, overspeed, crossing, period, midpoint, conducting, counts, -, -⟩ :=
      cycleTaken_counts s now f i
    obtain ⟨-, latch, unmoved, moved⟩ := cycleTaken_told s now f i
    obtain ⟨levelsBlack, levelsLive⟩ := cycleTaken_levels s now f i
    have begun : HalfCycleBegun s (s.cycleTaken now f i) := by
      unfold HalfCycleBegun
      rw [conducting, counts]
      exact halfCycleBegun_beginPositive s
    exact ⟨rfl, cycleTaken_frame s now f i, inForce, latch, lineEmpty, history, run, discards, overspeed, crossing, period,
      midpoint, cycleTaken_station s now f i, unmoved, moved, begun, fun black => cycleTaken_black black now f i,
      fun live => cycleTaken_live live now f i, levelsBlack, levelsLive, fun law => cycleTaken_judged law now f i⟩

end Sys2Proof.Machine

namespace Sys2Proof.Machine

/-! ### Operands read (R173; 11, "Orders") -/

/-- An order's operands are read where they fit, and are a bad operand where they do not. -/
def DecodesBy (r : Except Status Instr) (fits : Prop) : Prop :=
  (fits → ∃ i : Instr, r = .ok i) ∧ (¬ fits → r = .error .badOperand)

section
variable {l : Link} {ops : List Byte}

theorem noOperand_decodes (i : Instr) : DecodesBy (noOperand i ops) (0 = ops.length) := by
  match ops with
  | [] => exact ⟨fun _ => ⟨i, rfl⟩, fun bad => absurd rfl bad⟩
  | _ :: _ => exact ⟨fun fits => by simp at fits, fun _ => rfl⟩

theorem oneOperand_decodes (f : Nat → Instr) : DecodesBy (oneOperand f ops) (1 = ops.length) := by
  match ops with
  | [] => exact ⟨fun fits => by simp at fits, fun _ => rfl⟩
  | [a] => exact ⟨fun _ => ⟨f a.toNat, rfl⟩, fun bad => absurd rfl bad⟩
  | _ :: _ :: _ => exact ⟨fun fits => by simp at fits, fun _ => rfl⟩

theorem be16_mask {a b : Byte} : be16 a b < 2048 ↔ a.toNat < 8 := by
  have := b.isLt
  simp only [be16]
  omega

theorem decodeMask_decodes : DecodesBy (decodeMask l ops) (2 = ops.length ∧ (ops.getD 0 0).toNat < 8) := by
  match ops with
  | [] => exact ⟨fun fits => by simp at fits, fun _ => rfl⟩
  | [_] => exact ⟨fun fits => by simp at fits, fun _ => rfl⟩
  | [a, b] => exact ⟨fun fits => ⟨_, if_pos (be16_mask.2 fits.2)⟩, fun bad => if_neg fun low => bad ⟨rfl, be16_mask.1 low⟩⟩
  | _ :: _ :: _ :: _ => exact ⟨fun fits => by simp at fits, fun _ => rfl⟩

theorem decodeDeclare_decodes : DecodesBy (decodeDeclare l ops) (2 = ops.length) := by
  match ops with
  | [] => exact ⟨fun fits => by simp at fits, fun _ => rfl⟩
  | [_] => exact ⟨fun fits => by simp at fits, fun _ => rfl⟩
  | [a, b] => exact ⟨fun _ => ⟨_, rfl⟩, fun bad => absurd rfl bad⟩
  | _ :: _ :: _ :: _ => exact ⟨fun fits => by simp at fits, fun _ => rfl⟩

theorem tableNamed_some {n : Nat} (range : 1 ≤ n ∧ n ≤ 6) : ∃ t, tableNamed n = some t := by
  match n with
  | 0 => simp at range
  | 1 => exact ⟨_, rfl⟩
  | 2 => exact ⟨_, rfl⟩
  | 3 => exact ⟨_, rfl⟩
  | 4 => exact ⟨_, rfl⟩
  | 5 => exact ⟨_, rfl⟩
  | 6 => exact ⟨_, rfl⟩
  | k + 7 => omega

theorem tableNamed_none {n : Nat} (out : ¬ (1 ≤ n ∧ n ≤ 6)) : tableNamed n = none := by
  match n with
  | 0 => rfl
  | 1 => simp at out
  | 2 => simp at out
  | 3 => simp at out
  | 4 => simp at out
  | 5 => simp at out
  | 6 => simp at out
  | k + 7 => rfl

theorem tableOperand_decodes (f : TableId → Instr) :
    DecodesBy (tableOperand f ops) (1 = ops.length ∧ 1 ≤ (ops.getD 0 0).toNat ∧ (ops.getD 0 0).toNat ≤ 6) := by
  match ops with
  | [] => exact ⟨fun fits => by simp at fits, fun _ => rfl⟩
  | [a] =>
    refine ⟨fun ⟨_, range⟩ => ?_, fun bad => ?_⟩
    · obtain ⟨t, named⟩ : ∃ t, tableNamed a.toNat = some t := tableNamed_some range
      exact ⟨f t, by simp only [tableOperand, named]⟩
    · have named : tableNamed a.toNat = none := tableNamed_none fun range => bad ⟨rfl, range⟩
      simp only [tableOperand, named]
  | _ :: _ :: _ => exact ⟨fun fits => by simp at fits, fun _ => rfl⟩

theorem decodeOpenWindow_decodes :
    DecodesBy (decodeOpenWindow l ops) (3 = ops.length ∧ 1 ≤ (ops.getD 0 0).toNat ∧ (ops.getD 0 0).toNat ≤ 6) := by
  match ops with
  | [] => exact ⟨fun fits => by simp at fits, fun _ => rfl⟩
  | [_] => exact ⟨fun fits => by simp at fits, fun _ => rfl⟩
  | [_, _] => exact ⟨fun fits => by simp at fits, fun _ => rfl⟩
  | [a, b, c] =>
    refine ⟨fun ⟨_, range⟩ => ?_, fun bad => ?_⟩
    · obtain ⟨t, named⟩ : ∃ t, tableNamed a.toNat = some t := tableNamed_some range
      exact ⟨.openWindow l t b.toNat c.toNat, by simp only [decodeOpenWindow, named]⟩
    · have named : tableNamed a.toNat = none := tableNamed_none fun range => bad ⟨rfl, range⟩
      simp only [decodeOpenWindow, named]
  | _ :: _ :: _ :: _ :: _ => exact ⟨fun fits => by simp at fits, fun _ => rfl⟩

theorem copyNamed_some {n : Nat} (range : n ≤ 1) : ∃ c, copyNamed n = some c := by
  match n with
  | 0 => exact ⟨_, rfl⟩
  | 1 => exact ⟨_, rfl⟩
  | k + 2 => omega

theorem copyNamed_none {n : Nat} (out : ¬ n ≤ 1) : copyNamed n = none := by
  match n with
  | 0 => simp at out
  | 1 => simp at out
  | k + 2 => rfl

theorem decodeReadTable_decodes :
    DecodesBy (decodeReadTable l ops)
      (3 = ops.length ∧ (1 ≤ (ops.getD 0 0).toNat ∧ (ops.getD 0 0).toNat ≤ 6) ∧ (ops.getD 2 0).toNat ≤ 1) := by
  match ops with
  | [] => exact ⟨fun fits => by simp at fits, fun _ => rfl⟩
  | [_] => exact ⟨fun fits => by simp at fits, fun _ => rfl⟩
  | [_, _] => exact ⟨fun fits => by simp at fits, fun _ => rfl⟩
  | [a, b, c] =>
    refine ⟨fun ⟨_, table, copy⟩ => ?_, fun bad => ?_⟩
    · obtain ⟨t, named⟩ : ∃ t, tableNamed a.toNat = some t := tableNamed_some table
      obtain ⟨k, copied⟩ : ∃ k, copyNamed c.toNat = some k := copyNamed_some copy
      exact ⟨.readTable l t b.toNat k, by simp only [decodeReadTable, named, copied]⟩
    · by_cases table : 1 ≤ a.toNat ∧ a.toNat ≤ 6
      · have copied : copyNamed c.toNat = none := copyNamed_none fun copy => bad ⟨rfl, table, copy⟩
        obtain ⟨t, named⟩ := tableNamed_some table
        simp only [decodeReadTable, named, copied]
      · simp only [decodeReadTable, tableNamed_none table]
  | _ :: _ :: _ :: _ :: _ => exact ⟨fun fits => by simp at fits, fun _ => rfl⟩

theorem bindingOf_some {n : Nat} (listed : n ≤ 6 ∨ 0x11 ≤ n ∧ n ≤ 0x1C ∨ n = 0x20) : ∃ b, bindingOf n = some b := by
  unfold bindingOf
  split
  · exact ⟨_, rfl⟩
  · split
    · exact ⟨_, rfl⟩
    · split
      · exact ⟨_, rfl⟩
      · exact ⟨_, if_pos (by omega)⟩

theorem bindingOf_none {n : Nat} (unlisted : ¬ (n ≤ 6 ∨ 0x11 ≤ n ∧ n ≤ 0x1C ∨ n = 0x20)) : bindingOf n = none := by
  unfold bindingOf
  rw [if_neg (by omega), dif_neg (by omega), dif_neg (by omega), if_neg (by omega)]

theorem decodeClaim_decodes :
    DecodesBy (decodeClaim l ops)
      (12 = ops.length
        ∧ ((ops.getD 10 0).toNat ≤ 6 ∨ 0x11 ≤ (ops.getD 10 0).toNat ∧ (ops.getD 10 0).toNat ≤ 0x1C
            ∨ (ops.getD 10 0).toNat = 0x20)) := by
  by_cases length : 12 = ops.length
  · obtain ⟨n, a, b, c, d, e, f, g, h, i, j, k, rfl⟩ :
        ∃ n a b c d e f g h i j k : Byte, ops = [n, a, b, c, d, e, f, g, h, i, j, k] := by
      match ops, length with
      | [n, a, b, c, d, e, f, g, h, i, j, k], _ => exact ⟨n, a, b, c, d, e, f, g, h, i, j, k, rfl⟩
    refine ⟨fun ⟨_, listed⟩ => ?_, fun bad => ?_⟩
    · obtain ⟨binding, named⟩ : ∃ x, bindingOf j.toNat = some x := bindingOf_some listed
      exact ⟨_, by simp only [decodeClaim, named]; rfl⟩
    · have named : bindingOf j.toNat = none := bindingOf_none fun listed => bad ⟨rfl, listed⟩
      simp only [decodeClaim, named]
  · refine ⟨fun fits => absurd fits.1 length, fun _ => ?_⟩
    unfold decodeClaim
    split
    · exact absurd rfl length
    · rfl

end

end Sys2Proof.Machine

namespace Sys2Proof.Machine

/-! ### Frames that carry no order (R159 to R161, R172, R173) -/

/-- R173: the operand values that an order's own table of operands asks for. -/
def OperandsListed (code : Byte) (ops : List Byte) : Prop :=
  (code = 0x02 → (ops.getD 0 0).toNat < 8)
    ∧ (code = 0x03 ∨ code = 0x30 ∨ code = 0x31 ∨ code = 0x32 → 1 ≤ (ops.getD 0 0).toNat ∧ (ops.getD 0 0).toNat ≤ 6)
    ∧ (code = 0x30 → (ops.getD 2 0).toNat ≤ 1)
    ∧ (code = 0x20 →
        (ops.getD 10 0).toNat ≤ 6 ∨ 0x11 ≤ (ops.getD 10 0).toNat ∧ (ops.getD 10 0).toNat ≤ 0x1C
          ∨ (ops.getD 10 0).toNat = 0x20)

/-- The orders and the lengths of their operands (11, "Orders"), but LOAD DATA. -/
def operandLengths : List (Nat × Nat) :=
  [(0x00, 0), (0x01, 0), (0x02, 2), (0x03, 3), (0x05, 1), (0x06, 0), (0x07, 0), (0x08, 0), (0x10, 0), (0x11, 2),
   (0x20, 12), (0x21, 1), (0x22, 1), (0x23, 1), (0x30, 3), (0x31, 1), (0x32, 1), (0x40, 1), (0x41, 1), (0x42, 1),
   (0x43, 1), (0x50, 0), (0x51, 0), (0x52, 0), (0x53, 0), (0x54, 0), (0x55, 0), (0x56, 0), (0x57, 0), (0x60, 0),
   (0x61, 0)]

section
variable {l : Link} {code : Byte} {ops : List Byte} {s : State}

/-- R173: an order of the table is decoded by its length and its listed operands. -/
theorem decodeOrder_row {n k : Nat} {fits : Prop} (c : Byte) (number : c.toNat = k)
    (decodes : DecodesBy (decodeOrder l c ops) fits) (same : fits ↔ n = ops.length ∧ OperandsListed c ops)
    (is : k = code.toNat) : DecodesBy (decodeOrder l code ops) (n = ops.length ∧ OperandsListed code ops) := by
  obtain rfl : c = code := BitVec.eq_of_toNat_eq (number.trans is)
  rwa [← same]

/-- An order whose operands are any bytes of the right number. -/
theorem decodeOrder_plain {n k : Nat} (c : Byte) (number : c.toNat = k)
    (decodes : DecodesBy (decodeOrder l c ops) (n = ops.length))
    (free : c ≠ 0x02 ∧ c ≠ 0x03 ∧ c ≠ 0x30 ∧ c ≠ 0x31 ∧ c ≠ 0x32 ∧ c ≠ 0x20) (is : k = code.toNat) :
    DecodesBy (decodeOrder l code ops) (n = ops.length ∧ OperandsListed code ops) := by
  obtain ⟨mask, window, table, confirm, reject, claim⟩ := free
  have listed : OperandsListed c ops :=
    ⟨fun h => absurd h mask, fun h => absurd h (by simp only [window, table, confirm, reject, or_self, not_false_eq_true]),
      fun h => absurd h table, fun h => absurd h claim⟩
  exact decodeOrder_row c number decodes (and_iff_left listed).symm is

theorem decodeOrder_listed :
    ∀ p ∈ operandLengths, p.1 = code.toNat →
      DecodesBy (decodeOrder l code ops) (p.2 = ops.length ∧ OperandsListed code ops) := by
  have none_ (c : Byte) (i : Instr) (is : decodeOrder l c ops = noOperand i ops) :
      DecodesBy (decodeOrder l c ops) (0 = ops.length) := is ▸ noOperand_decodes i
  have one (c : Byte) (f : Nat → Instr) (is : decodeOrder l c ops = oneOperand f ops) :
      DecodesBy (decodeOrder l c ops) (1 = ops.length) := is ▸ oneOperand_decodes f
  simp only [operandLengths, List.forall_mem_cons]
  refine ⟨?null, ?readNotices, ?setNoticeMask, ?openWindow, ?supervise, ?readLink, ?readResetCause, ?readStation, ?ackTrip,
    ?declare, ?claim, ?withdraw, ?release, ?readClaim, ?readTable, ?confirm, ?reject, ?feederOn, ?feederOff, ?feederClear,
    ?readFeeder, ?sawStart, ?sawStop, ?sawFeed, ?sawReturn, ?sawHold, ?sawResume, ?sawClearFault, ?readSaw, ?takeSnapshot,
    ?readSnapshot, by simp⟩
  case null => exact decodeOrder_plain 0x00 rfl (none_ _ (.null l) rfl) (by decide)
  case readNotices => exact decodeOrder_plain 0x01 rfl (none_ _ (.readNotices l) rfl) (by decide)
  case setNoticeMask => exact decodeOrder_row 0x02 rfl decodeMask_decodes (by simp [OperandsListed])
  case openWindow => exact decodeOrder_row 0x03 rfl decodeOpenWindow_decodes (by simp [OperandsListed])
  case supervise => exact decodeOrder_plain 0x05 rfl (one _ (.supervise l) rfl) (by decide)
  case readLink => exact decodeOrder_plain 0x06 rfl (none_ _ (.readLink l) rfl) (by decide)
  case readResetCause => exact decodeOrder_plain 0x07 rfl (none_ _ (.readResetCause l) rfl) (by decide)
  case readStation => exact decodeOrder_plain 0x08 rfl (none_ _ (.readStation l) rfl) (by decide)
  case ackTrip => exact decodeOrder_plain 0x10 rfl (none_ _ (.ackTrip l) rfl) (by decide)
  case declare => exact decodeOrder_plain 0x11 rfl decodeDeclare_decodes (by decide)
  case claim => exact decodeOrder_row 0x20 rfl decodeClaim_decodes (by simp [OperandsListed])
  case withdraw => exact decodeOrder_plain 0x21 rfl (one _ (.withdraw l) rfl) (by decide)
  case release => exact decodeOrder_plain 0x22 rfl (one _ (.release l) rfl) (by decide)
  case readClaim => exact decodeOrder_plain 0x23 rfl (one _ (.readClaim l) rfl) (by decide)
  case readTable => exact decodeOrder_row 0x30 rfl decodeReadTable_decodes (by simp [OperandsListed])
  case confirm => exact decodeOrder_row 0x31 rfl (tableOperand_decodes (.confirm l)) (by simp [OperandsListed])
  case reject => exact decodeOrder_row 0x32 rfl (tableOperand_decodes (.reject l)) (by simp [OperandsListed])
  case feederOn => exact decodeOrder_plain 0x40 rfl (one _ (.feederOn l) rfl) (by decide)
  case feederOff => exact decodeOrder_plain 0x41 rfl (one _ (.feederOff l) rfl) (by decide)
  case feederClear => exact decodeOrder_plain 0x42 rfl (one _ (.feederClear l) rfl) (by decide)
  case readFeeder => exact decodeOrder_plain 0x43 rfl (one _ (.readFeeder l) rfl) (by decide)
  case sawStart => exact decodeOrder_plain 0x50 rfl (none_ _ (.sawStart l) rfl) (by decide)
  case sawStop => exact decodeOrder_plain 0x51 rfl (none_ _ (.sawStop l) rfl) (by decide)
  case sawFeed => exact decodeOrder_plain 0x52 rfl (none_ _ (.sawFeed l) rfl) (by decide)
  case sawReturn => exact decodeOrder_plain 0x53 rfl (none_ _ (.sawReturn l) rfl) (by decide)
  case sawHold => exact decodeOrder_plain 0x54 rfl (none_ _ (.sawHold l) rfl) (by decide)
  case sawResume => exact decodeOrder_plain 0x55 rfl (none_ _ (.sawResume l) rfl) (by decide)
  case sawClearFault => exact decodeOrder_plain 0x56 rfl (none_ _ (.sawClearFault l) rfl) (by decide)
  case readSaw => exact decodeOrder_plain 0x57 rfl (none_ _ (.readSaw l) rfl) (by decide)
  case takeSnapshot => exact decodeOrder_plain 0x60 rfl (none_ _ (.takeSnapshot l) rfl) (by decide)
  case readSnapshot => exact decodeOrder_plain 0x61 rfl (none_ _ (.readSnapshot l) rfl) (by decide)

/-- R161: a code outside the table of orders is not known. -/
theorem decodeOrder_unknown (notLoad : code.toNat ≠ 0x04) (unlisted : ∀ p ∈ operandLengths, p.1 ≠ code.toNat) :
    decodeOrder l code ops = .error .unknownOrder := by
  simp only [operandLengths, List.forall_mem_cons] at unlisted
  unfold decodeOrder
  split <;> simp_all

theorem decodeOrder_loadData : decodeOrder l 0x04 ops = .ok (.loadData l ops) := rfl

/-! #### The frame -/

/-- R160: bytes that are no valid frame. -/
theorem judgeFrame_discards {bytes : List Byte} {odd : Nat} (some_ : bytes ≠ [])
    (bad : odd ≠ 0 ∨ bytes.length < 3 ∨ 24 < (bytes.getD 1 0).toNat ∨ bytes.length ≠ (bytes.getD 1 0).toNat + 3
      ∨ bytes.getLast? ≠ some (crc8 bytes.dropLast)) : judgeFrame bytes odd = none := by
  match bytes with
  | [] => exact absurd rfl some_
  | [_] => rfl
  | code :: n :: [] => exact if_neg fun fits => by simp at fits
  | code :: n :: r :: rest =>
    refine if_neg fun fits => ?_
    obtain ⟨even, range, length, check⟩ := fits
    rcases bad with bad | bad | bad | bad | bad
    · exact bad even
    · simp only [List.length_cons] at bad
      omega
    · exact absurd range (Nat.not_le.2 bad)
    · refine bad ?_
      show (r :: rest).length + 1 + 1 = n.toNat + 3
      omega
    · refine bad ?_
      simpa [List.getLast?_cons_cons] using check

theorem exec_orderFrame_closed {bytes : List Byte} {odd : Nat} (shut : s.held = true ∨ (s.link l).selecting = false) :
    exec (.orderFrame l bytes odd) s = .next (s.deselect l) :=
  (exec_orderFrame l bytes odd s).trans (if_pos (by simpa using shut))

theorem exec_orderFrame_open {bytes : List Byte} {odd : Nat} (held : s.held = false) (window : (s.link l).selecting = true) :
    exec (.orderFrame l bytes odd) s = (s.deselect l).takeFrame l bytes odd :=
  (exec_orderFrame l bytes odd s).trans (if_neg (by simp [held, window]))

theorem takeFrame_discarded {bytes : List Byte} {odd : Nat} (some_ : bytes ≠ []) (bad : judgeFrame bytes odd = none) :
    s.takeFrame l bytes odd = .next (s.discardFrame l (bytes.headD 0)) := by
  match bytes with
  | [] => exact absurd rfl some_
  | first :: rest =>
    simp only [State.takeFrame, bad]
    rfl

theorem judgeFrame_nil (odd : Nat) : judgeFrame [] odd = none := rfl

theorem takeFrame_valid {bytes : List Byte} {odd : Nat} (valid : judgeFrame bytes odd = some (code, ops)) :
    (∀ st, decodeOrder l code ops = .error st → s.takeFrame l bytes odd = .next ((s.acceptFrame l code).answer l code st))
      ∧ ∀ i, decodeOrder l code ops = .ok i → s.takeFrame l bytes odd = takeOrder i (s.acceptFrame l code) := by
  match bytes with
  | [] => exact absurd ((judgeFrame_nil odd).symm.trans valid) (by simp)
  | first :: rest =>
    refine ⟨fun st bad => ?_, fun i ok => ?_⟩
    · simp only [State.takeFrame, valid, bad]
    · simp only [State.takeFrame, valid, ok]

/-- R160: a discarded frame, as one change of its link. -/
theorem discardFrame_eq (first : Byte) (cap : (s.link l).discarded ≤ 255) :
    s.discardFrame l first =
      s.onLink l fun c =>
        { c with
          discarded := min ((s.link l).discarded + 1) 255
          buffer := some { code := first, status := .frameError, data := [] } } := by
  have counted : (if (s.link l).discarded < 255 then (s.link l).discarded + 1 else (s.link l).discarded)
      = min ((s.link l).discarded + 1) 255 := by
    split <;> omega
  rw [← counted]
  cases l <;> rfl

end

/-- Settles O16: SELECT falls by its cases, a closed or empty window by the frame's own equation, discarded bytes by
`judgeFrame_discards`, and the table of orders by `decodeOrder_listed`. -/
theorem framesThatCarryNoOrder : Obligations.FramesThatCarryNoOrder := by
  refine ⟨fun l s => ⟨fun high held => ?falls, fun high held => ?kept, fun low => ?low, fun r i reply => ?shifted⟩,
    fun l odd s held window cap => ⟨?empty, fun bytes some_ bad => ?discarded, fun bytes code ops st valid bad => ?answered⟩,
    fun l bytes odd s shut => exec_orderFrame_closed shut,
    fun l code ops => ⟨fun load => ?load, fun notLoad unlisted => ?unknown, fun p listed is => ?decoded⟩⟩
  case falls =>
    refine congrArg Host.Outcome.next ((if_neg (Bool.eq_false_iff.1 high)).trans ((if_neg (Bool.eq_false_iff.1 held)).trans ?_))
    cases l <;> rfl
  case kept => exact congrArg Host.Outcome.next ((if_neg (Bool.eq_false_iff.1 high)).trans (if_pos held))
  case low => exact congrArg Host.Outcome.next (if_pos low)
  case shifted => simp only [State.dataOut, reply, Option.map_some, replyBytes]
  case empty => exact exec_orderFrame_open held window
  case discarded =>
    refine (exec_orderFrame_open held window).trans ((takeFrame_discarded some_ (judgeFrame_discards some_ bad)).trans ?_)
    have same : ((s.deselect l).link l).discarded = (s.link l).discarded := by
      rw [State.deselect, onLink_link]
    rw [discardFrame_eq _ (same ▸ cap), same]
    rfl
  case answered => exact (exec_orderFrame_open held window).trans ((takeFrame_valid valid).1 st bad)
  case load =>
    subst load
    exact decodeOrder_loadData
  case unknown => exact decodeOrder_unknown (fun is => notLoad (BitVec.eq_of_toNat_eq is)) unlisted
  case decoded =>
    obtain ⟨decodes, refuses⟩ := decodeOrder_listed (l := l) (ops := ops) p listed is
    exact ⟨fun length operands => decodes ⟨length, operands⟩, fun bad => refuses (by tauto)⟩

end Sys2Proof.Machine

namespace Sys2Proof.Machine

/-! ### Orders as frames and back (R160, R173) -/

section
variable {l : Link} {code : Byte} {ops : List Byte} {i : Instr}

theorem judgeFrame_encodeFrame (code : Byte) (short : ops.length ≤ 24) :
    judgeFrame (encodeFrame code ops) 0 = some (code, ops) := by
  have length : (BitVec.ofNat 8 ops.length).toNat = ops.length := toNat_byte (by omega)
  have body : (ops ++ [crc8 (code :: BitVec.ofNat 8 ops.length :: ops)]).dropLast = ops := List.dropLast_concat
  show (if _ then some (code, (ops ++ [crc8 (code :: BitVec.ofNat 8 ops.length :: ops)]).dropLast) else none) = _
  rw [body]
  refine if_pos ⟨rfl, length.trans_le short, ?_, ?_⟩
  · rw [length]
    exact List.length_append
  · exact List.getLast?_concat.trans (congrArg (fun operands => some (crc8 (code :: _ :: operands))) body.symm)

theorem byte_of_fits {n : Nat} (fits : fitsByte n = true) : (BitVec.ofNat 8 n).toNat = n :=
  toNat_byte (of_decide_eq_true fits)

theorem fitsByte_toNat (a : Byte) : fitsByte a.toNat = true := decide_eq_true a.isLt

theorem fitsWord_be16 (a b : Byte) : fitsWord (be16 a b) = true := decide_eq_true (be16_lt a b)

theorem word_of_fits {n : Nat} (fits : fitsWord n = true) : be16 (BitVec.ofNat 8 (n / 256)) (BitVec.ofNat 8 n) = n :=
  be16_bytes (of_decide_eq_true fits)

theorem tableNamed_iff {n : Nat} {t : TableId} : tableNamed n = some t ↔ tableCode t = n := by
  constructor
  · intro named
    match n with
    | 0 => cases named
    | 1 => cases named; rfl
    | 2 => cases named; rfl
    | 3 => cases named; rfl
    | 4 => cases named; rfl
    | 5 => cases named; rfl
    | 6 => cases named; rfl
    | k + 7 => cases named
  · rintro rfl
    cases t <;> rfl

theorem copyNamed_iff {n : Nat} {c : CopyId} : copyNamed n = some c ↔ copyCode c = n := by
  constructor
  · intro named
    match n with
    | 0 => cases named; rfl
    | 1 => cases named; rfl
    | k + 2 => cases named
  · rintro rfl
    cases c <;> rfl

theorem bindingOf_bindingCode (b : Binding) : bindingOf (bindingCode b) = some b := by
  match b with
  | .nothing => rfl
  | .aux x =>
    have range : 1 ≤ 1 + x.val ∧ 1 + x.val ≤ 6 := by omega
    simp [bindingOf, bindingCode, range]
  | .feeder k =>
    have some_ : ¬ 0x11 + k.val = 0 := by omega
    have low : ¬ (1 ≤ 0x11 + k.val ∧ 0x11 + k.val ≤ 6) := by omega
    have range : 0x11 ≤ 0x11 + k.val ∧ 0x11 + k.val ≤ 0x1C := by omega
    unfold bindingOf bindingCode
    rw [if_neg some_, dif_neg low, dif_pos range]
    simp
  | .saw => rfl

theorem bindingCode_bindingOf {n : Nat} {b : Binding} (named : bindingOf n = some b) : bindingCode b = n := by
  unfold bindingOf at named
  split at named
  next nothing => cases named; exact nothing.symm
  next =>
    split at named
    next range => cases named; simp only [bindingCode]; omega
    next =>
      split at named
      next range => cases named; simp only [bindingCode]; omega
      next =>
        split at named
        next saw => cases named; exact saw.symm
        next => cases named

theorem bindingOf_iff {n : Nat} {b : Binding} : bindingOf n = some b ↔ bindingCode b = n :=
  ⟨bindingCode_bindingOf, fun code => code ▸ bindingOf_bindingCode b⟩

theorem bindingCode_lt (b : Binding) : bindingCode b < 256 := by
  cases b <;> simp only [bindingCode] <;> omega

theorem tableCode_lt (t : TableId) : tableCode t < 256 := by cases t <;> decide

theorem copyCode_lt (c : CopyId) : copyCode c < 256 := by cases c <;> decide

/-- R173: an optional operand as two bytes, absent as 0xFFFF. -/
theorem optional16_bytes {o : Option Nat} (fits : fitsOptional o = true) :
    optional16 (BitVec.ofNat 8 (o.getD 0xFFFF / 256)) (BitVec.ofNat 8 (o.getD 0xFFFF)) = o := by
  match o with
  | none =>
    unfold optional16
    rw [Option.getD_none, be16_bytes (by omega), if_pos rfl]
  | some n =>
    have present : n < 0xFFFF := of_decide_eq_true fits
    unfold optional16
    rw [Option.getD_some, be16_bytes (by omega), if_neg (by omega)]

theorem optional16_read (a b : Byte) : fitsOptional (optional16 a b) = true ∧ u16 ((optional16 a b).getD 0xFFFF) = [a, b] := by
  have bound := be16_lt a b
  have bytes := u16_be16 a b
  unfold optional16
  split
  next absent => exact ⟨rfl, absent ▸ bytes⟩
  next present => exact ⟨decide_eq_true (by omega), bytes⟩

/-! #### The operands of an order are read back -/

theorem oneOperand_byte (f : Nat → Instr) {n : Nat} (fits : fitsByte n = true) : oneOperand f (u8 n) = .ok (f n) := by
  simp only [oneOperand, byte_of_fits fits]

theorem decodeMask_bytes (m : NoticeSet) : decodeMask l (u16 m.toNat) = .ok (.setNoticeMask l m) := by
  have bound := m.isLt
  have number := be16_bytes (n := m.toNat) (by omega)
  simp only [decodeMask]
  rw [number, if_pos (by omega), BitVec.ofNat_toNat, BitVec.setWidth_eq]

theorem tableOperand_byte (f : TableId → Instr) (t : TableId) : tableOperand f (u8 (tableCode t)) = .ok (f t) := by
  simp only [tableOperand, toNat_byte (tableCode_lt t), tableNamed_iff.2 rfl]

theorem decodeOpenWindow_bytes (t : TableId) {a b : Nat} (first : fitsByte a = true) (last : fitsByte b = true) :
    decodeOpenWindow l (u8 (tableCode t) ++ u8 a ++ u8 b) = .ok (.openWindow l t a b) := by
  simp only [decodeOpenWindow, u8, List.cons_append, List.nil_append, toNat_byte (tableCode_lt t), tableNamed_iff.2 rfl,
    byte_of_fits first, byte_of_fits last]

theorem decodeReadTable_bytes (t : TableId) (c : CopyId) {r : Nat} (fits : fitsByte r = true) :
    decodeReadTable l (u8 (tableCode t) ++ u8 r ++ u8 (copyCode c)) = .ok (.readTable l t r c) := by
  simp only [decodeReadTable, u8, List.cons_append, List.nil_append, toNat_byte (tableCode_lt t), tableNamed_iff.2 rfl,
    toNat_byte (copyCode_lt c), copyNamed_iff.2 rfl, byte_of_fits fits]

theorem decodeDeclare_bytes {d : Nat} (fits : fitsWord d = true) : decodeDeclare l (u16 d) = .ok (.declare l d) := by
  simp only [decodeDeclare, word_of_fits fits]

theorem decodeClaim_bytes {o : ClaimOperands} (fits : claimOperandsFit o = true) :
    decodeClaim l (claimBytes o) = .ok (.claim l o) := by
  simp only [claimOperandsFit, Bool.and_eq_true] at fits
  obtain ⟨⟨⟨⟨⟨⟨number, amount⟩, runAmount⟩, surgeTime⟩, leadTime⟩, waitLimit⟩, tag⟩ := fits
  simp only [decodeClaim, claimBytes, u8, u16, List.cons_append, List.nil_append, toNat_byte (bindingCode_lt o.binding),
    bindingOf_iff.2 rfl, byte_of_fits number, word_of_fits amount, optional16_bytes runAmount, optional16_bytes surgeTime,
    byte_of_fits leadTime, optional16_bytes waitLimit, byte_of_fits tag]

/-- R160, R173: what a well-formed order is sent as is decoded to that order. -/
theorem order_decodes {o : Order} (fits : wellFormed i = true) (sent : encodeOrder i = some o) :
    decodeOrder o.link o.code o.operands = .ok i ∧ o.operands.length ≤ 24 := by
  cases i
  case setNoticeMask l m => cases sent; exact ⟨decodeMask_bytes m, Nat.le_of_ble_eq_true rfl⟩
  case openWindow l t a b =>
    cases sent
    obtain ⟨first, last⟩ : fitsByte a = true ∧ fitsByte b = true := (Bool.and_eq_true _ _).mp fits
    exact ⟨decodeOpenWindow_bytes t first last, Nat.le_of_ble_eq_true rfl⟩
  case loadData l bytes => cases sent; exact ⟨rfl, of_decide_eq_true fits⟩
  case declare l d => cases sent; exact ⟨decodeDeclare_bytes fits, Nat.le_of_ble_eq_true rfl⟩
  case claim l o => cases sent; exact ⟨decodeClaim_bytes fits, Nat.le_of_ble_eq_true rfl⟩
  case readTable l t r c => cases sent; exact ⟨decodeReadTable_bytes t c fits, Nat.le_of_ble_eq_true rfl⟩
  case confirm l t => cases sent; exact ⟨tableOperand_byte (.confirm l) t, Nat.le_of_ble_eq_true rfl⟩
  case reject l t => cases sent; exact ⟨tableOperand_byte (.reject l) t, Nat.le_of_ble_eq_true rfl⟩
  case supervise l n => cases sent; exact ⟨oneOperand_byte (.supervise l) fits, Nat.le_of_ble_eq_true rfl⟩
  case withdraw l n => cases sent; exact ⟨oneOperand_byte (.withdraw l) fits, Nat.le_of_ble_eq_true rfl⟩
  case release l n => cases sent; exact ⟨oneOperand_byte (.release l) fits, Nat.le_of_ble_eq_true rfl⟩
  case readClaim l n => cases sent; exact ⟨oneOperand_byte (.readClaim l) fits, Nat.le_of_ble_eq_true rfl⟩
  case feederOn l n => cases sent; exact ⟨oneOperand_byte (.feederOn l) fits, Nat.le_of_ble_eq_true rfl⟩
  case feederOff l n => cases sent; exact ⟨oneOperand_byte (.feederOff l) fits, Nat.le_of_ble_eq_true rfl⟩
  case feederClear l n => cases sent; exact ⟨oneOperand_byte (.feederClear l) fits, Nat.le_of_ble_eq_true rfl⟩
  case readFeeder l n => cases sent; exact ⟨oneOperand_byte (.readFeeder l) fits, Nat.le_of_ble_eq_true rfl⟩
  all_goals cases sent
  all_goals exact ⟨rfl, Nat.zero_le _⟩

end

end Sys2Proof.Machine

namespace Sys2Proof.Machine

/-! ### Whatever order a frame is decoded to is sent as that frame (R160, R173) -/

/-- What is decoded is a well-formed order, sent as these bytes. -/
def SentAs (l : Link) (code : Byte) (ops : List Byte) (r : Except Status Instr) : Prop :=
  ∀ i : Instr, r = .ok i → wellFormed i = true ∧ encodeOrder i = some ⟨l, code, ops⟩

section
variable {l : Link} {code : Byte} {ops : List Byte}

theorem sentAs_ok {i : Instr} (fits : wellFormed i = true) (sent : encodeOrder i = some ⟨l, code, ops⟩) :
    SentAs l code ops (.ok i) := by
  rintro _ ⟨⟩
  exact ⟨fits, sent⟩

theorem sentAs_error (st : Status) : SentAs l code ops (.error st) := fun _ h => by cases h

theorem noOperand_sentAs (i : Instr) (fits : wellFormed i = true) (sent : encodeOrder i = some ⟨l, code, []⟩) :
    SentAs l code ops (noOperand i ops) := by
  match ops with
  | [] => exact sentAs_ok fits sent
  | _ :: _ => exact sentAs_error _

theorem oneOperand_sentAs (f : Nat → Instr) (fits : ∀ n, wellFormed (f n) = fitsByte n)
    (sent : ∀ n, encodeOrder (f n) = some ⟨l, code, u8 n⟩) : SentAs l code ops (oneOperand f ops) := by
  match ops with
  | [] => exact sentAs_error _
  | [a] => exact sentAs_ok ((fits _).trans (fitsByte_toNat a)) (u8_toNat a ▸ sent a.toNat)
  | _ :: _ :: _ => exact sentAs_error _

theorem decodeMask_sentAs : SentAs l Code.setNoticeMask ops (decodeMask l ops) := by
  unfold decodeMask
  split
  next a b =>
    split
    next low =>
      have number : (BitVec.ofNat 11 (be16 a b)).toNat = be16 a b := Nat.mod_eq_of_lt low
      refine sentAs_ok rfl ?_
      rw [encodeOrder, number, u16_be16]
    next => exact sentAs_error _
  next => exact sentAs_error _

theorem decodeDeclare_sentAs : SentAs l Code.declare ops (decodeDeclare l ops) := by
  unfold decodeDeclare
  split
  next a b =>
    refine sentAs_ok (fitsWord_be16 a b) ?_
    rw [encodeOrder, u16_be16]
  next => exact sentAs_error _

theorem u8_tableCode {a : Byte} {t : TableId} (named : tableNamed a.toNat = some t) : u8 (tableCode t) = [a] := by
  rw [tableNamed_iff.1 named, u8_toNat]

theorem u8_copyCode {a : Byte} {c : CopyId} (named : copyNamed a.toNat = some c) : u8 (copyCode c) = [a] := by
  rw [copyNamed_iff.1 named, u8_toNat]

theorem u8_bindingCode {a : Byte} {b : Binding} (named : bindingOf a.toNat = some b) : u8 (bindingCode b) = [a] := by
  rw [bindingOf_iff.1 named, u8_toNat]

theorem tableOperand_sentAs (f : TableId → Instr) (fits : ∀ t, wellFormed (f t) = true)
    (sent : ∀ t, encodeOrder (f t) = some ⟨l, code, u8 (tableCode t)⟩) : SentAs l code ops (tableOperand f ops) := by
  unfold tableOperand
  split
  next a =>
    split
    next t named => exact sentAs_ok (fits t) (u8_tableCode named ▸ sent t)
    next => exact sentAs_error _
  next => exact sentAs_error _

theorem decodeOpenWindow_sentAs : SentAs l Code.openWindow ops (decodeOpenWindow l ops) := by
  unfold decodeOpenWindow
  split
  next a b c =>
    split
    next t named =>
      refine sentAs_ok ((Bool.and_eq_true _ _).mpr ⟨fitsByte_toNat b, fitsByte_toNat c⟩) ?_
      rw [encodeOrder, u8_tableCode named, u8_toNat, u8_toNat]
      rfl
    next => exact sentAs_error _
  next => exact sentAs_error _

theorem decodeReadTable_sentAs : SentAs l Code.readTable ops (decodeReadTable l ops) := by
  unfold decodeReadTable
  split
  next a b c =>
    split
    next t k named copied =>
      refine sentAs_ok (fitsByte_toNat b) ?_
      rw [encodeOrder, u8_tableCode named, u8_toNat, u8_copyCode copied]
      rfl
    next => exact sentAs_error _
  next => exact sentAs_error _

theorem decodeClaim_sentAs : SentAs l Code.claim ops (decodeClaim l ops) := by
  unfold decodeClaim
  split
  next n a b c d e f g h i j k =>
    split
    next bind named =>
      obtain ⟨runFits, runBytes⟩ := optional16_read c d
      obtain ⟨surgeFits, surgeBytes⟩ := optional16_read e f
      obtain ⟨waitFits, waitBytes⟩ := optional16_read h i
      refine sentAs_ok ?_ ?_
      · simp only [wellFormed, claimOperandsFit, Bool.and_eq_true]
        exact ⟨⟨⟨⟨⟨⟨fitsByte_toNat n, fitsWord_be16 a b⟩, runFits⟩, surgeFits⟩, fitsByte_toNat g⟩, waitFits⟩, fitsByte_toNat k⟩
      · simp only [encodeOrder, claimBytes, runBytes, surgeBytes, waitBytes, u8_bindingCode named, u8_toNat, u16_be16,
          List.cons_append, List.nil_append]
    next => exact sentAs_error _
  next => exact sentAs_error _

theorem decodeOrder_sentAs_row {k : Nat} (c : Byte) (number : c.toNat = k) (back : SentAs l c ops (decodeOrder l c ops))
    (is : k = code.toNat) : SentAs l code ops (decodeOrder l code ops) := by
  obtain rfl : c = code := BitVec.eq_of_toNat_eq (number.trans is)
  exact back

theorem decodeOrder_listed_sentAs :
    ∀ p ∈ operandLengths, p.1 = code.toNat → SentAs l code ops (decodeOrder l code ops) := by
  simp only [operandLengths, List.forall_mem_cons]
  refine ⟨?null, ?readNotices, ?setNoticeMask, ?openWindow, ?supervise, ?readLink, ?readResetCause, ?readStation, ?ackTrip,
    ?declare, ?claim, ?withdraw, ?release, ?readClaim, ?readTable, ?confirm, ?reject, ?feederOn, ?feederOff, ?feederClear,
    ?readFeeder, ?sawStart, ?sawStop, ?sawFeed, ?sawReturn, ?sawHold, ?sawResume, ?sawClearFault, ?readSaw, ?takeSnapshot,
    ?readSnapshot, by simp⟩
  case null => exact decodeOrder_sentAs_row Code.null rfl (noOperand_sentAs (.null l) rfl rfl)
  case readNotices => exact decodeOrder_sentAs_row Code.readNotices rfl (noOperand_sentAs (.readNotices l) rfl rfl)
  case setNoticeMask => exact decodeOrder_sentAs_row Code.setNoticeMask rfl decodeMask_sentAs
  case openWindow => exact decodeOrder_sentAs_row Code.openWindow rfl decodeOpenWindow_sentAs
  case supervise =>
    exact decodeOrder_sentAs_row Code.supervise rfl (oneOperand_sentAs (.supervise l) (fun _ => rfl) fun _ => rfl)
  case readLink => exact decodeOrder_sentAs_row Code.readLink rfl (noOperand_sentAs (.readLink l) rfl rfl)
  case readResetCause => exact decodeOrder_sentAs_row Code.readResetCause rfl (noOperand_sentAs (.readResetCause l) rfl rfl)
  case readStation => exact decodeOrder_sentAs_row Code.readStation rfl (noOperand_sentAs (.readStation l) rfl rfl)
  case ackTrip => exact decodeOrder_sentAs_row Code.ackTrip rfl (noOperand_sentAs (.ackTrip l) rfl rfl)
  case declare => exact decodeOrder_sentAs_row Code.declare rfl decodeDeclare_sentAs
  case claim => exact decodeOrder_sentAs_row Code.claim rfl decodeClaim_sentAs
  case withdraw =>
    exact decodeOrder_sentAs_row Code.withdraw rfl (oneOperand_sentAs (.withdraw l) (fun _ => rfl) fun _ => rfl)
  case release =>
    exact decodeOrder_sentAs_row Code.release rfl (oneOperand_sentAs (.release l) (fun _ => rfl) fun _ => rfl)
  case readClaim =>
    exact decodeOrder_sentAs_row Code.readClaim rfl (oneOperand_sentAs (.readClaim l) (fun _ => rfl) fun _ => rfl)
  case readTable => exact decodeOrder_sentAs_row Code.readTable rfl decodeReadTable_sentAs
  case confirm =>
    exact decodeOrder_sentAs_row Code.confirm rfl (tableOperand_sentAs (.confirm l) (fun _ => rfl) fun _ => rfl)
  case reject =>
    exact decodeOrder_sentAs_row Code.reject rfl (tableOperand_sentAs (.reject l) (fun _ => rfl) fun _ => rfl)
  case feederOn =>
    exact decodeOrder_sentAs_row Code.feederOn rfl (oneOperand_sentAs (.feederOn l) (fun _ => rfl) fun _ => rfl)
  case feederOff =>
    exact decodeOrder_sentAs_row Code.feederOff rfl (oneOperand_sentAs (.feederOff l) (fun _ => rfl) fun _ => rfl)
  case feederClear =>
    exact decodeOrder_sentAs_row Code.feederClear rfl (oneOperand_sentAs (.feederClear l) (fun _ => rfl) fun _ => rfl)
  case readFeeder =>
    exact decodeOrder_sentAs_row Code.readFeeder rfl (oneOperand_sentAs (.readFeeder l) (fun _ => rfl) fun _ => rfl)
  case sawStart => exact decodeOrder_sentAs_row Code.sawStart rfl (noOperand_sentAs (.sawStart l) rfl rfl)
  case sawStop => exact decodeOrder_sentAs_row Code.sawStop rfl (noOperand_sentAs (.sawStop l) rfl rfl)
  case sawFeed => exact decodeOrder_sentAs_row Code.sawFeed rfl (noOperand_sentAs (.sawFeed l) rfl rfl)
  case sawReturn => exact decodeOrder_sentAs_row Code.sawReturn rfl (noOperand_sentAs (.sawReturn l) rfl rfl)
  case sawHold => exact decodeOrder_sentAs_row Code.sawHold rfl (noOperand_sentAs (.sawHold l) rfl rfl)
  case sawResume => exact decodeOrder_sentAs_row Code.sawResume rfl (noOperand_sentAs (.sawResume l) rfl rfl)
  case sawClearFault => exact decodeOrder_sentAs_row Code.sawClearFault rfl (noOperand_sentAs (.sawClearFault l) rfl rfl)
  case readSaw => exact decodeOrder_sentAs_row Code.readSaw rfl (noOperand_sentAs (.readSaw l) rfl rfl)
  case takeSnapshot => exact decodeOrder_sentAs_row Code.takeSnapshot rfl (noOperand_sentAs (.takeSnapshot l) rfl rfl)
  case readSnapshot => exact decodeOrder_sentAs_row Code.readSnapshot rfl (noOperand_sentAs (.readSnapshot l) rfl rfl)

/-- LOAD DATA, the listed orders, and the codes that are none. -/
theorem decodeOrder_sentAs (short : ops.length ≤ 24) : SentAs l code ops (decodeOrder l code ops) := by
  by_cases load : code.toNat = 0x04
  · obtain rfl : code = 0x04 := BitVec.eq_of_toNat_eq load
    exact sentAs_ok (decide_eq_true short) rfl
  · by_cases listed : ∃ p ∈ operandLengths, p.1 = code.toNat
    · obtain ⟨p, row, is⟩ := listed
      exact decodeOrder_listed_sentAs p row is
    · rw [decodeOrder_unknown load fun p row is => listed ⟨p, row, is⟩]
      exact sentAs_error _

end

/-- Settles O14: the frame is judged as it was encoded, its operands are read back, and each decoder's answer is sent as
the bytes it read. -/
theorem orderFramesRoundTrip : Obligations.OrderFramesRoundTrip := by
  refine ⟨fun i o fits sent => ?_, fun l code ops i short decoded => decodeOrder_sentAs short i decoded⟩
  obtain ⟨decoded, short⟩ := order_decodes fits sent
  exact ⟨judgeFrame_encodeFrame o.code short, decoded⟩

end Sys2Proof.Machine

namespace Sys2Proof.Machine

/-! ### A valid frame takes its order (R59, R76, R161, R167 to R169) -/

section
variable {s : State} {l m : Link} {code : Byte}

/-! #### The loss of the link, taken first -/

theorem loseClaim_now (s : State) (n : Fin 24) : (s.loseClaim n).now = s.now := by
  unfold State.loseClaim
  split <;> simp

theorem linkLossAllowance_now (l : Link) (s : State) : (linkLossAllowanceEffect l s).now = s.now := by
  have fold (ns : List (Fin 24)) (t : State) : (ns.foldl State.loseClaim t).now = t.now := by
    induction ns generalizing t with
    | nil => rfl
    | cons n ns ih => exact (ih _).trans (loseClaim_now t n)
  unfold linkLossAllowanceEffect
  dsimp only
  split
  · exact fold _ _
  · exact (consider_now _).trans (fold _ _)

theorem linkLossSaw_now (l : Link) (s : State) : (linkLossSawEffect l s).now = s.now := by
  unfold linkLossSawEffect
  split
  · exact stopSequence_now s _
  · rfl

theorem takeReport_now {i : Instr} {effect : State → State} (kept : ∀ t, (effect t).now = t.now) :
    (s.takeReport i effect).now = s.now := by
  unfold State.takeReport
  split
  · exact kept _
  · rfl

theorem takeLoss_now (s : State) (l : Link) : (s.takeLoss l).now = s.now :=
  (takeReport_now (linkLossSaw_now l)).trans (takeReport_now (linkLossAllowance_now l))

/-! #### The link, recovered and renewed -/

theorem recover_now (s : State) (l : Link) : (s.recover l).now = s.now := by
  unfold State.recover
  split
  · cases l <;> rfl
  · rfl

theorem recover_link_self (s : State) (l : Link) : (s.recover l).link l = { s.link l with lost := false } := by
  unfold State.recover
  split
  · rw [notifyOthers_self, link_onLink_self]
  next active => rw [← Bool.eq_false_iff.2 active]

theorem recover_link_of_ne (s : State) (other : m ≠ l) :
    (s.recover l).link m = if (s.link l).lost then (s.addNotice m .link).link m else s.link m := by
  rw [addNotice_link_self]
  unfold State.recover
  split
  · rw [notifyOthers_of_ne _ _ other, link_onLink_of_ne _ _ other]
  · rfl

theorem closeWindow_link_self (s : State) (l : Link) (code : Byte) :
    (s.closeWindow l code).link l =
      { s.link l with window := if code = Code.loadData then (s.link l).window else none } := by
  unfold State.closeWindow
  split
  · rfl
  · rw [link_onLink_self]

theorem closeWindow_link_of_ne (s : State) (code : Byte) (other : m ≠ l) : (s.closeWindow l code).link m = s.link m := by
  unfold State.closeWindow
  split
  · rfl
  · exact link_onLink_of_ne _ _ other

/-- R161, R167 to R169: the link as its order finds it. -/
theorem acceptFrame_link_self (s : State) (l : Link) (code : Byte) :
    let b := s.takeLoss l
    (s.acceptFrame l code).link l =
      { b.link l with
        lost := false
        supervision := (b.link l).supervision.map fun p => { p with deadline := some (s.clock + 10 * p.period) }
        window := if code = Code.loadData then (b.link l).window else none
        atFrame := { lost := (b.link l).lost, window := (b.link l).window.map Window.range } } := by
  intro b
  have clock : ((b.recordArrival l).recover l).clock = s.clock :=
    congrArg (· / Config.microsPerTick) ((recover_now _ l).trans (takeLoss_now s l))
  have tenths (n : Nat) : Config.tenths n = 10 * n := Nat.mul_comm n 10
  unfold State.acceptFrame
  rw [closeWindow_link_self, State.renew, link_onLink_self, clock, recover_link_self, State.recordArrival, link_onLink_self]
  simp only [tenths, b]

theorem acceptFrame_link_of_ne (s : State) (code : Byte) (other : m ≠ l) :
    let b := s.takeLoss l
    (s.acceptFrame l code).link m = if (b.link l).lost then (b.addNotice m .link).link m else b.link m := by
  intro b
  have lost : ((b.recordArrival l).link l).lost = (b.link l).lost := by rw [State.recordArrival, link_onLink_self]
  have kept : (b.recordArrival l).link m = b.link m := link_onLink_of_ne b _ other
  unfold State.acceptFrame
  rw [closeWindow_link_of_ne _ _ other, State.renew, link_onLink_of_ne _ _ other, recover_link_of_ne _ other, lost,
    addNotice_link_self, addNotice_link_self, kept]

end

/-- Settles O15: the frame is judged and decoded to its order, the reports of the link's loss are taken as their rows say, and
the order is taken from the state that the frame's acceptance leaves. -/
theorem validFrameTakesItsOrder : Obligations.ValidFrameTakesItsOrder := by
  intro i o s fits sent held window taken closed
  obtain ⟨decoded, short⟩ := order_decodes fits sent
  set a := closed.takeReport (.linkLossReportAllowance o.link) (linkLossAllowanceEffect o.link)
  have heldA : a.held = false := (takeReport_held (linkLossAllowance_held o.link)).trans held
  have valid := takeFrame_valid (s := closed) (l := o.link) (judgeFrame_encodeFrame o.code short)
  refine ⟨a, closed.takeLoss o.link, closed.acceptFrame o.link o.code, ?allowance, ?saw, ?order, acceptFrame_eq _ _ _, ?link,
    fun m other => acceptFrame_link_of_ne closed o.code other, fun l => takeLoss_noticesOnly closed o.link l⟩
  case allowance => exact ⟨takeReport_allowance held, takeReport_none⟩
  case saw => exact ⟨takeReport_saw heldA, takeReport_none⟩
  case order =>
    rw [exec_orderFrame_open held window, ← takeOrder_eq_exec sent]
    exact valid.2 i decoded
  case link => exact acceptFrame_link_self closed o.link o.code

end Sys2Proof.Machine
